-- ==== Sys2Proof/Word.lean ====
section
/-! DEFINITION. The words of the model: octets of the control link, zone sets, and the plainest arithmetic on them.

The manual numbers positions, zones, channels and bands from 1. Inside the model each is held as an INDEX counted
from 0: index `i` stands for position, zone, channel or band `i + 1`. Octets on the link carry the manual's numbers. -/

namespace Sys2Proof

/-- One octet of the control link (R173). -/
abbrev Octet := BitVec 8

/-- A zone set (R1): a membership set of 24 entries. Bit `i` is the membership of position `i + 1`, which is also
its place in the three octets of the link (R183: bit i of octet j is position 8j + i + 1). -/
abbrev ZoneSet := BitVec 24

/-- Membership of index `i` (position `i + 1`) in a zone set. -/
abbrev ZoneSet.mem (z : ZoneSet) (i : Nat) : Bool := z.getLsbD i

/-- The zone set whose one member is index `i`. -/
abbrev ZoneSet.one (i : Nat) : ZoneSet := BitVec.twoPow 24 i

/-- The zone set of the indices below `k` that satisfy `p`. -/
def ZoneSet.below (p : Nat → Bool) : Nat → ZoneSet
  | 0 => 0#24
  | k + 1 => if p k then ZoneSet.below p k ||| ZoneSet.one k else ZoneSet.below p k

/-- The two ends of the chain (section 4.1): end A is served by String Port A, end B by String Port B. -/
inductive ChainEnd where
  | a
  | b
deriving DecidableEq, Repr

/-- The end that is not `e`. -/
def ChainEnd.other : ChainEnd → ChainEnd
  | .a => .b
  | .b => .a

end Sys2Proof
end

