-- ==== Sys2Proof/Config.lean ====
section
/-! DEFINITION. What the manual fixes for every part as constants, and the FREE VALUES: what it leaves open.
A free value is an opaque constant with no body, so no claim can rest on what it is. -/

namespace Sys2Proof.Config

/-- The silicon revision that IDENTIFY reports (R180). The manual states no value and no width: a free value of one octet
(log entry 14). -/
opaque siliconRevision : Octet

/-- The number of page programs of a settings copy, less one (R171 programs it "page by page"; the manual states no
layout of the copy): a free value (log entry 9). -/
opaque settingsPagesLessOne : Nat

/-- Whether a remaining time that is not a whole number of milliseconds is reported rounded up (R16, R101, R127 say
"whole milliseconds" and no direction): a free value of the remaining loop frames (log entry 11). -/
opaque roundsUp : Nat → Bool

/-- The class scale of a record computed for a unit that is not ACTIVE (R68, R72 state none): a free value of the
class number, cut to the Q8 range where it is used (log entry 12). -/
opaque offSigma : Nat → Nat

/-- The common factor of a record computed for a unit that is not ACTIVE (R68, R72 state none): a free value, cut to
the Q8 range where it is used (log entry 12). -/
opaque offTau : Nat

/-- Whether, at the loop frame boundary numbered by the argument, an expiry of the alarm timer comes before the frame
close of the other blocks (R51 and R6 give no order): a free value (log entry 7). -/
opaque alarmFirst : Nat → Bool

/-- Whether the Rescue Relay takes the mode change set numbered by the argument before the Power Budget Engine does
(R74 leaves the order open): a free value (log entry 8). -/
opaque relayFirst : Nat → Bool

/-- The octet that the flash holds at an address inside an erase or a program that was cut (R161 leaves it open):
a free value of the flash's cut count and the address (log entry 10). -/
opaque tornOctet : Nat → Nat → Octet

/-- The five named fields of a slot's header, as a number each, after an erase or a program of that header was cut:
a free value of the flash's cut count and the field's place (log entry 10). -/
opaque tornField : Nat → Nat → Nat

end Sys2Proof.Config
end

