-- ==== Sys2Proof/Syntax.lean ====
section
/-! DEFINITION. The commands: one constructor of `Instr` per row of spec/opcode_table.json.

The part is a block, not a processor: its commands are the requests and the stream block of the control link, the octets
and frame events of that link, and the events of its ports and timers. A request carries its tag and its BODY OCTETS as
they stand in the frame (R183), so the length check of R175 and every undefined code of a field can be met. -/

namespace Sys2Proof

/-- The line rate that the rate strap selects (R173). -/
inductive LineRate where
  | mbit1
  | mbit4
deriving DecidableEq, Repr

/-- The thermal states a unit reports (R5). -/
inductive Thermal where
  | normal
  | warm
  | hot
  | shutdown
deriving DecidableEq, Repr

/-- One unit's answer on one end in one loop frame (R5): eight quality values, eight emergency-call flags (bit c for
channel c + 1), four activity values, the thermal state, the turnaround TRN, the measured round trip RTT, and the octet
of the identity that an identity-read order asked for (R11; without meaning outside a read). -/
structure Answer where
  quality : List Octet
  calls : BitVec 8
  activity : List Nat
  thermal : Thermal
  trn : Nat
  rtt : Nat
  part : Octet
deriving DecidableEq, Repr

/-- What one loop frame brings to the part by its close: the answers of the positions on end A and on end B, in position
order (`none`: the answer is missing, R5), and the levels of the ALARM and MAINT inputs at the boundary. -/
structure FrameInput where
  onA : List (Option Answer)
  onB : List (Option Answer)
  alarm : Bool
  maint : Bool
deriving DecidableEq, Repr

/-- The commands of spec/opcode_table.json, one constructor per row. -/
inductive Instr where
  | powerOn (rate : LineRate)
  | resetAssert
  | resetRelease (rate : LineRate)
  | settingsReadComplete
  | headerReadComplete
  | loopFrameClose (f : FrameInput)
  | positionTurnsAnswering (p : Fin 24) (e : ChainEnd)
  | positionTurnsSilent (p : Fin 24) (e : ChainEnd)
  | identityReadComplete (p : Fin 24) (part : Octet)
  | healTimerExpiry (p : Fin 24)
  | alarmTimerExpiry
  | turnaroundExpiry (c : Fin 8)
  | hangExpiry (c : Fin 8)
  | talkTimeout (c : Fin 8)
  | dlOn (c : Fin 8)
  | dlOff (c : Fin 8)
  | gateHoldExpiry (b : Fin 4) (p : Fin 24)
  | feedUp (b : Fin 4)
  | feedDown (b : Fin 4)
  | epochBoundary
  | audioBlockBoundary
  | liveStarveLimit
  | playerReadComplete
  | verifyReadComplete
  | programComplete
  | eraseComplete
  | flashOpFail
  | flashOpTimeout
  | frameOctetTimeout
  | overlengthFrame (length : BitVec 16)
  | crcErrorFrame (octets : List Octet)
  | unknownKindFrame (kind tag : Octet) (body : List Octet)
  | frameSent
  | identify (tag : Octet) (body : List Octet)
  | status (tag : Octet) (body : List Octet)
  | restart (tag : Octet) (body : List Octet)
  | saveSettings (tag : Octet) (body : List Octet)
  | setLoop (tag : Octet) (body : List Octet)
  | getRu (tag : Octet) (body : List Octet)
  | setZone (tag : Octet) (body : List Octet)
  | setSplit (tag : Octet) (body : List Octet)
  | getZone (tag : Octet) (body : List Octet)
  | declareIncident (tag : Octet) (body : List Octet)
  | clearIncident (tag : Octet) (body : List Octet)
  | setEvacuationPlan (tag : Octet) (body : List Octet)
  | setRuPower (tag : Octet) (body : List Octet)
  | setPlan (tag : Octet) (body : List Octet)
  | getBudget (tag : Octet) (body : List Octet)
  | setChannel (tag : Octet) (body : List Octet)
  | getChannel (tag : Octet) (body : List Octet)
  | setBand (tag : Octet) (body : List Octet)
  | getBand (tag : Octet) (body : List Octet)
  | liveStart (tag : Octet) (body : List Octet)
  | liveEnd (tag : Octet) (body : List Octet)
  | voiceBlock (tag : Octet) (body : List Octet)
  | setItems (tag : Octet) (body : List Octet)
  | play (tag : Octet) (body : List Octet)
  | stop (tag : Octet) (body : List Octet)
  | getPlayer (tag : Octet) (body : List Octet)
  | uploadBegin (tag : Octet) (body : List Octet)
  | clipData (tag : Octet) (body : List Octet)
  | uploadEnd (tag : Octet) (body : List Octet)
  | uploadAbort (tag : Octet) (body : List Octet)
  | eraseSlot (tag : Octet) (body : List Octet)
  | getDirectory (tag : Octet) (body : List Octet)
  | setProtection (tag : Octet) (body : List Octet)
  | octetReceived (octet : Octet)
  | powerLoss
deriving DecidableEq, Repr

end Sys2Proof
end

