-- ==== Sys2Proof/Decode.lean ====
section
/-! DEFINITION. The opcode table gives no row any bits: its commands are events and whole frames, so no word spells one. -/

namespace Sys2Proof

/-- The command that a word spells by the table's bits: none, since no row of the table gives bits (log entry 4). -/
def decodeTableWord (_ _ : Nat) : Option Instr := none

end Sys2Proof
end

