-- ==== Sys2Proof/Machine/State.lean ====
section
/-! DEFINITION. The state of the part: the records of its twelve blocks, the external flash on the Flash Port, the input
pins, the outputs of the string ports and the portal shelf port, and the queue of commands that are waiting.

Tables with one entry per position 1..N are lists of length N; the chain length N itself is the length of the RU table.
Every count that a rule bounds is a `Nat`; the operations keep its bound. A timer is `none` when it is stopped, and else
holds the number of the loop frame boundary at which it is due. -/

namespace Sys2Proof.Machine

/-! ### The control link (chapter 11) -/

/-- The part states (R179). -/
inductive PartState where
  | starting
  | running
deriving DecidableEq, Repr

/-- The receiver's two conditions (R174); in frame it holds the octets collected after the sync octet. -/
inductive Receiver where
  | hunting
  | inFrame (octets : List Octet)
deriving DecidableEq, Repr

/-- The reply statuses (R183). -/
inductive Status where
  | ok
  | busy
  | invalid
  | unknownKind
  | notReady
  | locked
  | protectedSlot
  | emergency
  | tagInUse
  | aborted
  | sequence
  | short
  | crcMismatch
  | flashFault
deriving DecidableEq, Repr

/-- Where the reply of an outstanding request stands: not made yet, in the reply queue, or being sent (R175, R177). -/
inductive SlotPhase where
  | waiting
  | queued
  | sending
deriving DecidableEq, Repr

/-- A request slot that is taken (R175): the kind and the tag of the outstanding request. -/
structure Slot where
  kind : Octet
  tag : Octet
  phase : SlotPhase
deriving DecidableEq, Repr

/-- A reply of the reply queue (R177): its kind, its tag, its body, and whether it is a refusal reply. -/
structure Reply where
  kind : Octet
  tag : Octet
  body : List Octet
  refusal : Bool
deriving DecidableEq, Repr

/-- The frame in sending (R177, R178): a reply, or a notice with its snapshot. -/
inductive Outgoing where
  | reply (r : Reply)
  | notice (kind : Octet) (body : List Octet)
deriving DecidableEq, Repr

/-- The notice sources' change marks (R178). -/
structure Marks where
  incident : Bool
  channel : BitVec 8
  ru : BitVec 24
  power : BitVec 24
  live : Bool
  player : BitVec 4
  band : BitVec 4
  directory : Bool
  part : Bool
  link : Bool
deriving DecidableEq, Repr

/-- The kinds of link error (R182). -/
inductive LinkError where
  | crc
  | overlength
  | timeout
  | overrun
deriving DecidableEq, Repr

/-- The link-error record (R182). -/
structure LinkRecord where
  last : Option LinkError
  crc : Nat
  overlength : Nat
  timeout : Nat
  overrun : Nat
deriving DecidableEq, Repr

/-- The Control Link Port. `slots` holds the outstanding requests in the order of their acceptance; `line` holds the octets of the
frame in sending as they go out on the line (R173, R183), none while the line is idle. -/
structure Clp where
  rate : LineRate
  part : PartState
  receiver : Receiver
  slots : List Slot
  replies : List Reply
  sending : Option Outgoing
  line : List Octet
  marks : Marks
  link : LinkRecord
  restarts : Nat
  defaulted : Bool
deriving DecidableEq, Repr

/-! ### The zone loop and simulcast alignment (chapters 01 and 02) -/

/-- The RU states (R7, section 1.4). -/
inductive RuState where
  | absent
  | joining
  | active
  | lost
  | mismatch
deriving DecidableEq, Repr

/-- The round trip and the turnaround of the answer that one end received in the last loop frame closed (R17). -/
structure Echo where
  rtt : Nat
  trn : Nat
deriving DecidableEq, Repr

/-- What the RU table holds of one unit for one end (R7): the answer state with its run count, the reachable flag, the
stored delay; and the echo of the last loop frame for the delay survey. -/
structure EndView where
  answering : Bool
  run : Nat
  reach : Bool
  delay : Option Nat
  echo : Option Echo
deriving DecidableEq, Repr

/-- The report record of a unit (R7, R19). -/
structure Report where
  quality : List Octet
  calls : BitVec 8
  activity : List Nat
deriving DecidableEq, Repr

/-- One entry of the RU table (R7), with the read end and the identity parts of a running identity read (R10, R11) and
the hold that the Simulcast Alignment Unit keeps for the position (R28). -/
structure RuEntry where
  configured : BitVec 32
  learned : Option (BitVec 32)
  preferred : ChainEnd
  state : RuState
  onA : EndView
  onB : EndView
  serving : Option ChainEnd
  heal : Option Nat
  swings : Nat
  thermal : Thermal
  aligned : Bool
  report : Report
  readEnd : ChainEnd
  parts : List Octet
  hold : Option Nat
deriving DecidableEq, Repr

/-- The Loop Controller: the RU table in position order and the two reach depths (R7). -/
structure Lpc where
  rus : List RuEntry
  rA : Nat
  rB : Nat
deriving DecidableEq, Repr

/-- The Simulcast Alignment Unit (R28); the holds and the alignment flags stand in the RU entries. -/
structure Sau where
  guardDu : Nat
  target : Nat
  applied : Nat
  continuity : Bool
deriving DecidableEq, Repr

/-! ### Zones, regions and incidents (chapter 03) -/

/-- The zone modes (R39). -/
inductive Mode where
  | normal
  | emergency
deriving DecidableEq, Repr

/-- A zone's record (R39); the declared field and the region are derived (`declared`, `regionA`). -/
structure ZoneRec where
  threshold : Nat
  mode : Mode
deriving DecidableEq, Repr

/-- The evacuation plan (R55). -/
structure EvacPlan where
  headA : Option Nat
  headB : Option Nat
  spread : Nat
deriving DecidableEq, Repr

/-- The Zone Manager: the zone table, the stored and the effective split, the incident state (R46), the ALARM input level
as last sampled (`none` before the first sample, R51) and the evacuation plan. -/
structure Zmg where
  zones : List ZoneRec
  stored : Nat
  effective : Nat
  incident : ZoneSet
  whole : Bool
  latch : Bool
  alarmTimer : Option Nat
  changes : Nat
  level : Option Bool
  plan : EvacPlan
deriving DecidableEq, Repr

/-! ### The downlink power budget (chapter 04) -/

/-- A power configuration record (R59). Bit p of `programmes` is programme p + 1, bit b of `bands` is band b + 1. -/
structure PowerCfg where
  limit : Nat
  broadcast : Nat
  rescue : Nat
  mobile : List Nat
  programmes : BitVec 6
  bands : BitVec 4
deriving DecidableEq, Repr

/-- A plan bank (R62): the six service classes and the floors m1..m4. -/
structure PlanBank where
  broadcast : Nat
  rescue : Nat
  band : List Nat
  floors : List Nat
deriving DecidableEq, Repr

/-- The allocation statuses (R72). -/
inductive AllocStatus where
  | off
  | full
  | reduced
  | overload
deriving DecidableEq, Repr

/-- The kinds of carrier (R72). -/
inductive CarrierKind where
  | broadcast
  | rescue
  | mobile
deriving DecidableEq, Repr

/-- One carrier of an allocation record (R72): kind, number (from 1), class, request and allocation. -/
structure Carrier where
  kind : CarrierKind
  number : Nat
  cls : Nat
  request : Nat
  alloc : Nat
deriving DecidableEq, Repr

/-- An allocation record (R72); `sigma` lists the scales of the classes 1..4. -/
structure AllocRecord where
  status : AllocStatus
  bank : Option Nat
  plim : Option Nat
  sigma : List Nat
  tau : Nat
  carriers : List Carrier
deriving DecidableEq, Repr

/-- The Power Budget Engine: the power configuration records, both plan banks and the allocation records. -/
structure Pbe where
  cfgs : List PowerCfg
  bank0 : PlanBank
  bank1 : PlanBank
  allocs : List AllocRecord
deriving DecidableEq, Repr

/-! ### Rescue channels and the uplink voter (chapters 05 and 06) -/

/-- The channel states (R81). -/
inductive ChanState where
  | idle
  | down
  | turn
  | up
deriving DecidableEq, Repr

/-- The priority directions (R80). -/
inductive Direction where
  | dlFirst
  | ulFirst
deriving DecidableEq, Repr

/-- A rescue channel's configuration record (R80); turnaround and hang in ms, the talk timeout in s (0: off). -/
structure ChanCfg where
  enabled : Bool
  coverage : ZoneSet
  qOpen : Nat
  qClose : Nat
  hysteresis : Nat
  turnaround : Nat
  hang : Nat
  talk : Nat
  direction : Direction
  talkThrough : Bool
deriving DecidableEq, Repr

/-- A candidate of a channel (R105): the index of its position and its Q. -/
structure Candidate where
  idx : Nat
  q : Nat
deriving DecidableEq, Repr

/-- A rescue channel: its configuration (R80), its state record (R81) and its voting record (R103). -/
structure Channel where
  cfg : ChanCfg
  state : ChanState
  carrier : Bool
  dlPending : Bool
  marker : Bool
  turnT : Option Nat
  hangT : Option Nat
  talkT : Option Nat
  keyed : Bool
  preempts : Nat
  talkouts : Nat
  source : Option Nat
  lockout : ZoneSet
  cands : List Candidate
  blockFlag : Bool
  deferred : Bool
deriving DecidableEq, Repr

/-! ### Mobile bands (chapter 07) -/

/-- The gate states (R118). -/
inductive GateState where
  | disabled
  | closed
  | pending
  | opened
  | forced
deriving DecidableEq, Repr

/-- One gate of a band (R118). -/
structure Gate where
  state : GateState
  latest : Nat
  hold : Option Nat
deriving DecidableEq, Repr

/-- A band record (R114). -/
structure BandCfg where
  threshold : Nat
  hold : Nat
  hysteresis : Nat
  capacity : Nat
deriving DecidableEq, Repr

/-- A mobile band: its record, its feed state, its gates and its displacement count (R114, R117, R118). `inUse` is the open
threshold in use: that of the record as the last band frame found it (R115). -/
structure Band where
  cfg : BandCfg
  inUse : Nat
  feed : Bool
  gates : List Gate
  displacements : Nat
deriving DecidableEq, Repr

/-! ### Break-in, live voice and announcement players (chapters 08 and 09) -/

/-- The break-in sources (R129). -/
inductive Source where
  | live
  | player (p : Nat)
deriving DecidableEq, Repr

/-- What a source gives to the zones it wins for the block in progress (R134, R141, R151): silence, or a block of coded
audio, with the concealment fade where the block carried a gap mark. -/
inductive Air where
  | silence
  | block (fade : Bool) (data : List Octet)
deriving DecidableEq, Repr

/-- The Break-in Mixer: the activation list (R130), the winner of each zone (R133) and the thresholds in force for the
block in progress (R39, R133). -/
structure Bim where
  activation : List Source
  winners : List (Option Source)
  inForce : List Nat
deriving DecidableEq, Repr

/-- The session states (R137). -/
inductive LiveState where
  | none
  | opening
  | playing
  | starved
  | draining
deriving DecidableEq, Repr

/-- A voice block of the live queue (R137). -/
structure VoiceBlock where
  seq : Octet
  data : List Octet
  gap : Bool
deriving DecidableEq, Repr

/-- The reasons a session ended (R137). -/
inductive LiveEndReason where
  | drained
  | immediate
  | starved
  | restarted
deriving DecidableEq, Repr

/-- The Live Voice Queue: the session record with the LIVE source's priority and target set (R129), the end record, and
the audio given for the block in progress. -/
structure Lvq where
  state : LiveState
  priority : Option Nat
  target : ZoneSet
  queue : List VoiceBlock
  lastSeq : Option Octet
  gapPending : Bool
  starve : Nat
  gaps : Nat
  overflows : Nat
  played : Nat
  waitingEnd : Option Octet
  ended : Option LiveEndReason
  air : Air
deriving DecidableEq, Repr

/-- The kinds of item with their fields (R146). -/
inductive ItemKind where
  | clip (slot : Nat)
  | pause (length : Nat)
  | loop (target count : Nat)
deriving DecidableEq, Repr

/-- An item of the pool (R146); `next = none` is END. -/
structure Item where
  kind : ItemKind
  next : Option Nat
deriving DecidableEq, Repr

/-- The player states (R148). -/
inductive PlayerState where
  | idle
  | starting
  | playing
  | stopping
deriving DecidableEq, Repr

/-- A player's zone binding (R148). -/
inductive Binding where
  | explicit (z : ZoneSet)
  | regionA
  | regionB
  | all
  | evacuationA
  | evacuationB
deriving DecidableEq, Repr

/-- The end reasons of a run (R148). -/
inductive PlayEndReason where
  | completed
  | stopped
  | preEmpted
  | loopDepth
  | restarted
deriving DecidableEq, Repr

/-- The item progress (R148): of a clip its slot and length as read at the entry, the blocks offered and the blocks
fetched into the buffer so far; of a pause the blocks remaining. -/
inductive Progress where
  | none
  | clip (slot length offered fetched : Nat)
  | pause (remaining : Nat)
deriving DecidableEq, Repr

/-- A loop counter (R148): the index of its LOOP item and the remaining count. -/
structure LoopCounter where
  item : Nat
  left : Nat
deriving DecidableEq, Repr

/-- A player's record (R148), the mark of a failed item (R154), and the audio given for the block in progress. -/
structure Player where
  state : PlayerState
  priority : Option Nat
  binding : Option Binding
  target : ZoneSet
  item : Option Nat
  resume : Option Nat
  progress : Progress
  counters : List LoopCounter
  buffer : List (List Octet)
  pendingEnd : Option PlayEndReason
  skips : Nat
  underruns : Nat
  ended : Option PlayEndReason
  missing : Bool
  failed : Bool
  air : Air
deriving DecidableEq, Repr

/-- The Announcement Players: the four players and the item pool. -/
structure Apl where
  players : List Player
  pool : List Item
deriving DecidableEq, Repr

/-! ### The clip store (chapter 10) -/

/-- The settings copy (R171): the configuration of every block that a settings write takes with it. -/
structure Settings where
  configured : List (BitVec 32)
  preferred : List ChainEnd
  guardDu : Nat
  thresholds : List Nat
  split : Nat
  bank0 : PlanBank
  bank1 : PlanBank
  power : List PowerCfg
  channels : List ChanCfg
  bands : List BandCfg
  pool : List Item
  plan : EvacPlan
  level : Nat
deriving DecidableEq, Repr

/-- The slot states of the directory (R160). -/
inductive SlotState where
  | empty
  | writing
  | ready
  | damaged
deriving DecidableEq, Repr

/-- A directory entry (R160). -/
structure DirEntry where
  state : SlotState
  verified : Bool
  length : Nat
  label : List Octet
  crc : BitVec 32
deriving DecidableEq, Repr

/-- The upload states (R166). -/
inductive UploadState where
  | preparing
  | receiving
  | sequenceFailed
  | faulted
  | finishing
deriving DecidableEq, Repr

/-- An audio block with its index in the clip (R159). -/
structure IndexedBlock where
  index : Nat
  data : List Octet
deriving DecidableEq, Repr

/-- A CLIP_DATA that waits for a place in the upload buffer (R167). -/
structure WaitingData where
  tag : Octet
  block : IndexedBlock
deriving DecidableEq, Repr

/-- The upload record (R166): `units` erase units done and `begun` say how far the preparation is; `crc` is the running
register of the clip CRC; `beginTag`, `waiting` and `endTag` are the replies that wait; `failed` is the status that a waiting
UPLOAD_END will carry once the operation that runs has ended, where it does not lead to write completion (R168). -/
structure Upload where
  slot : Nat
  length : Nat
  label : List Octet
  state : UploadState
  received : Nat
  crc : BitVec 32
  buffer : List IndexedBlock
  units : Nat
  begun : Bool
  beginTag : Option Octet
  waiting : List WaitingData
  endTag : Option Octet
  failed : Option Status
deriving DecidableEq, Repr

/-- An ERASE_SLOT in progress (R170). -/
structure EraseJob where
  slot : Nat
  units : Nat
  tag : Option Octet
deriving DecidableEq, Repr

/-- A settings write in progress (R171, R163): its snapshot, whether its unit is erased, the page programs left, and the
tag of the SAVE_SETTINGS or SET_PROTECTION whose reply waits. `level` is the new protection level of a SET_PROTECTION. -/
structure SettingsJob where
  copy : Settings
  erased : Bool
  pagesLeft : Nat
  level : Option Nat
  tag : Option Octet
deriving DecidableEq, Repr

/-- The write jobs in the order of their age (R164). -/
inductive JobKind where
  | upload
  | eraseSlot
  | settings
deriving DecidableEq, Repr

/-- The operations of the flash port (R164), with what they read, program or erase. -/
inductive FlashOp where
  | readSettings
  | readHeader (slot : Nat)
  | readBlock (slot index : Nat)
  | eraseUnit (slot unit : Nat)
  | eraseSettings
  | programBegun (slot length : Nat) (label : List Octet)
  | programBlocks (slot : Nat) (blocks : List IndexedBlock)
  | programComplete (slot : Nat) (crc : BitVec 32)
  | programSettings
deriving DecidableEq, Repr

/-- The owner of the operation in progress (R165); `nobody` owns an operation whose job has been dropped. -/
inductive FlashOwner where
  | startup
  | player (p : Nat)
  | verify
  | upload
  | eraseSlot
  | settings
  | nobody
deriving DecidableEq, Repr

/-- The operation that holds the flash port, and the loop frame boundary after which it started (R165). -/
structure PortOp where
  op : FlashOp
  owner : FlashOwner
  start : Nat
deriving DecidableEq, Repr

/-- The slot in hand of the background verify (R162): the next block to read and the CRC register so far. -/
structure Verify where
  slot : Nat
  next : Nat
  crc : BitVec 32
deriving DecidableEq, Repr

/-- The Clip Store Controller. `absent`: the settings read found no flash (R161). -/
structure Csc where
  directory : List DirEntry
  level : Nat
  copyValid : Bool
  absent : Bool
  port : Option PortOp
  order : List JobKind
  upload : Option Upload
  erase : Option EraseJob
  settings : Option SettingsJob
  verify : Option Verify
  cursor : Nat
deriving DecidableEq, Repr

/-! ### The external flash (R159) -/

/-- What a header's marker holds: all ones, its fixed value, or anything else (R159). -/
inductive Marker where
  | erased
  | programmed
  | other
deriving DecidableEq, Repr

/-- The header of a slot by its named fields (R159); `clean` says that the octets outside the fields are all ones. -/
structure Header where
  begun : Marker
  length : BitVec 16
  label : List Octet
  complete : Marker
  crc : BitVec 32
  clean : Bool
deriving DecidableEq, Repr

/-- What the settings area's first unit holds (R171): all ones, a copy whose CRC matches, or anything else. -/
inductive SettingsArea where
  | erased
  | copy (c : Settings)
  | invalid
deriving DecidableEq, Repr

/-- The external flash: the octets of its audio blocks at their addresses (a list in canonical form: addresses strictly
rising, no octet of all ones listed, an unlisted octet reads as all ones), the headers of the slots, the settings area, and
the number of operations that were cut (the model's own field: it picks the free values of what a cut left behind). -/
structure Flash where
  cells : List Host.Cell
  headers : List Header
  area : SettingsArea
  cuts : Nat
deriving DecidableEq, Repr

/-! ### Ports -/

/-- Whether the part has power, and whether RESET holds it. -/
inductive PowerState where
  | off
  | held
  | on
deriving DecidableEq, Repr

/-- The levels at the inputs: MAINT, and what the portal shelf presents of base-station carriers (bit c for channel c + 1)
and band feeds (bit b for band b + 1). They are outside the part, so no reset changes them. -/
structure Pins where
  maint : Bool
  carriers : BitVec 8
  feeds : BitVec 4
deriving DecidableEq, Repr

/-- What a unit radiates of one rescue channel (R98). -/
inductive RescueAir where
  | nothing
  | downlink
  | uplink
deriving DecidableEq, Repr

/-- The downlink of one ACTIVE unit in one loop frame: the port it leaves on (R5, R15), the hold stamped (R32), the
allocation record (R75), the uplink enables (R125), the programme set, the break-in audio that replaces the programmes with
the announcement marker set (`none`: the programmes' own audio, marker clear, R134), and what it radiates of each rescue
channel (R98). -/
structure Stream where
  port : ChainEnd
  hold : Nat
  record : AllocRecord
  enables : BitVec 4
  programmes : BitVec 6
  breakIn : Option Air
  rescue : List RescueAir
deriving DecidableEq, Repr

/-- The outputs in the loop frame in progress: how many positions both string ports poll (R5), the identity-read order of
each position's poll (R11), the downlink of each position (R5), the uplink keyed outputs (R98) and the unit whose uplink is
passed on each channel (R111); and, of the loop frame last closed, the unit and the end whose audio was passed on each
channel, `none` being silence (R104, R111). -/
structure Outputs where
  polled : Nat
  orders : List (Option ChainEnd)
  streams : List (Option Stream)
  keyed : BitVec 8
  uplinks : List (Option Nat)
  passed : List (Option (Nat × ChainEnd))
deriving DecidableEq, Repr

/-! ### The whole machine -/

/-- The reasons a step can stop with a fault: none. Every command of the table has an effect in every state. -/
inductive Fault where
deriving DecidableEq, Repr

/-- The reasons a step can be refused. -/
inductive Refusal where
  /-- Raised by an arm of `exec` whose command has no meaning yet (safe: the model stops where the part goes on). -/
  | notModelled (mnemonic : String)
deriving DecidableEq, Repr

/-- The state of the part. `now` numbers the loop frame boundaries since power-on or release of RESET; `epochAt` and `blockAt`
are the boundaries at which the last epoch boundary and audio block boundary were taken; `loopOn` says that the settings
have been loaded or defaulted, so that the loop, the relay, the supervisor and the mixer run (R26). -/
structure State where
  power : PowerState
  now : Nat
  epochAt : Nat
  blockAt : Nat
  loopOn : Bool
  pins : Pins
  clp : Clp
  lpc : Lpc
  sau : Sau
  zmg : Zmg
  pbe : Pbe
  channels : List Channel
  bands : List Band
  bim : Bim
  lvq : Lvq
  apl : Apl
  csc : Csc
  flash : Flash
  out : Outputs
  pending : List Instr
deriving DecidableEq, Repr

/-! ### Power-on values and defaults -/

/-- No mark set (R182). -/
def Marks.clear : Marks := ⟨false, 0, 0, 0, false, 0, 0, false, false, false⟩

/-- The Control Link Port at power-on and after an assertion of RESET (R174, R182), at the strap rate. -/
def Clp.initial (rate : LineRate) : Clp :=
  ⟨rate, .starting, .hunting, [], [], none, [], Marks.clear, ⟨none, 0, 0, 0, 0⟩, 0, false⟩

/-- One end of a unit at power-on, RESET and re-form (R7). -/
def EndView.initial : EndView := ⟨false, 0, false, none, none⟩

/-- A clear report record (R7, R10). -/
def Report.clear : Report := ⟨List.replicate 8 0#8, 0#8, List.replicate 4 0⟩

/-- An RU entry with its configuration, everything else as after power-on or a re-form (R7). -/
def RuEntry.initial (configured : BitVec 32) (preferred : ChainEnd) : RuEntry :=
  ⟨configured, none, preferred, .absent, EndView.initial, EndView.initial, none, none, 0, .normal, false, Report.clear,
    preferred, [], none⟩

/-- The default preferred end of index `i` in a chain of `n`: A for positions 1..ceil(N/2), B above (R7). -/
def defaultEnd (n i : Nat) : ChainEnd := if i < (n + 1) / 2 then .a else .b

/-- The default power configuration record (R59). -/
def PowerCfg.default : PowerCfg := ⟨1000, 50, 100, [0, 0, 0, 0], 0x3F#6, 0#4⟩

/-- The default bank 0 (R62). -/
def PlanBank.default0 : PlanBank := ⟨2, 1, [3, 3, 3, 3], [256, 128, 32, 0]⟩

/-- The default bank 1 (R62). -/
def PlanBank.default1 : PlanBank := ⟨1, 1, [2, 2, 2, 2], [256, 128, 32, 0]⟩

/-- The record of a unit that is not ACTIVE (R68, R72): OFF, no carriers, bank and limit absent; its scales are free. -/
def AllocRecord.off : AllocRecord :=
  ⟨.off, none, none, [1, 2, 3, 4].map (fun c => min (Config.offSigma c) 256), min Config.offTau 256, []⟩

/-- The default channel record (R80). -/
def ChanCfg.default : ChanCfg := ⟨false, 0#24, 40, 30, 8, 150, 300, 60, .dlFirst, false⟩

/-- A channel with its configuration, everything else as after power-on or RESET (R81, R103). -/
def Channel.initial (cfg : ChanCfg) : Channel :=
  ⟨cfg, .idle, false, false, false, none, none, none, false, 0, 0, none, 0#24, [], false, false⟩

/-- The default band record (R114). -/
def BandCfg.default : BandCfg := ⟨12, 2000, 3, 8⟩

/-- A gate at power-on, RESET and re-form (R118). -/
def Gate.initial : Gate := ⟨.disabled, 0, none⟩

/-- A band of `n` gates with its record, everything else as after power-on or RESET (R117, R118). That the record's threshold is in
use before the first band frame is a DESIGN CHOICE (log entry 65). -/
def Band.initial (n : Nat) (cfg : BandCfg) : Band := ⟨cfg, cfg.threshold, false, List.replicate n Gate.initial, 0⟩

/-- The live voice queue at power-on (R137). That gap pending is clear there and the four counts are 0 is a DESIGN CHOICE (log
entry 65). -/
def Lvq.initial : Lvq := ⟨.none, none, 0#24, [], none, false, 0, 0, 0, 0, none, none, .silence⟩

/-- A player at power-on (R148). -/
def Player.initial : Player :=
  ⟨.idle, none, none, 0#24, none, none, .none, [], [], none, 0, 0, none, false, false, .silence⟩

/-- The default item (R146): a PAUSE of one block with next END. -/
def Item.default : Item := ⟨.pause 1, none⟩

/-- The default evacuation plan (R55). -/
def EvacPlan.default : EvacPlan := ⟨none, none, 1⟩

/-- An erased header (R159). -/
def Header.erased : Header := ⟨.erased, 0xFFFF#16, List.replicate 16 0xFF#8, .erased, 0xFFFFFFFF#32, true⟩

/-- The directory entry of an EMPTY slot (R160): length 0, label and CRC as an erased header gives them. -/
def DirEntry.empty : DirEntry := ⟨.empty, false, 0, List.replicate 16 0xFF#8, 0xFFFFFFFF#32⟩

/-- The defaults of every block (R171): N = 24, identities 0, preferred ends by the default rule, G = 50, and the defaults
of each chapter. -/
def Settings.default : Settings where
  configured := List.replicate 24 0#32
  preferred := (List.range 24).map (defaultEnd 24)
  guardDu := 50
  thresholds := List.replicate 24 0
  split := 25
  bank0 := PlanBank.default0
  bank1 := PlanBank.default1
  power := List.replicate 24 PowerCfg.default
  channels := List.replicate 8 ChanCfg.default
  bands := List.replicate 4 BandCfg.default
  pool := List.replicate 96 Item.default
  plan := EvacPlan.default
  level := 0

/-- An external flash with every octet all ones. -/
def Flash.blank : Flash := ⟨[], List.replicate 63 Header.erased, .erased, 0⟩

/-- No output. -/
def Outputs.silent : Outputs := ⟨0, [], [], 0#8, [], []⟩

/-- The clip store at power-on and release of RESET: every entry EMPTY (R160), the settings read in progress (R161). That the
copy-valid flag (R171) is clear until the settings read is a DESIGN CHOICE (log entry 65). -/
def Csc.initial : Csc :=
  ⟨List.replicate 63 DirEntry.empty, 0, false, false, some ⟨.readSettings, .startup, 0⟩, [], none, none, none, none, 0⟩

/-- The configuration of every block set from a settings copy, and every running item at its power-on value
(R7, R28, R39, R42, R46, R55, R59, R62, R72, R80, R103, R114, R118, R129, R146, R148). A threshold in force (R133) of 0 before the
first audio block boundary is a DESIGN CHOICE (log entry 65). -/
def State.configure (s : State) (c : Settings) : State :=
  let n := c.configured.length
  let split := if 1 ≤ c.split ∧ c.split ≤ n + 1 then c.split else n + 1
  { s with
    lpc := ⟨(List.range n).map (fun i => RuEntry.initial (c.configured.getD i 0#32) (c.preferred.getD i (defaultEnd n i))),
      0, 0⟩
    sau := ⟨c.guardDu, 0, 0, false⟩
    zmg := { s.zmg with
      zones := (List.range n).map (fun i => ⟨c.thresholds.getD i 0, .normal⟩)
      stored := split
      effective := split
      plan := c.plan }
    pbe := ⟨(List.range n).map (fun i => c.power.getD i PowerCfg.default), c.bank0, c.bank1,
      List.replicate n AllocRecord.off⟩
    channels := (List.range 8).map (fun i => Channel.initial (c.channels.getD i ChanCfg.default))
    bands := (List.range 4).map (fun i => Band.initial n (c.bands.getD i BandCfg.default))
    bim := ⟨[], List.replicate n none, List.replicate n 0⟩
    lvq := Lvq.initial
    apl := ⟨List.replicate 4 Player.initial, (List.range 96).map (fun i => c.pool.getD i Item.default)⟩
    csc := { s.csc with level := c.level } }

/-- The part with everything at its power-on value and the defaults as configuration, before the settings read. -/
def State.initial (power : PowerState) (rate : LineRate) (pins : Pins) (flash : Flash) (pending : List Instr) : State :=
  State.configure
    { power := power, now := 0, epochAt := 0, blockAt := 0, loopOn := false, pins := pins
      clp := Clp.initial rate
      lpc := ⟨[], 0, 0⟩, sau := ⟨0, 0, 0, false⟩
      zmg := ⟨[], 0, 0, 0#24, false, false, none, 0, none, EvacPlan.default⟩
      pbe := ⟨[], PlanBank.default0, PlanBank.default1, []⟩
      channels := [], bands := [], bim := ⟨[], [], []⟩, lvq := Lvq.initial, apl := ⟨[], []⟩
      csc := Csc.initial, flash := flash, out := Outputs.silent, pending := pending }
    Settings.default

/-- The part right after power-on or release of RESET: STARTING, the settings read in progress, no command waiting. The
strap rate, the input levels and the contents of the external flash are not the part's own; the values here are design
choices (log entry 2). -/
def State.reset : State := State.initial .on .mbit1 ⟨false, 0#8, 0#4⟩ Flash.blank []

end Sys2Proof.Machine
end

