-- ==== Sys2Proof/Machine/Ops.lean ====
section
/-! DEFINITION. The shared operations: block updates, counters, timers, the CRCs, zone sets, positions, and the replies that the
blocks hand to the Control Link Port. -/

namespace Sys2Proof.Machine

/-! ### Block updates -/

def State.modClp (s : State) (f : Clp → Clp) : State := { s with clp := f s.clp }
def State.modLpc (s : State) (f : Lpc → Lpc) : State := { s with lpc := f s.lpc }
def State.modSau (s : State) (f : Sau → Sau) : State := { s with sau := f s.sau }
def State.modZmg (s : State) (f : Zmg → Zmg) : State := { s with zmg := f s.zmg }
def State.modPbe (s : State) (f : Pbe → Pbe) : State := { s with pbe := f s.pbe }
def State.modChannels (s : State) (f : List Channel → List Channel) : State := { s with channels := f s.channels }
def State.modBands (s : State) (f : List Band → List Band) : State := { s with bands := f s.bands }
def State.modBim (s : State) (f : Bim → Bim) : State := { s with bim := f s.bim }
def State.modLvq (s : State) (f : Lvq → Lvq) : State := { s with lvq := f s.lvq }
def State.modApl (s : State) (f : Apl → Apl) : State := { s with apl := f s.apl }
def State.modCsc (s : State) (f : Csc → Csc) : State := { s with csc := f s.csc }
def State.modFlash (s : State) (f : Flash → Flash) : State := { s with flash := f s.flash }

/-! ### Counters, clamping and lists -/

/-- The next value of a count 0..65535 that stops at 65535. -/
def satInc (n : Nat) : Nat := min (n + 1) 65535

/-- The next value of a count 0..65535 that wraps to 0. -/
def wrapInc (n : Nat) : Nat := (n + 1) % 65536

/-- A clamped field (R3): the nearest value in `lo..hi`. -/
def clamp (lo hi n : Nat) : Nat := max lo (min n hi)

/-- A table resized to `n` entries: the first entries kept, new ones at the default. -/
def resize {α : Type} (l : List α) (n : Nat) (d : α) : List α := l.take n ++ List.replicate (n - l.length) d

/-- `f` applied to the state for each number of the list, in its order. -/
def State.each (s : State) (l : List Nat) (f : State → Nat → State) : State := l.foldl f s

/-! ### Time (R2, R85) -/

/-- The due boundary of a timer of `ms` milliseconds started at the boundary `at`: four loop frames make a millisecond. -/
def dueAtClose (boundary ms : Nat) : Nat := boundary + 4 * ms

/-- The due boundary of a timer of `ms` milliseconds started by an event taken inside a loop frame, after boundary `now`: the
first boundary at or after the event's time plus `ms` (R85). -/
def dueInFrame (now ms : Nat) : Nat := now + 4 * ms + 1

/-- Whether a timer is running and due at or before a boundary. -/
def isDue (t : Option Nat) (boundary : Nat) : Bool :=
  match t with
  | none => false
  | some d => d ≤ boundary

/-- The remaining time of a running timer in whole milliseconds, counted from the loop frame boundary last taken: DESIGN CHOICE
(log entry 52). A part of a millisecond is rounded by a free value (log entry 11). -/
def remainingMs (now due : Nat) : Nat :=
  let frames := due - now
  if frames % 4 = 0 then frames / 4 else if Config.roundsUp frames then frames / 4 + 1 else frames / 4

/-! ### Positions, zones and regions -/

/-- The chain length N: the number of entries of the RU table (R7). -/
def State.n (s : State) : Nat := s.lpc.rus.length

/-- The RU entry of index `i`; beyond the chain, an ABSENT one. -/
def State.ru (s : State) (i : Nat) : RuEntry := s.lpc.rus.getD i (RuEntry.initial 0#32 .a)

/-- Whether the unit at index `i` is ACTIVE. -/
def State.isActive (s : State) (i : Nat) : Bool := (s.ru i).state == .active

/-- The unit's view from an end. -/
def RuEntry.view (r : RuEntry) (e : ChainEnd) : EndView :=
  match e with
  | .a => r.onA
  | .b => r.onB

/-- The entry with its view from an end changed. -/
def RuEntry.modView (r : RuEntry) (e : ChainEnd) (f : EndView → EndView) : RuEntry :=
  match e with
  | .a => { r with onA := f r.onA }
  | .b => { r with onB := f r.onB }

/-- The answer of index `i` on end `e` in a loop frame; `none` is a missing answer (R5). -/
def answerOf (f : FrameInput) (e : ChainEnd) (i : Nat) : Option Answer :=
  match e with
  | .a => f.onA.getD i none
  | .b => f.onB.getD i none

/-- The RU table with the entry of index `i` changed. -/
def State.modRu (s : State) (i : Nat) (f : RuEntry → RuEntry) : State :=
  s.modLpc fun l => { l with rus := l.rus.modify i f }

/-- The mode of the zone of index `i` (R39). -/
def State.modeOf (s : State) (i : Nat) : Mode := (s.zmg.zones.getD i ⟨0, .normal⟩).mode

/-- The zones in EMERGENCY. -/
def State.emergencyZones (s : State) : ZoneSet := ZoneSet.below (fun i => s.modeOf i == .emergency) s.n

/-- Whether any zone is EMERGENCY. -/
def State.anyEmergency (s : State) : Bool := (List.range s.n).any fun i => s.modeOf i == .emergency

/-- Whether zone index `i` lies in region A under the effective split (R42: k less than the split). -/
def State.inRegionA (s : State) (i : Nat) : Bool := i + 1 < s.zmg.effective

/-- Every position 1..N. -/
def State.allZones (s : State) : ZoneSet := ZoneSet.below (fun _ => true) s.n

/-- The positions 1..N of region A (R42). -/
def State.regionZones (s : State) (regionA : Bool) : ZoneSet := ZoneSet.below (fun i => s.inRegionA i == regionA) s.n

/-- The members of a zone set that lie in 1..N (R1), in position order. -/
def State.members (s : State) (z : ZoneSet) : List Nat := (List.range s.n).filter z.mem

/-! ### CRCs (R159, R173) -/

/-- One bit of the control link's CRC-16, most significant bit first, generator 0x1021. -/
def crc16Bit (reg : BitVec 16) (bit : Bool) : BitVec 16 :=
  if reg.msb ^^ bit then (reg <<< 1) ^^^ 0x1021#16 else reg <<< 1

/-- One octet of the CRC-16, most significant bit first. -/
def crc16Octet (reg : BitVec 16) (o : Octet) : BitVec 16 :=
  [7, 6, 5, 4, 3, 2, 1, 0].foldl (fun r i => crc16Bit r (o.getLsbD i)) reg

/-- The CRC-16 of the control link (R173): register from 0xFFFF, not reflected, no final XOR. -/
def crc16 (os : List Octet) : BitVec 16 := os.foldl crc16Octet 0xFFFF#16

/-- One bit of the clip CRC, generator 0x1EDC6F41. -/
def crc32Bit (reg : BitVec 32) (bit : Bool) : BitVec 32 :=
  if reg.msb ^^ bit then (reg <<< 1) ^^^ 0x1EDC6F41#32 else reg <<< 1

/-- One octet of the clip CRC, least significant bit first. -/
def crc32Octet (reg : BitVec 32) (o : Octet) : BitVec 32 :=
  [0, 1, 2, 3, 4, 5, 6, 7].foldl (fun r i => crc32Bit r (o.getLsbD i)) reg

/-- The clip CRC's register at the start (R159). -/
def crc32Start : BitVec 32 := 0xFFFFFFFF#32

/-- The clip CRC's register after more octets. -/
def crc32More (reg : BitVec 32) (os : List Octet) : BitVec 32 := os.foldl crc32Octet reg

/-- A 32-bit word with its bits in the opposite order. -/
def reverse32 (w : BitVec 32) : BitVec 32 :=
  (List.range 32).foldl (fun r i => if w.getLsbD i then r ||| BitVec.twoPow 32 (31 - i) else r) 0#32

/-- The clip CRC that a register stands for (R159): bit-reversed, XORed with 0xFFFFFFFF. -/
def crc32Result (reg : BitVec 32) : BitVec 32 := reverse32 reg ^^^ 0xFFFFFFFF#32

/-! ### Replies (R175, R176, R183) -/

/-- The status codes of R183. -/
def Status.code : Status → Octet
  | .ok => 0x00#8
  | .busy => 0x01#8
  | .invalid => 0x02#8
  | .unknownKind => 0x03#8
  | .notReady => 0x04#8
  | .locked => 0x05#8
  | .protectedSlot => 0x06#8
  | .emergency => 0x07#8
  | .tagInUse => 0x08#8
  | .aborted => 0x09#8
  | .sequence => 0x0A#8
  | .short => 0x0B#8
  | .crcMismatch => 0x0C#8
  | .flashFault => 0x0D#8

/-- A reply body (R183): the status octet, and the fields where the status is OK. -/
def replyBody (st : Status) (fields : List Octet) : List Octet :=
  match st with
  | .ok => Status.code .ok :: fields
  | _ => [st.code]

/-- Whether a slot holds the request of a tag whose reply has not been made. -/
def Slot.waits (tag : Octet) (x : Slot) : Bool := x.tag == tag && x.phase == .waiting

/-- The port takes the finished reply of an outstanding request into the reply queue (R176, R177). A request that has its
reply already takes no second one (R175, R181). -/
def Clp.answer (c : Clp) (tag : Octet) (st : Status) (fields : List Octet) : Clp :=
  match c.slots.find? (Slot.waits tag) with
  | none => c
  | some x =>
    { c with
      slots := c.slots.map fun y => if y.waits tag then { y with phase := .queued } else y
      replies := c.replies ++ [⟨x.kind + 0x80#8, tag, replyBody st fields, false⟩] }

/-- A block hands its finished reply to the port. -/
def State.answer (s : State) (tag : Octet) (st : Status) (fields : List Octet) : State :=
  s.modClp fun c => c.answer tag st fields

/-- A reply that waits in a block, where one does. -/
def State.answerOpt (s : State) (tag : Option Octet) (st : Status) (fields : List Octet) : State :=
  match tag with
  | none => s
  | some t => s.answer t st fields

end Sys2Proof.Machine
end

