-- ==== Sys2Proof/Machine/Flags.lean ====
section
/-! DEFINITION. The flags of the Control Link Port: the change marks of the notice sources (R178) and the link-error record
(R182). -/

namespace Sys2Proof.Machine

/-! ### Change marks (R178): setting a mark that is set changes nothing -/

def State.modMarks (s : State) (f : Marks → Marks) : State := s.modClp fun c => { c with marks := f c.marks }

/-- The incident/zones mark (R57). -/
def State.markIncident (s : State) : State := s.modMarks fun m => { m with incident := true }

/-- The mark of the rescue channel of index `c` (R100, R112). -/
def State.markChannel (s : State) (c : Nat) : State :=
  s.modMarks fun m => { m with channel := m.channel ||| BitVec.twoPow 8 c }

/-- The mark of the unit at index `i` (R25); marks of positions above N are not set. -/
def State.markRu (s : State) (i : Nat) : State :=
  if i < s.n then s.modMarks fun m => { m with ru := m.ru ||| ZoneSet.one i } else s

/-- The power-status mark of index `i` (R76); marks of positions above N are not set. -/
def State.markPower (s : State) (i : Nat) : State :=
  if i < s.n then s.modMarks fun m => { m with power := m.power ||| ZoneSet.one i } else s

/-- The live session's mark (R143). -/
def State.markLive (s : State) : State := s.modMarks fun m => { m with live := true }

/-- The mark of a player (R158). -/
def State.markPlayer (s : State) (p : Nat) : State :=
  s.modMarks fun m => { m with player := m.player ||| BitVec.twoPow 4 p }

/-- The mark of the mobile band of index `b` (R126). -/
def State.markBand (s : State) (b : Nat) : State :=
  s.modMarks fun m => { m with band := m.band ||| BitVec.twoPow 4 b }

/-- The clip directory's mark (R172). -/
def State.markDirectory (s : State) : State := s.modMarks fun m => { m with directory := true }

/-- The settings-and-part-state mark (R179, R181). -/
def State.markPart (s : State) : State := s.modMarks fun m => { m with part := true }

/-- The state with a mark set where a condition holds. -/
def State.markIf (s : State) (b : Bool) (f : State → State) : State := if b then f s else s

/-! ### The link-error record (R182) -/

/-- The record after one more error of a kind. -/
def LinkRecord.raise (r : LinkRecord) (e : LinkError) : LinkRecord :=
  match e with
  | .crc => { r with last := some .crc, crc := satInc r.crc }
  | .overlength => { r with last := some .overlength, overlength := satInc r.overlength }
  | .timeout => { r with last := some .timeout, timeout := satInc r.timeout }
  | .overrun => { r with last := some .overrun, overrun := satInc r.overrun }

/-- A link error is recorded and its mark set (R182). -/
def Clp.linkError (c : Clp) (e : LinkError) : Clp :=
  { c with link := c.link.raise e, marks := { c.marks with link := true } }

/-- A refusal reply (R175, R177): queued while fewer than 8 refusal replies wait, and otherwise dropped with OVERRUN. -/
def Clp.refuse (c : Clp) (kind tag : Octet) (st : Status) : Clp :=
  if (c.replies.filter (·.refusal)).length < 8 then
    { c with replies := c.replies ++ [⟨kind + 0x80#8, tag, replyBody st [], true⟩] }
  else c.linkError .overrun

end Sys2Proof.Machine
end

