-- ==== Sys2Proof/Machine/Operands.lean ====
section
/-! DEFINITION. The fields of request bodies as their octets give them, and the fields of replies and notices as octets
(R183): multi-octet fields high octet first. -/

namespace Sys2Proof.Machine

/-! ### Reading a request body -/

/-- The octet at place `i` of a body. -/
def octetAt (b : List Octet) (i : Nat) : Octet := b.getD i 0#8

/-- A 1-octet field. -/
def u8 (b : List Octet) (i : Nat) : Nat := (octetAt b i).toNat

/-- A 2-octet field. -/
def u16 (b : List Octet) (i : Nat) : Nat := u8 b i * 256 + u8 b (i + 1)

/-- A 4-octet field as a word of 32 bits. -/
def w32 (b : List Octet) (i : Nat) : BitVec 32 := octetAt b i ++ octetAt b (i + 1) ++ octetAt b (i + 2) ++ octetAt b (i + 3)

/-- A zone set of 3 octets: bit i of octet j stands for position 8j + i + 1. -/
def zonesAt (b : List Octet) (i : Nat) : ZoneSet := octetAt b (i + 2) ++ octetAt b (i + 1) ++ octetAt b i

/-- Whether a 1-octet presence set marks its field `k` as supplied (R4, R183). No bit but those of the fields is read: DESIGN CHOICE
(log entry 46). -/
def present8 (b : List Octet) (i k : Nat) : Bool := (octetAt b i).getLsbD k

/-- Whether a 2-octet presence set marks its field `k` as supplied (R4, R183). No bit but those of the fields is read: DESIGN CHOICE
(log entry 46). -/
def present16 (b : List Octet) (i k : Nat) : Bool := (octetAt b i ++ octetAt b (i + 1)).getLsbD k

/-- The field of a request that a presence set governs (R4): the value given where it is present, else the stored one. -/
def pick {α : Type} (present : Bool) (given stored : α) : α := if present then given else stored

/-- An item index, or NONE / END (0xFF); `none` for any other code. -/
def itemRef (n : Nat) : Option (Option Nat) :=
  if n < 96 then some (some n) else if n = 255 then some none else none

/-! ### Writing a reply or a notice -/

def e8 (n : Nat) : List Octet := [BitVec.ofNat 8 n]
def e16 (n : Nat) : List Octet := [BitVec.ofNat 8 (n / 256), BitVec.ofNat 8 n]
def e24 (n : Nat) : List Octet := BitVec.ofNat 8 (n / 65536) :: e16 n
def e32 (n : Nat) : List Octet := e16 (n / 65536) ++ e16 n

/-- A flag: 1 or 0. -/
def eFlag (b : Bool) : List Octet := e8 (if b then 1 else 0)

/-- A 1-octet field that may be absent: all ones stands for none. -/
def eOpt8 (o : Option Nat) : List Octet := e8 (o.getD 0xFF)

/-- A 2-octet field that may be absent: all ones stands for none. -/
def eOpt16 (o : Option Nat) : List Octet := e16 (o.getD 0xFFFF)

/-- A word of 32 bits. -/
def eWord (w : BitVec 32) : List Octet := e32 w.toNat

/-- A zone set: octet j holds positions 8j + 1 .. 8j + 8. -/
def eZones (z : ZoneSet) : List Octet := [z.extractLsb' 0 8, z.extractLsb' 8 8, z.extractLsb' 16 8]

/-- A timer's remaining time in whole milliseconds, or all ones when it is stopped. -/
def eTimer (now : Nat) (t : Option Nat) : List Octet :=
  match t with
  | none => e32 0xFFFFFFFF
  | some d => e32 (remainingMs now d)

/-- An identity that may be absent: a presence octet before the 4-octet field. -/
def eIdentity (o : Option (BitVec 32)) : List Octet :=
  match o with
  | none => e8 0 ++ e32 0
  | some w => e8 1 ++ eWord w

/-- A list of varying length, preceded by its number of entries. -/
def eList {α : Type} (l : List α) (f : α → List Octet) : List Octet := e8 l.length ++ l.flatMap f

/-! ### Frames on the line (R173, R183) -/

/-- The octets of a frame after its sync octet (R173): length, kind, tag, body and CRC. -/
def frameTail (kind tag : Octet) (body : List Octet) : List Octet :=
  let os := e16 body.length ++ [kind, tag] ++ body
  os ++ e16 (crc16 os).toNat

/-- The octets of a whole frame (R173). -/
def frameOctets (kind tag : Octet) (body : List Octet) : List Octet := 0xC3#8 :: frameTail kind tag body

/-- The frame that is sent for a reply or a notice: a reply carries its request's tag, a notice the tag 0. -/
def Outgoing.octets (x : Outgoing) : List Octet :=
  match x with
  | .reply r => frameOctets r.kind r.tag r.body
  | .notice kind body => frameOctets kind 0#8 body

/-! ### The codes of named fields: from 0 in the order in which the owning rule first lists them -/

def endCode : ChainEnd → Nat
  | .a => 0
  | .b => 1

/-- The line rate (R173, R179, R180) as a named value, 1 Mbit/s 0 and 4 Mbit/s 1: DEDUCED (log entry 64). -/
def rateCode : LineRate → Nat
  | .mbit1 => 0
  | .mbit4 => 1

def PartState.code : PartState → Nat
  | .starting => 0
  | .running => 1

def RuState.code : RuState → Nat
  | .absent => 0
  | .joining => 1
  | .active => 2
  | .lost => 3
  | .mismatch => 4

def thermalCode : Thermal → Nat
  | .normal => 0
  | .warm => 1
  | .hot => 2
  | .shutdown => 3

def Mode.code : Mode → Nat
  | .normal => 0
  | .emergency => 1

def AllocStatus.code : AllocStatus → Nat
  | .off => 0
  | .full => 1
  | .reduced => 2
  | .overload => 3

def CarrierKind.code : CarrierKind → Nat
  | .broadcast => 0
  | .rescue => 1
  | .mobile => 2

def ChanState.code : ChanState → Nat
  | .idle => 0
  | .down => 1
  | .turn => 2
  | .up => 3

def Direction.code : Direction → Nat
  | .dlFirst => 0
  | .ulFirst => 1

def GateState.code : GateState → Nat
  | .disabled => 0
  | .closed => 1
  | .pending => 2
  | .opened => 3
  | .forced => 4

/-- The session state of the live notice: none is all ones. -/
def LiveState.code : LiveState → Nat
  | .none => 0xFF
  | .opening => 0
  | .playing => 1
  | .starved => 2
  | .draining => 3

def LiveEndReason.code : LiveEndReason → Nat
  | .drained => 0
  | .immediate => 1
  | .starved => 2
  | .restarted => 3

def PlayerState.code : PlayerState → Nat
  | .idle => 0
  | .starting => 1
  | .playing => 2
  | .stopping => 3

def Binding.code : Binding → Nat
  | .explicit _ => 0
  | .regionA => 1
  | .regionB => 2
  | .all => 3
  | .evacuationA => 4
  | .evacuationB => 5

def PlayEndReason.code : PlayEndReason → Nat
  | .completed => 0
  | .stopped => 1
  | .preEmpted => 2
  | .loopDepth => 3
  | .restarted => 4

def SlotState.code : SlotState → Nat
  | .empty => 0
  | .writing => 1
  | .ready => 2
  | .damaged => 3

def UploadState.code : UploadState → Nat
  | .preparing => 0
  | .receiving => 1
  | .sequenceFailed => 2
  | .faulted => 3
  | .finishing => 4

def LinkError.code : LinkError → Nat
  | .crc => 0
  | .overlength => 1
  | .timeout => 2
  | .overrun => 3

end Sys2Proof.Machine
end

