-- ==== Sys2Proof/Machine/Budget.lean ====
section
/-! DEFINITION. The Power Budget Engine's arithmetic (chapter 04): the carriers present on a unit, the allocation of R68 to R71,
and the recomputation of one position with its notice mark. -/

namespace Sys2Proof.Machine

/-! ### Carriers present (R65 to R67, R97, R99) -/

/-- The channel of index `c`. -/
def State.channel (s : State) (c : Nat) : Channel := s.channels.getD c (Channel.initial ChanCfg.default)

/-- The band of index `b`. -/
def State.band (s : State) (b : Nat) : Band := s.bands.getD b (Band.initial 0 BandCfg.default)

/-- The power configuration record of index `i` (R59). -/
def State.powerCfg (s : State) (i : Nat) : PowerCfg := s.pbe.cfgs.getD i PowerCfg.default

/-- The effective talk-through of a channel (R97): configured on, or a covered zone in 1..N in EMERGENCY. -/
def State.talkThrough (s : State) (ch : Channel) : Bool :=
  ch.cfg.talkThrough || (s.members ch.cfg.coverage).any fun i => s.modeOf i == .emergency

/-- Whether a channel radiates in the zone of index `i` (R66): enabled, the position covered and in 1..N, and the channel
DOWN, or UP with talk-through effective. -/
def State.radiates (s : State) (ch : Channel) (i : Nat) : Bool :=
  ch.cfg.enabled && decide (i < s.n) && ch.cfg.coverage.mem i &&
    (ch.state == .down || (ch.state == .up && s.talkThrough ch))

/-- The radiating set of a channel (R99). -/
def State.radiating (s : State) (ch : Channel) : ZoneSet := ZoneSet.below (s.radiates ch) s.n

/-- The broadcast carriers of a unit (R65): one for each enabled programme. -/
def broadcastCarriers (cfg : PowerCfg) (bank : PlanBank) : List Carrier :=
  ((List.range 6).filter cfg.programmes.getLsbD).map fun p => ⟨.broadcast, p + 1, bank.broadcast, cfg.broadcast, 0⟩

/-- The rescue carriers of the unit at index `i` (R66): one for each channel that radiates there. -/
def State.rescueCarriers (s : State) (i : Nat) (cfg : PowerCfg) (bank : PlanBank) : List Carrier :=
  ((List.range 8).filter fun c => s.radiates (s.channel c) i).map fun c => ⟨.rescue, c + 1, bank.rescue, cfg.rescue, 0⟩

/-- The mobile carriers of a unit (R67): one for each enabled band whose feed is UP. -/
def State.mobileCarriers (s : State) (cfg : PowerCfg) (bank : PlanBank) : List Carrier :=
  ((List.range 4).filter fun b => cfg.bands.getLsbD b && (s.band b).feed).map
    fun b => ⟨.mobile, b + 1, bank.band.getD b 1, cfg.mobile.getD b 0, 0⟩

/-- The carriers present on the unit at index `i`, in the order of R72, the rescue carriers as the Rescue Relay had them in the
state `relay`. -/
def State.carriersFrom (s relay : State) (i : Nat) (bank : PlanBank) : List Carrier :=
  let cfg := s.powerCfg i
  broadcastCarriers cfg bank ++ relay.rescueCarriers i cfg bank ++ s.mobileCarriers cfg bank

/-- The carriers present on the unit at index `i`. -/
def State.carriers (s : State) (i : Nat) (bank : PlanBank) : List Carrier := s.carriersFrom s i bank

/-! ### The allocation (R61, R68 to R71) -/

/-- The derating factor of a thermal state (R61). -/
def derating : Thermal → Nat
  | .normal => 256
  | .warm => 128
  | .hot => 64
  | .shutdown => 0

/-- The derated limit (R61). -/
def deratedLimit (limit : Nat) (t : Thermal) : Nat := limit * derating t / 256

/-- A share of a request at a Q8 scale, rounded down. -/
def scaled (q sigma : Nat) : Nat := q * sigma / 256

/-- The demand D_c of a class: the sum of its requests. -/
def demand (cs : List Carrier) (c : Nat) : Nat := ((cs.filter fun x => x.cls == c).map (·.request)).sum

/-- A_c(σ): the sum of the class's requests, each scaled and rounded down by itself. -/
def scaledDemand (cs : List Carrier) (c sigma : Nat) : Nat :=
  ((cs.filter fun x => x.cls == c).map fun x => scaled x.request sigma).sum

/-- The sum of all requests. -/
def totalRequest (cs : List Carrier) : Nat := (cs.map (·.request)).sum

/-- The sum of all allocations. -/
def totalAlloc (cs : List Carrier) : Nat := (cs.map (·.alloc)).sum

/-- How the class walk ends: stopped at a class (R69, R70), or past class 1 with the floors fixed (R71). -/
inductive WalkEnd where
  | stopped (sigma : List Nat)
  | exhausted (sigma : List Nat) (fixed : Nat)
deriving DecidableEq, Repr

/-- The class walk of R69 over the classes not yet walked: `fixed` is the sum of the allocations already fixed. -/
def classWalk (cs : List Carrier) (floors : List Nat) (plim : Nat) : List Nat → Nat → List Nat → WalkEnd
  | [], fixed, sigma => .exhausted sigma fixed
  | c :: rest, fixed, sigma =>
    let d := demand cs c
    if d = 0 then classWalk cs floors plim rest fixed sigma
    else
      let total := fixed + ((c :: rest).map (demand cs)).sum
      if total ≤ plim then .stopped sigma
      else
        let excess := total - plim
        let floorC := floors.getD (c - 1) 0
        let atFloor := scaledDemand cs c floorC
        if excess ≤ d - atFloor then .stopped (sigma.set (c - 1) (256 * (d - excess) / d))
        else classWalk cs floors plim rest (fixed + atFloor) (sigma.set (c - 1) floorC)

/-- The carriers with the allocations of the class scales. -/
def withScales (cs : List Carrier) (sigma : List Nat) : List Carrier :=
  cs.map fun x => { x with alloc := scaled x.request (sigma.getD (x.cls - 1) 256) }

/-- The allocation of an ACTIVE unit (R68 to R71). -/
def allocate (plim bankNo : Nat) (bank : PlanBank) (cs : List Carrier) : AllocRecord :=
  if plim = 0 then
    ⟨.off, some bankNo, some 0, [0, 0, 0, 0], 256, cs.map fun x => { x with alloc := 0 }⟩
  else if totalRequest cs ≤ plim then
    ⟨.full, some bankNo, some plim, [256, 256, 256, 256], 256, cs.map fun x => { x with alloc := x.request }⟩
  else
    match classWalk cs bank.floors plim [4, 3, 2, 1] 0 [256, 256, 256, 256] with
    | .stopped sigma => ⟨.reduced, some bankNo, some plim, sigma, 256, withScales cs sigma⟩
    | .exhausted sigma fixed =>
      let tau := 256 * plim / fixed
      ⟨.overload, some bankNo, some plim, sigma, tau,
        (withScales cs sigma).map fun x => { x with alloc := scaled x.alloc tau }⟩

/-! ### The computation for one position (R64, R68, R73, R76) -/

/-- The number of the bank in use at index `i` (R64): bank 1 while the zone is EMERGENCY. -/
def State.bankNo (s : State) (i : Nat) : Nat := if s.modeOf i == .emergency then 1 else 0

/-- The bank in use at index `i` (R64). -/
def State.bankOf (s : State) (i : Nat) : PlanBank := if s.modeOf i == .emergency then s.pbe.bank1 else s.pbe.bank0

/-- The allocation record of index `i` computed from the inputs as they stand, the rescue carriers as the Rescue Relay had them in
the state `relay` (R68, R74). -/
def State.computeRecordFrom (s relay : State) (i : Nat) : AllocRecord :=
  if s.isActive i then
    let bank := s.bankOf i
    allocate (deratedLimit (s.powerCfg i).limit (s.ru i).thermal) (s.bankNo i) bank (s.carriersFrom relay i bank)
  else AllocRecord.off

/-- The allocation record of index `i` computed from all inputs as they stand (R68, R73). -/
def State.computeRecord (s : State) (i : Nat) : AllocRecord := s.computeRecordFrom s i

/-- The allocation record held for index `i`. -/
def State.allocOf (s : State) (i : Nat) : AllocRecord := s.pbe.allocs.getD i AllocRecord.off

/-- A record replaces the one held for index `i`, and the power mark is set where the status changes (R72, R76). -/
def State.holdRecord (s : State) (i : Nat) (r : AllocRecord) : State :=
  let changed := (s.allocOf i).status != r.status
  (s.modPbe fun p => { p with allocs := p.allocs.set i r }).markIf changed (·.markPower i)

/-- The engine recomputes index `i` (R73). -/
def State.recompute (s : State) (i : Nat) : State := s.holdRecord i (s.computeRecord i)

/-- The same for an event that recomputes only a unit that is ACTIVE. -/
def State.recomputeActive (s : State) (i : Nat) : State := if s.isActive i then s.recompute i else s

/-! ### Power reports of the Rescue Relay (R99) -/

/-- The relay reports each position that has joined or left the radiating set of channel `c` since it was `before`. -/
def State.reportRadiating (s : State) (c : Nat) (before : ZoneSet) : State :=
  let after := s.radiating (s.channel c)
  s.each ((List.range s.n).filter fun i => before.mem i != after.mem i) State.recomputeActive

end Sys2Proof.Machine
end

