-- ==== Sys2Proof/Machine/Mobile.lean ====
section
/-! DEFINITION. The Mobile Band Supervisor (chapter 07): the gates of a band and their arbiter, band frames, feeds, and what the
supervisor does at emergencies, RESTART and re-forming. -/

namespace Sys2Proof.Machine

/-- A band being worked on, with the word whether any of its gate states changed (R126). -/
structure BandWork where
  band : Band
  changed : Bool
deriving DecidableEq, Repr

/-- The gate of index `i`. -/
def Band.gate (b : Band) (i : Nat) : Gate := b.gates.getD i Gate.initial

/-- The number of gates in a state. -/
def Band.count (b : Band) (st : GateState) : Nat := b.gates.countP fun g => g.state == st

/-- The gates in a state, in position order. -/
def Band.inState (b : Band) (st : GateState) : List Nat :=
  (List.range b.gates.length).filter fun i => (b.gate i).state == st

/-- A gate takes a state and a hold timer. -/
def BandWork.set (w : BandWork) (i : Nat) (st : GateState) (hold : Option Nat) : BandWork :=
  ⟨{ w.band with gates := w.band.gates.modify i fun g => { g with state := st, hold := hold } },
    w.changed || (w.band.gate i).state != st⟩

/-- A gate takes a state and keeps its hold timer. -/
def BandWork.keepHold (w : BandWork) (i : Nat) (st : GateState) : BandWork := w.set i st (w.band.gate i).hold

/-- The first element of a list that no later one beats. -/
def pickBest (beats : Nat → Nat → Bool) : List Nat → Option Nat
  | [] => none
  | i :: l =>
    match pickBest beats l with
    | none => some i
    | some j => if beats j i then some j else some i

/-- The OPEN gate with the lowest latest A, among equals the highest position (R116, R119). -/
def Band.quietest (b : Band) : Option Nat :=
  pickBest (fun j i => (b.gate j).latest ≤ (b.gate i).latest) (b.inState .opened)

/-- The PENDING gate with the highest latest A, among equals the lowest position (R116, R121). -/
def Band.loudestPending (b : Band) : Option Nat :=
  pickBest (fun j i => (b.gate i).latest < (b.gate j).latest) (b.inState .pending)

/-- Whether the latest A of a gate reaches the open threshold in use (R115). -/
def Band.heard (b : Band) (i : Nat) : Bool := b.inUse ≤ (b.gate i).latest

/-- A gate asks to open (R119); `due` is the due boundary of its hold. -/
def BandWork.ask (w : BandWork) (i due : Nat) : BandWork :=
  if w.band.count .opened < w.band.cfg.capacity then w.set i .opened (some due)
  else
    match w.band.quietest with
    | none => w.set i .pending (some due)
    | some q =>
      if (w.band.gate q).latest + w.band.cfg.hysteresis ≤ (w.band.gate i).latest then
        let v := (w.keepHold q .pending).set i .opened (some due)
        ⟨{ v.band with displacements := satInc v.band.displacements }, v.changed⟩
      else w.set i .pending (some due)

/-- A gate asks to open if its latest A reaches the threshold in use. That a fresh evaluation before the next band frame still
compares with the threshold that was in use before a SET_BAND is DEDUCED (log entry 51). -/
def BandWork.askIfHeard (w : BandWork) (i due : Nat) : BandWork := if w.band.heard i then w.ask i due else w

/-- The promotion at one freed place (R121). -/
def BandWork.promote (w : BandWork) : BandWork :=
  match w.band.loudestPending with
  | none => w
  | some i => w.keepHold i .opened

/-- Promotions while a place is free (R116), at most `fuel` of them. -/
def BandWork.fill (w : BandWork) : Nat → BandWork
  | 0 => w
  | fuel + 1 => if w.band.count .opened < w.band.cfg.capacity then w.promote.fill fuel else w

/-- Demotions while more gates are OPEN than the capacity (R116), at most `fuel` of them. -/
def BandWork.demote (w : BandWork) : Nat → BandWork
  | 0 => w
  | fuel + 1 =>
    if w.band.cfg.capacity < w.band.count .opened then
      match w.band.quietest with
      | none => w
      | some i => (w.keepHold i .pending).demote fuel
    else w

/-- A gate leaves OPEN, PENDING or CLOSED for a state without a hold timer; a place frees if it was OPEN (R121). -/
def BandWork.vacate (w : BandWork) (i : Nat) (st : GateState) : BandWork :=
  let v := w.set i st none
  if (w.band.gate i).state == .opened then v.promote else v

/-- A gate that became eligible is evaluated fresh (R122). -/
def BandWork.fresh (w : BandWork) (i due : Nat) (emergency : Bool) : BandWork :=
  if emergency then w.set i .forced none else (w.set i .closed none).askIfHeard i due

/-- A band's work is written back, and its mark is set if a gate state changed (R126). -/
def State.workBand (s : State) (b : Nat) (f : BandWork → BandWork) : State :=
  let w := f ⟨s.band b, false⟩
  (s.modBands fun l => l.set b w.band).markIf w.changed (·.markBand b)

/-- Whether the gate of band `b` at index `i` is eligible (R118). -/
def State.eligible (s : State) (b i : Nat) : Bool :=
  s.isActive i && (s.powerCfg i).bands.getLsbD b && (s.band b).feed

/-- Whether the zone of index `i` is EMERGENCY. -/
def State.isEmergency (s : State) (i : Nat) : Bool := s.modeOf i == .emergency

/-! ### Following the units (R122) -/

/-- The gates of a unit that enters ACTIVE in a frame close: FORCED or CLOSED where eligible. -/
def State.gatesEnter (s : State) (i : Nat) : State :=
  s.each (List.range 4) fun s b =>
    if s.eligible b i then
      s.workBand b fun w => w.set i (if s.isEmergency i then .forced else .closed) none
    else s

/-- The gates of a unit that leaves ACTIVE: DISABLED, a place freed for each that was OPEN. -/
def State.gatesLeave (s : State) (i : Nat) : State :=
  s.each (List.range 4) fun s b => s.workBand b fun w => w.vacate i .disabled

/-- A change of the band enable set of index `i` inside a loop frame (R60, R122): bands removed, bands added. -/
def State.gatesReconfigured (s : State) (i : Nat) (old : BitVec 4) : State :=
  s.each (List.range 4) fun s b =>
    let now := (s.powerCfg i).bands.getLsbD b
    if old.getLsbD b && !now then s.workBand b fun w => w.vacate i .disabled
    else if !old.getLsbD b && now && s.eligible b i then
      s.workBand b fun w => w.fresh i (dueInFrame s.now w.band.cfg.hold) (s.isEmergency i)
    else s

/-! ### The band frame (R120) -/

/-- Step 1 for one gate of an ACTIVE unit: the latest A. -/
def Band.hear (b : Band) (i a : Nat) : Band :=
  { b with gates := b.gates.modify i fun g => { g with latest := a } }

/-- Step 1 for one gate: an OPEN or PENDING gate at or above the threshold restarts its hold. -/
def Band.restartHold (b : Band) (boundary i : Nat) : Band :=
  if ((b.gate i).state == .opened || (b.gate i).state == .pending) && b.heard i then
    { b with gates := b.gates.modify i fun g => { g with hold := some (dueAtClose boundary b.cfg.hold) } }
  else b

/-- Whether an OPEN or PENDING gate's hold is due. -/
def Band.holdDue (b : Band) (boundary i : Nat) : Bool :=
  ((b.gate i).state == .opened || (b.gate i).state == .pending) && isDue (b.gate i).hold boundary

/-- Step 2: every due gate closes, and then each place freed is filled by promotion. -/
def BandWork.expire (w : BandWork) (boundary : Nat) : BandWork :=
  let due := (List.range w.band.gates.length).filter (w.band.holdDue boundary)
  let freed := due.filter fun i => (w.band.gate i).state == .opened
  let closed := due.foldl (fun w i => w.set i .closed none) w
  freed.foldl (fun w _ => w.promote) closed

/-- Step 3: every CLOSED gate that is heard asks to open, in position order. -/
def BandWork.openings (w : BandWork) (boundary : Nat) : BandWork :=
  (List.range w.band.gates.length).foldl
    (fun w i =>
      if (w.band.gate i).state == .closed then w.askIfHeard i (dueAtClose boundary w.band.cfg.hold) else w) w

/-- The reported activity of the unit at index `i` for band `b` (R20). -/
def State.activityOf (s : State) (i b : Nat) : Nat := (s.ru i).report.activity.getD b 0

/-- A band takes its record's open threshold into use, as its band frame begins (R115). -/
def Band.takeThreshold (b : Band) : Band := { b with inUse := b.cfg.threshold }

/-- One band frame (R120). -/
def State.bandFrame (s : State) (boundary b : Nat) : State :=
  s.workBand b fun w =>
    let active := (List.range s.n).filter s.isActive
    let heard := active.foldl (fun (x : Band) i => x.hear i (s.activityOf i b)) w.band.takeThreshold
    let held := (List.range heard.gates.length).foldl (fun (x : Band) i => x.restartHold boundary i) heard
    if w.band.feed then ((⟨held, w.changed⟩ : BandWork).expire boundary).openings boundary else ⟨held, w.changed⟩

/-- The band frames of a frame close. -/
def State.bandFrames (s : State) (boundary : Nat) : State := s.each (List.range 4) fun s b => s.bandFrame boundary b

/-! ### Feeds (R117) -/

/-- The engine takes a report of a change of band `b`'s feed (R67, R73). -/
def State.reportFeed (s : State) (b : Nat) : State :=
  s.each ((List.range s.n).filter fun i => (s.powerCfg i).bands.getLsbD b) State.recomputeActive

/-- A feed becomes present (R117): gates evaluated fresh in position order, the report to the engine, the mark. -/
def State.feedComesUp (s : State) (b : Nat) : State :=
  if (s.band b).feed then s
  else
    let s := s.modBands fun l => l.modify b fun x => { x with feed := true }
    let s := s.each (List.range s.n) fun s i =>
      if s.eligible b i then
        s.workBand b fun w => w.fresh i (dueInFrame s.now w.band.cfg.hold) (s.isEmergency i)
      else s
    (s.reportFeed b).markBand b

/-- A feed is lost (R117): every gate DISABLED, its latest A kept, the report to the engine, the mark. -/
def State.feedGoesDown (s : State) (b : Nat) : State :=
  if (s.band b).feed then
    let s := s.modBands fun l => l.modify b fun x =>
      { x with feed := false, gates := x.gates.map fun g => { g with state := .disabled, hold := none } }
    (s.reportFeed b).markBand b
  else s

/-! ### Emergency (R123, R124), RESTART and re-forming (R128) -/

/-- A mode change set to EMERGENCY (R123). -/
def State.forceGates (s : State) (zones : ZoneSet) : State :=
  s.each (s.members zones) fun s i =>
    s.each (List.range 4) fun s b =>
      if s.eligible b i then s.workBand b fun w => w.vacate i .forced else s

/-- A mode change set to NORMAL (R124). -/
def State.releaseGates (s : State) (zones : ZoneSet) : State :=
  s.each (List.range 4) fun s b =>
    s.workBand b fun w =>
      (s.members zones).foldl
        (fun w i =>
          if (w.band.gate i).state == .forced then
            (w.set i .closed none).askIfHeard i (dueInFrame s.now w.band.cfg.hold)
          else w) w

/-- RESTART re-evaluates a band's gates (R128). -/
def State.restartGates (s : State) : State :=
  s.each (List.range 4) fun s b =>
    s.workBand b fun w =>
      if w.band.feed then
        let all := List.range w.band.gates.length
        let live := all.filter fun i =>
          (w.band.gate i).state == .opened || (w.band.gate i).state == .pending || (w.band.gate i).state == .closed
        let closed := live.foldl (fun w i => w.set i .closed none) w
        all.foldl
          (fun w i =>
            if (w.band.gate i).state == .closed then w.askIfHeard i (dueInFrame s.now w.band.cfg.hold) else w) closed
      else w

/-- A re-form to `n` positions (R128): every gate DISABLED with latest A 0; the counts and the feed are kept. -/
def State.reformGates (s : State) (n : Nat) : State :=
  s.each (List.range 4) fun s b =>
    let changed := (s.band b).gates.any fun g => g.state != .disabled
    (s.modBands fun l => l.modify b fun x => { x with gates := List.replicate n Gate.initial }).markIf changed (·.markBand b)

/-! ### SET_BAND (R115, R116) -/

/-- The present fields of a SET_BAND, clamped, over the stored record (R115). -/
def bandRequest (old : BandCfg) (body : List Octet) : BandCfg where
  threshold := pick (present8 body 1 0) (clamp 1 60 (u8 body 2)) old.threshold
  hold := pick (present8 body 1 1) (clamp 100 10000 (u16 body 3)) old.hold
  hysteresis := pick (present8 body 1 2) (clamp 0 20 (u8 body 5)) old.hysteresis
  capacity := pick (present8 body 1 3) (clamp 1 24 (u8 body 6)) old.capacity

/-- A capacity change re-balances the OPEN gates (R116). -/
def BandWork.rebalance (w : BandWork) (oldCapacity : Nat) : BandWork :=
  if oldCapacity < w.band.cfg.capacity then w.fill w.band.gates.length
  else if w.band.cfg.capacity < oldCapacity then w.demote w.band.gates.length
  else w

/-- SET_BAND (R115): a new open threshold waits for the next band frame, a new capacity is applied at once. -/
def handleSetBand (tag : Octet) (body : List Octet) (s : State) : State :=
  let k := u8 body 0
  if k < 1 ∨ 4 < k then s.answer tag .invalid []
  else
    (s.workBand (k - 1) fun w =>
      let cfg := bandRequest w.band.cfg body
      (⟨{ w.band with cfg := cfg }, w.changed⟩ : BandWork).rebalance w.band.cfg.capacity).answer tag .ok []

/-- The fields of a band notice (R126). -/
def bandNotice (s : State) (b : Nat) : List Octet :=
  let x := s.band b
  e8 (b + 1) ++ e8 (if x.feed then 0 else 1) ++ e8 (x.count .opened) ++ e8 (x.count .pending) ++ e8 (x.count .forced) ++
    (List.range 24).flatMap (fun i => e8 (x.gate i).state.code) ++ e16 x.displacements

/-- GET_BAND (R127). -/
def handleGetBand (tag : Octet) (body : List Octet) (s : State) : State :=
  let k := u8 body 0
  if k < 1 ∨ 4 < k then s.answer tag .invalid []
  else
    let x := s.band (k - 1)
    s.answer tag .ok
      (e8 x.cfg.threshold ++ e16 x.cfg.hold ++ e8 x.cfg.hysteresis ++ e8 x.cfg.capacity ++
        e8 (if x.feed then 0 else 1) ++ e8 (x.count .opened) ++ e8 (x.count .pending) ++ e8 (x.count .forced) ++
        e16 x.displacements ++
        (List.range 24).flatMap fun i =>
          eFlag (decide (i < s.n) && (s.powerCfg i).bands.getLsbD (k - 1)) ++ e8 (x.gate i).state.code ++
            e8 (x.gate i).latest ++ eTimer s.now (x.gate i).hold)

end Sys2Proof.Machine
end

