-- ==== Sys2Proof/Machine/Power.lean ====
section
/-! DEFINITION. The requests and the notice of the Power Budget Engine (chapter 04). -/

namespace Sys2Proof.Machine

/-! ### SET_RU_POWER (R60) -/

/-- A request for power, clamped (R59). -/
def clampRequest (n : Nat) : Nat := clamp 0 20000 n

/-- The present fields of a SET_RU_POWER, clamped, over a stored record (R59, R60). That the bits of the two enable octets above
the sixth programme and the fourth band are ignored is a DESIGN CHOICE (log entry 46). -/
def powerRequest (old : PowerCfg) (body : List Octet) : PowerCfg where
  limit := pick (present16 body 3 0) (clamp 100 20000 (u16 body 5)) old.limit
  broadcast := pick (present16 body 3 1) (clampRequest (u16 body 7)) old.broadcast
  rescue := pick (present16 body 3 2) (clampRequest (u16 body 9)) old.rescue
  mobile := (List.range 4).map fun b =>
    pick (present16 body 3 (3 + b)) (clampRequest (u16 body (11 + 2 * b))) (old.mobile.getD b 0)
  programmes := pick (present16 body 3 7) ((octetAt body 19).setWidth 6) old.programmes
  bands := pick (present16 body 3 8) ((octetAt body 20).setWidth 4) old.bands

/-- The positions whose record a SET_RU_POWER changes. -/
def State.powerChanges (s : State) (body : List Octet) : List Nat :=
  (s.members (zonesAt body 0)).filter fun i => powerRequest (s.powerCfg i) body != s.powerCfg i

/-- SET_RU_POWER (R60): the records are written; then each position whose record changed is recomputed, and a change of its mobile
band enable set goes to the Mobile Band Supervisor (R122). -/
def handleSetRuPower (tag : Octet) (body : List Octet) (s : State) : State :=
  let changed := s.powerChanges body
  let t := s.modPbe fun p =>
    { p with cfgs := p.cfgs.zipIdx.map fun x => if changed.contains x.2 then powerRequest x.1 body else x.1 }
  let t := t.each changed fun u i =>
    let u := u.recompute i
    if (s.powerCfg i).bands = (u.powerCfg i).bands then u else u.gatesReconfigured i (s.powerCfg i).bands
  t.answer tag .ok []

/-! ### SET_PLAN (R63) -/

/-- The bank that a SET_PLAN carries, its floors clamped (R62, R63). -/
def planRequest (body : List Octet) : PlanBank where
  rescue := u8 body 1
  broadcast := u8 body 2
  band := (List.range 4).map fun b => u8 body (3 + b)
  floors := (List.range 4).map fun c => clamp 0 256 (u16 body (7 + 2 * c))

/-- Whether a class assignment of a SET_PLAN lies outside 1..4. -/
def planClassesBad (body : List Octet) : Bool := (List.range 6).any fun j => u8 body (1 + j) < 1 || 4 < u8 body (1 + j)

/-- SET_PLAN (R63): the bank is written whole, and a change recomputes every ACTIVE unit that uses it. -/
def handleSetPlan (tag : Octet) (body : List Octet) (s : State) : State :=
  let k := u8 body 0
  if 1 < k ∨ planClassesBad body = true then s.answer tag .invalid []
  else
    let bank := planRequest body
    let old := if k = 0 then s.pbe.bank0 else s.pbe.bank1
    if bank = old then s.answer tag .ok []
    else
      let t := s.modPbe fun p => if k = 0 then { p with bank0 := bank } else { p with bank1 := bank }
      (t.each ((List.range s.n).filter fun i => s.bankNo i == k) State.recomputeActive).answer tag .ok []

/-! ### What the host sees (R76, R77) -/

/-- The fields of a power configuration record (R59). -/
def ePowerCfg (c : PowerCfg) : List Octet :=
  e16 c.limit ++ e16 c.broadcast ++ e16 c.rescue ++ (List.range 4).flatMap (fun b => e16 (c.mobile.getD b 0)) ++
    e8 c.programmes.toNat ++ e8 c.bands.toNat

/-- The four class scales. -/
def eSigma (l : List Nat) : List Octet := (List.range 4).flatMap fun c => e16 (l.getD c 0)

/-- A carrier of an allocation record (R72). -/
def eCarrier (x : Carrier) : List Octet := e8 x.kind.code ++ e8 x.number ++ e8 x.cls ++ e16 x.request ++ e16 x.alloc

/-- A plan bank, whole (R62). Broadcast stands before rescue, as in the prose of R62: DEDUCED (log entry 24). -/
def eBank (b : PlanBank) : List Octet :=
  e8 b.broadcast ++ e8 b.rescue ++ (List.range 4).flatMap (fun i => e8 (b.band.getD i 0)) ++
    (List.range 4).flatMap fun c => e16 (b.floors.getD c 0)

/-- GET_BUDGET (R77). That the P_lim of the standing is given for a unit that is not ACTIVE too, from its limit and its last thermal
state, is a DESIGN CHOICE (log entry 58). -/
def handleGetBudget (tag : Octet) (body : List Octet) (s : State) : State :=
  let k := u8 body 0
  if k < 1 ∨ s.n < k then s.answer tag .invalid []
  else
    let i := k - 1
    let cfg := s.powerCfg i
    let r := s.ru i
    let a := s.allocOf i
    s.answer tag .ok
      (ePowerCfg cfg ++ e8 r.state.code ++ e8 (thermalCode r.thermal) ++ e16 (derating r.thermal) ++
        e16 (deratedLimit cfg.limit r.thermal) ++ e8 a.status.code ++ eOpt8 a.bank ++ eOpt16 a.plim ++ eSigma a.sigma ++
        e16 a.tau ++ eList a.carriers eCarrier ++ e24 (totalRequest a.carriers) ++ eBank s.pbe.bank0 ++ eBank s.pbe.bank1)

/-- The fields of a power-status notice (R76). -/
def powerNotice (s : State) (i : Nat) : List Octet :=
  let a := s.allocOf i
  e8 (i + 1) ++ e8 a.status.code ++ eOpt8 a.bank ++ eOpt16 a.plim ++ eSigma a.sigma ++ e16 a.tau ++
    e24 (totalRequest a.carriers) ++ e16 (totalAlloc a.carriers)

end Sys2Proof.Machine
end

