-- ==== Sys2Proof/Machine/Flash.lean ====
section
/-! DEFINITION. The external flash (R159): addresses, reads, programs that only turn ones to zeros, erases, and what a cut
operation leaves behind. -/

namespace Sys2Proof.Machine

/-! ### The audio octets at their addresses -/

/-- The address of octet 0 of a block of a slot: areas of 256 KiB, blocks of 128 octets. -/
def blockAddr (slot index : Nat) : Nat := slot * 262144 + index * 128

/-- The first address of an erase unit of 64 KiB of a slot. -/
def unitAddr (slot unit : Nat) : Nat := slot * 262144 + unit * 65536

/-- The octet at an address; an unlisted octet is all ones. -/
def cellAt : List Host.Cell → Nat → Octet
  | [], _ => 0xFF#8
  | (b, v) :: l, a => if a = b then v else cellAt l a

/-- The octet at an address becomes `v`, in canonical form: an octet of all ones is not listed. -/
def putCell : List Host.Cell → Nat → Octet → List Host.Cell
  | [], a, v => if v = 0xFF#8 then [] else [(a, v)]
  | (b, w) :: l, a, v =>
    if a < b then (if v = 0xFF#8 then (b, w) :: l else (a, v) :: (b, w) :: l)
    else if a = b then (if v = 0xFF#8 then l else (a, v) :: l)
    else (b, w) :: putCell l a v

/-- The canonical form: addresses strictly rising, no octet of all ones listed. -/
def cellsWf : List Host.Cell → Bool
  | [] => true
  | (a, v) :: l =>
    v != 0xFF#8 && cellsWf l &&
      match l with
      | [] => true
      | (b, _) :: _ => decide (a < b)

/-- Octets programmed from an address on (R159): each bit can only turn from one to zero. -/
def programCells (l : List Host.Cell) (a : Nat) : List Octet → List Host.Cell
  | [] => l
  | v :: vs => programCells (putCell l a (cellAt l a &&& v)) (a + 1) vs

/-- The same program cut before its end: a bit given as zero may or may not have turned. -/
def programCellsCut (cut : Nat) (l : List Host.Cell) (a : Nat) : List Octet → List Host.Cell
  | [] => l
  | v :: vs => programCellsCut cut (putCell l a (cellAt l a &&& (v ||| Config.tornOctet cut a))) (a + 1) vs

/-- Every octet from `lo` up to `hi` becomes all ones (R159). -/
def eraseCells (l : List Host.Cell) (lo hi : Nat) : List Host.Cell := l.filter fun x => !(decide (lo ≤ x.1) && decide (x.1 < hi))

/-- The same erase cut before its end: a zero bit may or may not have turned to one. -/
def eraseCellsCut (cut : Nat) (l : List Host.Cell) (lo hi : Nat) : List Host.Cell :=
  l.filterMap fun x =>
    if lo ≤ x.1 ∧ x.1 < hi then
      let v := x.2 ||| Config.tornOctet cut x.1
      if v = 0xFF#8 then none else some (x.1, v)
    else some x

/-- An audio block as it stands on the flash. -/
def readBlock (f : Flash) (slot index : Nat) : List Octet :=
  (List.range 128).map fun i => cellAt f.cells (blockAddr slot index + i)

/-! ### Headers -/

/-- The header of a slot. -/
def Flash.header (f : Flash) (slot : Nat) : Header := f.headers.getD slot Header.erased

/-- A marker after its fixed value is programmed onto it. -/
def Marker.program : Marker → Marker
  | .erased => .programmed
  | .programmed => .programmed
  | .other => .other

/-- A marker picked by a free value. -/
def tornMarker (n : Nat) : Marker := if n % 3 = 0 then .erased else if n % 3 = 1 then .programmed else .other

/-- A marker after a program onto it was cut. -/
def Marker.programCut (m : Marker) (n : Nat) : Marker :=
  match m with
  | .erased => tornMarker n
  | .programmed => .programmed
  | .other => .other

/-- A marker after an erase of it was cut. -/
def Marker.eraseCut (m : Marker) (n : Nat) : Marker :=
  match m with
  | .erased => .erased
  | .programmed => tornMarker n
  | .other => tornMarker n

/-- The begun marker, the length and the label programmed into a header (R166). -/
def Header.programBegun (h : Header) (length : Nat) (label : List Octet) : Header :=
  { h with
    begun := h.begun.program
    length := h.length &&& BitVec.ofNat 16 length
    label := List.zipWith (· &&& ·) h.label label }

/-- The complete marker and the clip CRC programmed into a header (R168). -/
def Header.programComplete (h : Header) (crc : BitVec 32) : Header :=
  { h with complete := h.complete.program, crc := h.crc &&& crc }

/-- A header after the program of its begun marker, length and label was cut. -/
def Header.begunCut (cut : Nat) (h : Header) (length : Nat) (label : List Octet) : Header :=
  { h with
    begun := h.begun.programCut (Config.tornField cut 0)
    length := h.length &&& (BitVec.ofNat 16 length ||| BitVec.ofNat 16 (Config.tornField cut 1))
    label := List.zipWith (fun x y => x &&& y)
      h.label (label.zipIdx.map fun x => x.1 ||| BitVec.ofNat 8 (Config.tornField cut (5 + x.2))) }

/-- A header after the program of its complete marker and CRC was cut. -/
def Header.completeCut (cut : Nat) (h : Header) (crc : BitVec 32) : Header :=
  { h with
    complete := h.complete.programCut (Config.tornField cut 2)
    crc := h.crc &&& (crc ||| BitVec.ofNat 32 (Config.tornField cut 3)) }

/-- A header after the erase of its unit was cut. -/
def Header.eraseCut (cut : Nat) (h : Header) : Header where
  begun := h.begun.eraseCut (Config.tornField cut 0)
  length := h.length ||| BitVec.ofNat 16 (Config.tornField cut 1)
  label := h.label.zipIdx.map fun x => x.1 ||| BitVec.ofNat 8 (Config.tornField cut (5 + x.2))
  complete := h.complete.eraseCut (Config.tornField cut 2)
  crc := h.crc ||| BitVec.ofNat 32 (Config.tornField cut 3)
  clean := h.clean || Config.tornField cut 4 % 2 == 0

/-! ### Operations on the flash -/

/-- The blocks of a program at their addresses, each by `write`. -/
def writeBlocks (write : List Host.Cell → Nat → List Octet → List Host.Cell) (l : List Host.Cell) (slot : Nat)
    (bs : List IndexedBlock) : List Host.Cell :=
  bs.foldl (fun l b => write l (blockAddr slot b.index) b.data) l

/-- The flash after an operation has finished. A read leaves it; the settings area holds a valid copy only after its last
page, which the settings job sees to. -/
def Flash.finish (f : Flash) (op : FlashOp) : Flash :=
  match op with
  | .readSettings => f
  | .readHeader _ => f
  | .readBlock _ _ => f
  | .eraseUnit slot unit =>
    { f with
      cells := eraseCells f.cells (unitAddr slot unit) (unitAddr slot (unit + 1))
      headers := if unit = 0 then f.headers.set slot Header.erased else f.headers }
  | .eraseSettings => { f with area := .erased }
  | .programBegun slot length label =>
    { f with headers := f.headers.modify slot fun h => h.programBegun length label }
  | .programBlocks slot bs => { f with cells := writeBlocks programCells f.cells slot bs }
  | .programComplete slot crc => { f with headers := f.headers.modify slot fun h => h.programComplete crc }
  | .programSettings => { f with area := .invalid }

/-- The flash after an operation was cut or failed before its end. -/
def Flash.cutOp (f : Flash) (op : FlashOp) : Flash :=
  let k := f.cuts
  match op with
  | .readSettings => f
  | .readHeader _ => f
  | .readBlock _ _ => f
  | .eraseUnit slot unit =>
    { f with
      cells := eraseCellsCut k f.cells (unitAddr slot unit) (unitAddr slot (unit + 1))
      headers := if unit = 0 then f.headers.modify slot (Header.eraseCut k) else f.headers
      cuts := k + 1 }
  | .eraseSettings => { f with area := .invalid, cuts := k + 1 }
  | .programBegun slot length label =>
    { f with headers := f.headers.modify slot (fun h => h.begunCut k length label), cuts := k + 1 }
  | .programBlocks slot bs => { f with cells := writeBlocks (programCellsCut k) f.cells slot bs, cuts := k + 1 }
  | .programComplete slot crc =>
    { f with headers := f.headers.modify slot (fun h => h.completeCut k crc), cuts := k + 1 }
  | .programSettings => { f with area := .invalid, cuts := k + 1 }

/-- The directory entry that a header read gives (R161). That the table alone decides, also of a slot whose upload was cut while its
header was erased or of former contents, is DEDUCED (log entry 63). -/
def entryOf (h : Header) : DirEntry :=
  if h = Header.erased then DirEntry.empty
  else if h.begun = .programmed ∧ h.complete = .programmed ∧ 1 ≤ h.length.toNat ∧ h.length.toNat ≤ 2047 then
    ⟨.ready, false, h.length.toNat, h.label, h.crc⟩
  else ⟨.damaged, false, h.length.toNat, h.label, h.crc⟩

/-- The entry of a slot whose header read failed, or of an absent flash (R161): DAMAGED, nothing known of its header. -/
def entryUnread : DirEntry := { DirEntry.empty with state := .damaged }

end Sys2Proof.Machine
end

