-- ==== Sys2Proof/Machine/Rescue.lean ====
section
/-! DEFINITION. The Rescue Relay and the Uplink Voter (chapters 05 and 06): candidates, selection, the channel frame, carrier
events, the channel record's writing, and RESTART. -/

namespace Sys2Proof.Machine

/-- A channel being worked on, with the word whether its notice mark is to be set (R100, R112). -/
structure ChanWork where
  ch : Channel
  mark : Bool
deriving DecidableEq, Repr

/-! ### The voter (R105 to R109, R112) -/

/-- The Q of the unit at index `i` for channel `c` in the latest report (R20). -/
def State.qualityOf (s : State) (i c : Nat) : Nat := ((s.ru i).report.quality.getD c 0#8).toNat

/-- The emergency-call flag of the unit at index `i` for channel `c` in the latest report (R20). -/
def State.callOf (s : State) (i c : Nat) : Bool := (s.ru i).report.calls.getLsbD c

/-- The candidate set of channel `c` (R105), in position order. -/
def State.candidates (s : State) (c : Nat) : List Candidate :=
  let ch := s.channel c
  ((List.range s.n).filter fun i =>
    s.isActive i && ch.cfg.coverage.mem i && !ch.lockout.mem i && decide (ch.cfg.qClose ≤ s.qualityOf i c)).map
    fun i => ⟨i, s.qualityOf i c⟩

/-- Whether a candidate set holds an opening candidate (R105). -/
def hasOpening (cfg : ChanCfg) (cs : List Candidate) : Bool := cs.any fun x => cfg.qOpen ≤ x.q

/-- The best candidate (R107): the highest Q, among equals the lowest position (the list is in position order). -/
def bestCandidate : List Candidate → Option Candidate
  | [] => none
  | x :: l =>
    match bestCandidate l with
    | none => some x
    | some y => if x.q < y.q then some y else some x

/-- The selection of R107 for a channel that is and stays UP. -/
def selectSource (cs : List Candidate) (hysteresis : Nat) (current : Option Nat) : Option Nat :=
  match cs.find? fun x => some x.idx == current with
  | none => (bestCandidate cs).map (·.idx)
  | some cur =>
    match bestCandidate (cs.filter fun x => x.idx != cur.idx) with
    | none => some cur.idx
    | some b => if cur.q + hysteresis ≤ b.q then some b.idx else some cur.idx

/-- The voter's record takes a source; a source change follows the rate rule of the notice (R112). -/
def ChanWork.setSource (w : ChanWork) (src : Option Nat) : ChanWork :=
  if src = w.ch.source then w
  else if w.ch.blockFlag then ⟨{ w.ch with source := src, deferred := true }, w.mark⟩
  else ⟨{ w.ch with source := src, blockFlag := true }, true⟩

/-! ### Moving between states (R89, R91, R93) -/

/-- The emergency-call check (R95): the flag of the source sets the marker and stops the talk timer. -/
def ChanWork.callCheck (w : ChanWork) (call : Nat → Bool) : ChanWork :=
  match w.ch.source with
  | none => w
  | some i => if call i && !w.ch.marker then ⟨{ w.ch with marker := true, talkT := none }, true⟩ else w

/-- The talk timer starts with the full talk timeout, if the marker is clear and the timeout is not 0 (R89, R90, R94). -/
def ChanWork.startTalk (w : ChanWork) (due : Nat → Nat) : ChanWork :=
  if w.ch.marker || w.ch.cfg.talk == 0 then w
  else ⟨{ w.ch with talkT := some (due (1000 * w.ch.cfg.talk)) }, w.mark⟩

/-- Entry to UP in a channel frame (R89, R108). -/
def ChanWork.enterUp (w : ChanWork) (boundary : Nat) (call : Nat → Bool) : ChanWork :=
  let v : ChanWork := ⟨{ w.ch with state := .up, marker := false, turnT := none, hangT := none, talkT := none }, true⟩
  ((v.setSource ((bestCandidate w.ch.cands).map (·.idx))).callCheck call).startTalk (dueAtClose boundary)

/-- Leaving UP for another state (R93). -/
def ChanWork.leaveUp (w : ChanWork) (next : ChanState) : ChanWork :=
  let v := w.setSource none
  ⟨{ v.ch with state := next, hangT := none, talkT := none, marker := false, dlPending := false }, true⟩

/-- A frame with no candidate in UP (R90): the voter holds none, the hang starts if stopped, the talk timer stops then. -/
def ChanWork.noCandidate (w : ChanWork) (boundary : Nat) : ChanWork :=
  let v := w.setSource none
  match v.ch.hangT with
  | some _ => v
  | none => ⟨{ v.ch with hangT := some (dueAtClose boundary v.ch.cfg.hang), talkT := none }, v.mark⟩

/-! ### Timer expiries (R88, R91, R94) -/

/-- The turnaround expires (R88): UP with an opening candidate, IDLE otherwise. -/
def ChanWork.turnExpire (w : ChanWork) (boundary : Nat) (call : Nat → Bool) : ChanWork :=
  if hasOpening w.ch.cfg w.ch.cands then w.enterUp boundary call
  else ⟨{ w.ch with state := .idle, turnT := none }, true⟩

/-- The hang expires (R91): DOWN with the pending flag set and the carrier on, IDLE otherwise. -/
def ChanWork.hangExpire (w : ChanWork) : ChanWork :=
  w.leaveUp (if w.ch.dlPending && w.ch.carrier then .down else .idle)

/-- The talk timer expires (R94): the source is locked out, the voter reselects, the timer restarts or the hang starts. -/
def ChanWork.talkExpire (w : ChanWork) (boundary : Nat) (call : Nat → Bool) : ChanWork :=
  match w.ch.source with
  | none => w
  | some i =>
    let rest := w.ch.cands.filter fun x => x.idx != i
    let v : ChanWork :=
      ⟨{ w.ch with
          lockout := w.ch.lockout ||| ZoneSet.one i
          talkouts := satInc w.ch.talkouts
          talkT := none
          cands := rest }, true⟩
    let v := v.setSource none
    match bestCandidate rest with
    | none => v.noCandidate boundary
    | some b => ((v.setSource (some b.idx)).startTalk (dueAtClose boundary)).callCheck call

/-! ### The channel frame (R85 to R90, R95) -/

/-- Step 1: the candidate summary under the rules of the channel's state. -/
def ChanWork.frameSummary (w : ChanWork) (boundary : Nat) (call : Nat → Bool) : ChanWork :=
  match w.ch.state with
  | .idle => if hasOpening w.ch.cfg w.ch.cands then w.enterUp boundary call else w
  | .down => w
  | .turn => w
  | .up =>
    if w.ch.cands.isEmpty then w.noCandidate boundary
    else
      let v := w.setSource (selectSource w.ch.cands w.ch.cfg.hysteresis w.ch.source)
      match v.ch.hangT with
      | none => v
      | some _ => (⟨{ v.ch with hangT := none }, v.mark⟩ : ChanWork).startTalk (dueAtClose boundary)

/-- Step 2: in UP, the emergency-call flag of the source that the frame ends with. -/
def ChanWork.frameCall (w : ChanWork) (call : Nat → Bool) : ChanWork :=
  match w.ch.state with
  | .up => w.callCheck call
  | .idle => w
  | .down => w
  | .turn => w

/-- Step 3: the timer that runs and is due expires. At most one of the three runs in any state. -/
def ChanWork.frameTimers (w : ChanWork) (boundary : Nat) (call : Nat → Bool) : ChanWork :=
  match w.ch.state with
  | .turn => if isDue w.ch.turnT boundary then w.turnExpire boundary call else w
  | .up =>
    if isDue w.ch.hangT boundary then w.hangExpire
    else if isDue w.ch.talkT boundary then w.talkExpire boundary call
    else w
  | .idle => w
  | .down => w

/-- The three steps of a channel frame on the candidates just formed. -/
def ChanWork.frame (w : ChanWork) (boundary : Nat) (call : Nat → Bool) : ChanWork :=
  ((w.frameSummary boundary call).frameCall call).frameTimers boundary call

/-- A channel's work is written back: its mark is set where it is due, and the positions that join or leave its radiating set
are reported to the Power Budget Engine (R99, R100). -/
def State.workChannel (s : State) (c : Nat) (f : ChanWork → ChanWork) : State :=
  let before := s.radiating (s.channel c)
  let w := f ⟨s.channel c, false⟩
  ((s.modChannels fun l => l.set c w.ch).markIf w.mark (·.markChannel c)).reportRadiating c before

/-- The lockout set of channel `c` at a frame close (R96): ACTIVE members whose Q is below Q_close leave it. -/
def State.keptLockout (s : State) (c : Nat) : ZoneSet :=
  let ch := s.channel c
  ZoneSet.below (fun i => ch.lockout.mem i && !(s.isActive i && decide (s.qualityOf i c < ch.cfg.qClose))) 24

/-- One enabled channel's part of a frame close: lockout release, candidates, the channel frame. -/
def State.channelFrame (s : State) (boundary c : Nat) : State :=
  if (s.channel c).cfg.enabled then
    let kept := s.keptLockout c
    let cands := s.candidates c
    s.workChannel c fun w =>
      (⟨{ w.ch with lockout := kept, cands := cands }, w.mark || kept != w.ch.lockout⟩ : ChanWork).frame boundary
        fun i => s.callOf i c
  else s

/-- The channel frames of a frame close. -/
def State.channelFrames (s : State) (boundary : Nat) : State :=
  s.each (List.range 8) fun s c => s.channelFrame boundary c

/-! ### Units leaving ACTIVE (R96, R109) -/

/-- A unit that leaves ACTIVE is dropped as a source and leaves every lockout set. -/
def State.votersLeave (s : State) (i : Nat) : State :=
  s.each (List.range 8) fun s c =>
    s.workChannel c fun w =>
      let v := if w.ch.source = some i then w.setSource none else w
      ⟨{ v.ch with lockout := v.ch.lockout &&& ~~~ ZoneSet.one i }, v.mark || v.ch.lockout.mem i⟩

/-! ### Carrier events (R84, R86 to R88, R92) -/

/-- DL_ON at an enabled channel whose level was off. -/
def ChanWork.carrierOn (w : ChanWork) : ChanWork :=
  match w.ch.state with
  | .idle => ⟨{ w.ch with state := .down }, true⟩
  | .down => w
  | .turn => ⟨{ w.ch with state := .down, turnT := none }, true⟩
  | .up =>
    if w.ch.cfg.direction == .dlFirst && !w.ch.marker then
      let v := w.leaveUp .down
      ⟨{ v.ch with preempts := satInc v.ch.preempts }, true⟩
    else ⟨{ w.ch with dlPending := true }, true⟩

/-- DL_OFF at an enabled channel whose level was on, after boundary `now`. -/
def ChanWork.carrierOff (w : ChanWork) (now : Nat) : ChanWork :=
  match w.ch.state with
  | .idle => w
  | .down =>
    if w.ch.cfg.turnaround = 0 then ⟨{ w.ch with state := .idle }, true⟩
    else ⟨{ w.ch with state := .turn, turnT := some (dueInFrame now w.ch.cfg.turnaround) }, true⟩
  | .turn => w
  | .up => ⟨{ w.ch with dlPending := false }, true⟩

/-- The relay takes a DL_ON (R84). -/
def State.takeDlOn (s : State) (c : Nat) : State :=
  if (s.channel c).carrier then s
  else s.workChannel c fun w =>
    let v : ChanWork := ⟨{ w.ch with carrier := true }, true⟩
    if w.ch.cfg.enabled then v.carrierOn else v

/-- The relay takes a DL_OFF (R84). -/
def State.takeDlOff (s : State) (c : Nat) : State :=
  if (s.channel c).carrier then
    s.workChannel c fun w =>
      let v : ChanWork := ⟨{ w.ch with carrier := false }, true⟩
      if w.ch.cfg.enabled then v.carrierOff s.now else v
  else s

/-! ### Mode change sets (R97) -/

/-- The relay's reaction to a mode change set, the modes having changed from those of `old`: the channels whose coverage holds a
zone of the set derive their effective talk-through afresh. -/
def State.relayModes (s old : State) (zones : ZoneSet) : State :=
  s.each (List.range 8) fun s c =>
    let ch := s.channel c
    if (s.members (ch.cfg.coverage &&& zones)).isEmpty then s
    else
      let s := s.markIf (old.talkThrough ch != s.talkThrough ch) (·.markChannel c)
      s.reportRadiating c (old.radiating ch)

/-! ### SET_CHANNEL (R82, R83) -/

/-- The clamp of the talk timeout (R80): 0 is off, 1..9 becomes 10, above 300 becomes 300. -/
def clampTalk (n : Nat) : Nat := if n = 0 then 0 else clamp 10 300 n

/-- The present fields of a SET_CHANNEL, clamped, over the stored record (R80, R82). Presence bits 10 to 15 mark no field and are
ignored: DESIGN CHOICE (log entry 46). -/
def channelRequest (old : ChanCfg) (body : List Octet) : ChanCfg where
  enabled := pick (present16 body 1 0) (u8 body 3 == 1) old.enabled
  coverage := pick (present16 body 1 1) (zonesAt body 4) old.coverage
  qOpen := pick (present16 body 1 2) (u8 body 7) old.qOpen
  qClose := pick (present16 body 1 3) (u8 body 8) old.qClose
  hysteresis := pick (present16 body 1 4) (clamp 0 64 (u8 body 9)) old.hysteresis
  turnaround := pick (present16 body 1 5) (clamp 0 1000 (u16 body 10)) old.turnaround
  hang := pick (present16 body 1 6) (clamp 0 2000 (u16 body 12)) old.hang
  talk := pick (present16 body 1 7) (clampTalk (u16 body 14)) old.talk
  direction := pick (present16 body 1 8) (if u8 body 16 = 1 then .ulFirst else .dlFirst) old.direction
  talkThrough := pick (present16 body 1 9) (u8 body 17 == 1) old.talkThrough

/-- A present enabled, direction or talk-through field whose code is undefined (R82 step 2). -/
def channelCodesBad (body : List Octet) : Bool :=
  (present16 body 1 0 && decide (1 < u8 body 3)) || (present16 body 1 8 && decide (1 < u8 body 16)) ||
    (present16 body 1 9 && decide (1 < u8 body 17))

/-- The state record and the voting record of a channel that is disabled (R81, R83, R103), the keyed item released with them; the
output of the loop frame in progress stays until the next (R93): DEDUCED (log entry 43). -/
def ChanWork.disable (w : ChanWork) : ChanWork :=
  let v := if w.ch.state == .up then w.leaveUp .idle else w.setSource none
  ⟨{ v.ch with
      state := .idle, turnT := none, hangT := none, talkT := none, dlPending := false, marker := false
      lockout := 0#24, cands := [], keyed := false },
    v.mark || w.ch.state != .idle || w.ch.lockout != 0#24 || w.ch.dlPending⟩

/-- The changes of a SET_CHANNEL applied to the running channel (R83), after boundary `now`. The source is dropped before the talk
timeout is looked at: DESIGN CHOICE (log entry 50). -/
def ChanWork.configure (w : ChanWork) (cfg : ChanCfg) (now : Nat) : ChanWork :=
  let old := w.ch.cfg
  let v : ChanWork := ⟨{ w.ch with cfg := cfg }, w.mark⟩
  let v := if old.enabled && !cfg.enabled then v.disable else v
  let v := if !old.enabled && cfg.enabled && v.ch.carrier then ⟨{ v.ch with state := .down }, true⟩ else v
  let kept := v.ch.lockout &&& cfg.coverage
  let v : ChanWork := ⟨{ v.ch with lockout := kept }, v.mark || kept != v.ch.lockout⟩
  let v :=
    match v.ch.source with
    | some i => if cfg.coverage.mem i then v else v.setSource none
    | none => v
  if cfg.talk = old.talk then v
  else if cfg.talk = 0 then ⟨{ v.ch with talkT := none }, v.mark⟩
  else if v.ch.state == .up && v.ch.talkT.isNone && !v.ch.marker && v.ch.source.isSome then
    v.startTalk (dueInFrame now)
  else v

/-- SET_CHANNEL (R82). -/
def handleSetChannel (tag : Octet) (body : List Octet) (s : State) : State :=
  let k := u8 body 0
  if k < 1 ∨ 8 < k then s.answer tag .invalid []
  else if channelCodesBad body then s.answer tag .invalid []
  else
    let ch := s.channel (k - 1)
    let cfg := channelRequest ch.cfg body
    if cfg.qOpen < cfg.qClose then s.answer tag .invalid []
    else
      let t := s.workChannel (k - 1) fun w =>
        let v := w.configure cfg s.now
        ⟨v.ch, v.mark || s.talkThrough w.ch != s.talkThrough v.ch⟩
      t.answer tag .ok []

/-! ### RESTART (R102, R112) -/

/-- A channel returned to rest (R102 step 1, R103), with the block and deferred flags cleared (R112) and the keyed item released
(R81; the output at the port follows at the next loop frame, R98). -/
def ChanWork.rest (w : ChanWork) : ChanWork :=
  let v := w.disable
  ⟨{ v.ch with blockFlag := false, deferred := false, keyed := false }, v.mark⟩

/-- RESTART at the relay and the voter (R102): each channel returns to rest, and an enabled one whose carrier is on enters DOWN. That
this is done channel by channel, one in DOWN before the next is at rest, is DEDUCED (log entry 57). -/
def State.restartChannels (s : State) : State :=
  s.each (List.range 8) fun s c =>
    let s := s.workChannel c ChanWork.rest
    s.workChannel c fun w =>
      if w.ch.cfg.enabled && w.ch.carrier then ⟨{ w.ch with state := .down }, true⟩ else w

/-! ### The audio block boundary (R112) -/

/-- The voter at an audio block boundary: block flags cleared, deferred marks set. -/
def State.voterBoundary (s : State) : State :=
  s.each (List.range 8) fun s c =>
    let ch := s.channel c
    (s.modChannels fun l => l.set c { ch with blockFlag := ch.deferred, deferred := false }).markIf ch.deferred
      (·.markChannel c)

/-! ### What the host sees (R100, R101, R113) -/

/-- The fields of a channel notice (R100). -/
def channelNotice (s : State) (c : Nat) : List Octet :=
  let ch := s.channel c
  e8 (c + 1) ++ eFlag ch.cfg.enabled ++ e8 ch.state.code ++ eFlag ch.carrier ++ eFlag ch.dlPending ++ eFlag ch.marker ++
    eFlag ch.cfg.talkThrough ++ eFlag (s.talkThrough ch) ++ eFlag ch.keyed ++
    (match ch.source with
      | none => e8 0xFF ++ e16 0xFFFF ++ e8 0xFF
      | some i => e8 (i + 1) ++ e16 (s.qualityOf i c) ++ eFlag (s.callOf i c)) ++
    eZones ch.lockout ++ e16 ch.preempts ++ e16 ch.talkouts

/-- GET_CHANNEL (R101). -/
def handleGetChannel (tag : Octet) (body : List Octet) (s : State) : State :=
  let k := u8 body 0
  if k < 1 ∨ 8 < k then s.answer tag .invalid []
  else
    let ch := s.channel (k - 1)
    s.answer tag .ok
      (eFlag ch.cfg.enabled ++ eZones ch.cfg.coverage ++ e8 ch.cfg.qOpen ++ e8 ch.cfg.qClose ++ e8 ch.cfg.hysteresis ++
        e16 ch.cfg.turnaround ++ e16 ch.cfg.hang ++ e16 ch.cfg.talk ++ e8 ch.cfg.direction.code ++
        eFlag ch.cfg.talkThrough ++ channelNotice s (k - 1) ++ eTimer s.now ch.turnT ++ eTimer s.now ch.hangT ++
        eTimer s.now ch.talkT ++ eZones (s.radiating ch))

end Sys2Proof.Machine
end

