-- ==== Sys2Proof/Machine/BreakIn.lean ====
section
/-! DEFINITION. The Break-in Mixer and the Live Voice Queue (chapter 08). -/

namespace Sys2Proof.Machine

/-! ### Sources and audible sets (R130, R135, R136) -/

/-- The audible zone set of a source (R136): the zones it wins. -/
def State.audible (s : State) (src : Source) : ZoneSet :=
  ZoneSet.below (fun i => (s.bim.winners.getD i none) == some src) s.n

/-- The notice mark of a source (R136, R143, R158). -/
def State.markSource (s : State) (src : Source) : State :=
  match src with
  | .live => s.markLive
  | .player p => s.markPlayer p

/-- A source joins the activation list at the tail (R130). -/
def State.activate (s : State) (src : Source) : State :=
  s.modBim fun b => { b with activation := b.activation ++ [src] }

/-- A source that ends leaves the activation list and every zone it wins (R130, R135, R136). -/
def State.deactivate (s : State) (src : Source) : State :=
  let had := s.audible src != 0#24
  (s.modBim fun b =>
    { b with
      activation := b.activation.filter (· != src)
      winners := b.winners.map fun w => if w = some src then none else w }).markIf had (·.markSource src)

/-! ### Offers and winners (R132, R133) -/

/-- What a source offers at an audio block boundary (R132). -/
structure Offer where
  source : Source
  ready : Bool
  priority : Nat
  target : ZoneSet
  air : Air
deriving DecidableEq, Repr

/-- Whether an offer made by a source further back in the activation list beats one further ahead (R133). -/
def Offer.beats (later earlier : Offer) : Bool :=
  decide (earlier.priority < later.priority) || (later.priority == earlier.priority && later.source == .live)

/-- The winning offer among those eligible in a zone, which stand in the order of the activation list (R133). -/
def bestOffer : List Offer → Option Offer
  | [] => none
  | x :: l =>
    match bestOffer l with
    | none => some x
    | some y => if y.beats x then some y else some x

/-- Whether an offer is eligible in the zone of index `i` with its threshold in force (R133). -/
def Offer.eligible (o : Offer) (i threshold : Nat) : Bool := o.ready && o.target.mem i && decide (threshold < o.priority)

/-- The winner of the zone of index `i` (R133). -/
def winnerOf (offers : List Offer) (i threshold : Nat) : Option Source :=
  (bestOffer (offers.filter fun o => o.eligible i threshold)).map (·.source)

/-- The mixer's part of a boundary (R133, R136): thresholds read, winners chosen, marks for the audible sets that change. -/
def State.chooseWinners (s : State) (offers : List Offer) : State :=
  let force := (List.range s.n).map fun i => (s.zmg.zones.getD i ⟨0, .normal⟩).threshold
  let winners := (List.range s.n).map fun i => winnerOf offers i (force.getD i 0)
  let t := s.modBim fun b => { b with winners := winners, inForce := force }
  [Source.live, .player 0, .player 1, .player 2, .player 3].foldl
    (fun u src => u.markIf (s.audible src != t.audible src) (·.markSource src)) t

/-- A re-form to `n` positions (R135): the zones above leave every audible set, new zones have no winner. The threshold in force
(R133) of a new zone is 0 until the next boundary: DESIGN CHOICE (log entry 65). -/
def State.reformWinners (s : State) (n : Nat) : State :=
  let gone := s.bim.winners.drop n
  let t := s.modBim fun b => { b with winners := resize b.winners n none, inForce := resize b.inForce n 0 }
  [Source.live, .player 0, .player 1, .player 2, .player 3].foldl
    (fun u src => u.markIf (gone.contains (some src)) (·.markSource src)) t

/-- RESTART clears every winner (R145 step 3). -/
def State.clearWinners (s : State) : State :=
  let t := s.modBim fun b => { b with winners := b.winners.map fun _ => none }
  [Source.live, .player 0, .player 1, .player 2, .player 3].foldl
    (fun u src => u.markIf (s.audible src != 0#24) (·.markSource src)) t

/-! ### The live session (R137 to R143) -/

/-- The fields of a LIVE_END reply (R142). -/
def liveEndFields (q : Lvq) (r : LiveEndReason) : List Octet := e8 r.code ++ e16 q.gaps ++ e16 q.overflows ++ e16 q.played

/-- The session ends (R141): its waiting LIVE_END is answered, the queue emptied, LIVE leaves the list and its
zones. That the target set of no session is sent as the empty set is a DESIGN CHOICE (log entry 54). -/
def State.endLive (s : State) (r : LiveEndReason) : State :=
  let s := s.answerOpt s.lvq.waitingEnd .ok (liveEndFields s.lvq r)
  let s := s.modLvq fun q =>
    { q with
      state := .none, priority := none, target := 0#24, queue := [], waitingEnd := none, ended := some r
      air := .silence }
  (s.deactivate .live).markLive

/-- The live session at an audio block boundary (R141). -/
def State.liveBoundary (s : State) : State :=
  let q := s.lvq
  match q.state with
  | .none => s
  | .opening => s
  | .playing =>
    match q.queue with
    | [] => (s.modLvq fun q => { q with state := .starved, starve := 1, air := .silence }).markLive
    | v :: rest =>
      s.modLvq fun q =>
        { q with
          queue := rest
          gaps := if v.gap then min (q.gaps + 1) 65535 else q.gaps
          played := satInc q.played
          air := .block v.gap v.data }
  | .starved =>
    if q.starve < 100 then s.modLvq fun q => { q with starve := q.starve + 1, air := .silence }
    else s.endLive .starved
  | .draining =>
    match q.queue with
    | [] => s.endLive .drained
    | v :: rest =>
      s.modLvq fun q =>
        { q with
          queue := rest
          gaps := if v.gap then min (q.gaps + 1) 65535 else q.gaps
          played := satInc q.played
          air := .block v.gap v.data }

/-- The live session's offer after its own handling of the boundary (R132, R137). -/
def State.liveOffer (s : State) : Offer :=
  let q := s.lvq
  let ready := q.state == .playing || q.state == .starved || q.state == .draining
  ⟨.live, ready, q.priority.getD 0, q.target, q.air⟩

/-- The lowering of a LIVE source at priority 15 when emergency ends (R131, R135). -/
def State.lowerLive (s : State) : State :=
  if s.lvq.state != .none && s.lvq.priority == some 15 then
    let s := s.modLvq fun q => { q with priority := some 14 }
    (s.modBim fun b =>
      { b with
        winners := b.winners.zipIdx.map fun x =>
          if x.1 = some .live ∧ b.inForce.getD x.2 0 = 14 then none else x.1 }).markLive
  else s

/-- The priority in force of a LIVE_START (R138 step 3). -/
def livePriority (requested : Nat) (emergency : Bool) : Nat :=
  let p := clamp 1 15 requested
  if p = 15 ∧ emergency = false then 14 else p

/-- LIVE_START (R138). -/
def handleLiveStart (tag : Octet) (body : List Octet) (s : State) : State :=
  let zones := zonesAt body 1
  if zones = 0#24 then s.answer tag .invalid []
  else if s.lvq.state != .none then s.answer tag .busy []
  else
    let p := livePriority (u8 body 0) s.anyEmergency
    let s := s.modLvq fun _ => { Lvq.initial with state := .opening, priority := some p, target := zones }
    ((s.activate .live).markLive).answer tag .ok (e8 p)

/-- Whether an accepted block carries a gap mark (R139). -/
def gapMark (q : Lvq) (seq : Octet) : Bool :=
  q.gapPending ||
    match q.lastSeq with
    | none => false
    | some n => seq != n + 1#8

/-- A VOICE_BLOCK accepted at the tail of the queue (R139), completing a prefill where it brings the queue to 3 (R140). -/
def Lvq.accept (q : Lvq) (seq : Octet) (data : List Octet) : Lvq :=
  let queue := q.queue ++ [⟨seq, data, gapMark q seq⟩]
  let q := { q with queue := queue, lastSeq := some seq, gapPending := false }
  if queue.length = 3 then
    match q.state with
    | .opening => { q with state := .playing }
    | .starved => { q with state := .playing, starve := 0 }
    | .none => q
    | .playing => q
    | .draining => q
  else q

/-- A VOICE_BLOCK body of 129 octets reaches the live queue (R139). -/
def State.takeVoice (s : State) (seq : Octet) (data : List Octet) : State :=
  match s.lvq.state with
  | .none => s
  | .draining => s
  | _ =>
    if s.lvq.queue.length < 16 then
      let before := s.lvq.state
      let s := s.modLvq fun q => q.accept seq data
      s.markIf (s.lvq.state != before) (·.markLive)
    else s.modLvq fun q => { q with overflows := satInc q.overflows, gapPending := true }

/-- LIVE_END (R142). That an immediate end of a DRAINING session answers the LIVE_END that waits before itself is a DESIGN CHOICE (log
entry 59). -/
def handleLiveEnd (tag : Octet) (body : List Octet) (s : State) : State :=
  let mode := u8 body 0
  if 1 < mode then s.answer tag .invalid []
  else if s.lvq.state == .none then s.answer tag .invalid []
  else if mode = 1 then
    let fields := liveEndFields s.lvq .immediate
    (s.endLive .immediate).answer tag .ok fields
  else if s.lvq.state == .draining then s.answer tag .busy []
  else if s.lvq.state == .starved || (s.lvq.state == .opening && s.lvq.queue.isEmpty) then
    let fields := liveEndFields s.lvq .drained
    (s.endLive .drained).answer tag .ok fields
  else (s.modLvq fun q => { q with state := .draining, waitingEnd := some tag }).markLive

/-- The fields of the live notice (R143). -/
def liveNotice (s : State) : List Octet :=
  let q := s.lvq
  e8 q.state.code ++ eOpt8 q.priority ++ eZones q.target ++ eZones (s.audible .live) ++ e8 q.queue.length ++
    eOpt16 (q.lastSeq.map (·.toNat)) ++ e8 q.starve ++ e16 q.gaps ++ e16 q.overflows ++ e16 q.played ++
    eOpt8 (q.ended.map (·.code))

end Sys2Proof.Machine
end

