-- ==== Sys2Proof/Machine/Players.lean ====
section
/-! DEFINITION. The Announcement Players (chapter 09): the walk through a playlist, items and boundaries, prefetch, stopping,
and the evacuation takeover. -/

namespace Sys2Proof.Machine

/-- The record of player `p`. -/
def State.player (s : State) (p : Nat) : Player := s.apl.players.getD p Player.initial

/-- The item of the pool at an index (R146). -/
def State.item (s : State) (i : Nat) : Item := s.apl.pool.getD i Item.default

/-- The directory entry of a slot (R160). -/
def State.dirEntry (s : State) (slot : Nat) : DirEntry := s.csc.directory.getD slot entryUnknown
where
  /-- Beyond slot 62 there is no entry: what a walk does not play. -/
  entryUnknown : DirEntry := { DirEntry.empty with state := .damaged }

/-- Whether a player is running (R148). -/
def Player.running (x : Player) : Bool := x.state != .idle

/-- The current clip slot of a player (R148). -/
def Player.clipSlot (x : Player) : Option Nat :=
  match x.progress with
  | .clip slot _ _ _ => some slot
  | .none => none
  | .pause _ => none

/-- Whether a slot is the current clip slot of some player. -/
def State.slotInPlay (s : State) (slot : Nat) : Bool :=
  s.apl.players.any fun x => x.clipSlot == some slot

/-- Whether a change of a player's record is a change of its notice (R158). -/
def Player.noticeChange (x y : Player) : Bool :=
  x.state != y.state || x.item != y.item || x.target != y.target || x.missing != y.missing ||
    x.underruns != y.underruns

/-- A player's record changes, and its mark is set where R158 asks for it. -/
def State.workPlayer (s : State) (p : Nat) (f : Player → Player) : State :=
  let x := s.player p
  (s.modApl fun a => { a with players := a.players.set p (f x) }).markIf (x.noticeChange (f x)) (·.markPlayer p)

/-- A read that is out for the player completes into nothing (R153). -/
def State.orphanRead (s : State) (p : Nat) : State :=
  s.modCsc fun c =>
    { c with
      port := c.port.map fun o => if o.owner = .player p then { o with owner := .nobody } else o }

/-! ### Ending (R155) -/

/-- The record of a player that ends with a reason. -/
def Player.finish (x : Player) (r : PlayEndReason) : Player :=
  { x with
    state := .idle, item := none, resume := none, progress := .none, target := 0#24, buffer := [], counters := []
    pendingEnd := none, ended := some r, failed := false, air := .silence }

/-- A player ends (R155): it leaves the activation list and every zone it wins, and its mark is set. -/
def State.endPlayer (s : State) (p : Nat) (r : PlayEndReason) : State :=
  (((s.orphanRead p).workPlayer p fun x => x.finish r).deactivate (.player p)).markPlayer p

/-! ### The walk (R150) -/

/-- How a walk ends: at an item that plays audio, at an end, or halted before an item. -/
inductive WalkStop where
  | enters (i : Nat)
  | ends (r : PlayEndReason)
  | halts (i : Nat)
deriving DecidableEq, Repr

/-- The outcome of a walk: where it stopped, the loop counters and the skip count it leaves. -/
structure WalkResult where
  stop : WalkStop
  counters : List LoopCounter
  skips : Nat
deriving DecidableEq, Repr

/-- The walk of R150 from an item or END; `fuel` is how many items it may still examine. -/
def walk (pool : Nat → Item) (playable : Nat → Bool) : Nat → Option Nat → List LoopCounter → Nat → WalkResult
  | _, none, cs, skips => ⟨.ends .completed, cs, skips⟩
  | 0, some i, cs, skips => ⟨.halts i, cs, skips⟩
  | fuel + 1, some i, cs, skips =>
    match (pool i).kind with
    | .pause _ => ⟨.enters i, cs, skips⟩
    | .clip slot =>
      if playable slot then ⟨.enters i, cs, skips⟩
      else walk pool playable fuel (pool i).next cs (satInc skips)
    | .loop target count =>
      match cs.find? fun c => c.item == i with
      | some c =>
        if c.left ≤ 1 then walk pool playable fuel (pool i).next (cs.filter fun d => d.item != i) skips
        else
          walk pool playable fuel (some target)
            (cs.map fun d => if d.item = i then { d with left := d.left - 1 } else d) skips
      | none =>
        if count = 0 then walk pool playable fuel (some target) cs skips
        else if count = 1 then walk pool playable fuel (pool i).next cs skips
        else if cs.length < 4 then walk pool playable fuel (some target) (cs ++ [⟨i, count - 1⟩]) skips
        else ⟨.ends .loopDepth, cs, skips⟩

/-- Whether a slot is playable by a walk (R160): READY, verified or not. -/
def State.playable (s : State) (slot : Nat) : Bool := (s.dirEntry slot).state == .ready

/-- The target zone set that an item entry derives (R152). -/
def State.entryTarget (s : State) (b : Option Binding) (held : ZoneSet) : ZoneSet :=
  match b with
  | some .all => s.allZones
  | some .regionA => s.regionZones true
  | some .regionB => s.regionZones false
  | some (.explicit _) => held
  | some .evacuationA => held
  | some .evacuationB => held
  | none => held

/-- The item progress at an entry (R151): a clip's length comes from the directory, a pause's from the item. -/
def State.entryProgress (s : State) (i : Nat) : Progress :=
  match (s.item i).kind with
  | .clip slot => .clip slot (s.dirEntry slot).length 0 0
  | .pause n => .pause n
  | .loop _ _ => .none

/-- A player's record as it enters item `i` (R151, R153): a STARTING player that enters a PAUSE enters PLAYING. -/
def State.entered (s : State) (x : Player) (i : Nat) : Player :=
  let g := s.entryProgress i
  let starts : Bool :=
    match g with
    | .pause _ => x.state == .starting
    | .clip _ _ _ _ => false
    | .none => false
  { x with
    state := if starts then .playing else x.state
    item := some i, resume := none, progress := g, target := s.entryTarget x.binding x.target, buffer := [], failed := false }

/-- A player walks from an item or END (R150, R151). `pends`: the walk starts at a boundary, so an end it finds is pending. -/
def State.walkFrom (s : State) (p : Nat) (start : Option Nat) (pends : Bool) : State :=
  let s := s.orphanRead p
  let x := s.player p
  let r := walk s.item s.playable 16 start x.counters x.skips
  match r.stop with
  | .enters i => s.workPlayer p fun x => { s.entered x i with counters := r.counters, skips := r.skips }
  | .halts i =>
    s.workPlayer p fun x =>
      { x with
        counters := r.counters, skips := r.skips, item := none, resume := some i, progress := .none, buffer := []
        failed := false }
  | .ends e =>
    if pends then
      s.workPlayer p fun x => { x with counters := r.counters, skips := r.skips, resume := none, pendingEnd := some e }
    else (s.workPlayer p fun x => { x with counters := r.counters, skips := r.skips }).endPlayer p e

/-! ### The boundary (R151 to R154) -/

/-- The target of an evacuation player at a boundary (R152): the EMERGENCY zones of its region. -/
def State.boundaryTarget (s : State) (x : Player) : ZoneSet :=
  match x.binding with
  | some .evacuationA => s.emergencyZones &&& s.regionZones true
  | some .evacuationB => s.emergencyZones &&& s.regionZones false
  | some (.explicit _) => x.target
  | some .regionA => x.target
  | some .regionB => x.target
  | some .all => x.target
  | none => x.target

/-- The next field of a player's current item. -/
def State.nextOf (s : State) (x : Player) : Option Nat :=
  match x.item with
  | none => none
  | some i => (s.item i).next

/-- The item's last block has been offered (R151): a PLAYING player walks on, a STOPPING one records its end. -/
def State.afterLast (s : State) (p : Nat) : State :=
  let x := s.player p
  if x.state = .stopping then s.workPlayer p fun x => { x with pendingEnd := some .stopped }
  else s.walkFrom p (s.nextOf x) true

/-- A PLAYING or STOPPING player with an item in progress offers one block (R151, R153). -/
def State.offerBlock (s : State) (p : Nat) : State :=
  let x := s.player p
  match x.progress with
  | .none => s.workPlayer p fun x => { x with air := .silence }
  | .pause n =>
    let s := s.workPlayer p fun x => { x with progress := .pause (n - 1), air := .silence }
    if n ≤ 1 then s.afterLast p else s
  | .clip slot length offered fetched =>
    match x.buffer with
    | [] =>
      (s.workPlayer p fun x => { x with underruns := satInc x.underruns, air := .silence }).markPlayer p
    | d :: rest =>
      let s := s.workPlayer p fun x =>
        { x with buffer := rest, progress := .clip slot length (offered + 1) fetched, air := .block false d }
      if length ≤ offered + 1 then s.afterLast p else s

/-- A failed item at a boundary (R154). -/
def State.cutItem (s : State) (p : Nat) : State :=
  let x := s.player p
  let s := s.workPlayer p fun x => { x with buffer := [], air := .silence }
  if x.state = .stopping then s.endPlayer p .stopped else s.walkFrom p (s.nextOf x) true

/-- What a running player does at an audio block boundary (R150 to R155): a pending end takes effect; a halted walk resumes; a
failed item is cut; a STARTING player waits; otherwise a block is offered. That the end which a resumed walk finds is pending, also
where the walk began on a PLAY or a takeover, is a DESIGN CHOICE (log entry 60). -/
def State.playerBoundary (s : State) (p : Nat) : State :=
  let x := s.player p
  if x.running then
    let s := s.workPlayer p fun x => { x with target := s.boundaryTarget x }
    match x.pendingEnd with
    | some r => s.endPlayer p r
    | none =>
      match x.resume with
      | some i => (s.workPlayer p fun x => { x with resume := none, air := .silence }).walkFrom p (some i) true
      | none =>
        if x.failed then s.cutItem p
        else if x.state = .starting then s
        else s.offerBlock p
  else s

/-- Whether a player that is in a state `x` at the boundary offers audio for the block that starts there. -/
def Player.ready (x : Player) : Bool := x.state == .playing || x.state == .stopping

/-- The offer of player `p` (R132): its readiness, priority and target as the boundary found them (an evacuation player's target
as the boundary derives it), its audio as the boundary left it. -/
def State.playerOffer (before after : State) (p : Nat) : Offer :=
  let x := before.player p
  ⟨.player p, x.ready, x.priority.getD 0, before.boundaryTarget x, (after.player p).air⟩

/-- The players' boundaries. -/
def State.playerBoundaries (s : State) : State := s.each (List.range 4) State.playerBoundary

/-- The offers of the sources that are active at the boundary and have not ended there, in the order of the activation list;
`before` is the state before the sources handled the boundary. -/
def State.offers (before after : State) : List Offer :=
  after.bim.activation.map fun src =>
    match src with
    | .live => after.liveOffer
    | .player p => before.playerOffer after p

/-! ### Prefetch (R153) -/

/-- The block that a player's outstanding read asks for: `none` where it has no read to make. -/
def Player.wanted (x : Player) : Option (Nat × Nat) :=
  match x.progress with
  | .clip slot length _ fetched =>
    if x.running && !x.failed && x.pendingEnd.isNone && decide (x.buffer.length < 8) && decide (fetched < length) then
      some (slot, fetched + 1)
    else none
  | .none => none
  | .pause _ => none

/-- Whether a player lets an erase start (R164): its buffer holds 8 blocks or all that is not yet offered, or its current item
is not a CLIP. -/
def Player.satisfied (x : Player) : Bool :=
  match x.progress with
  | .clip _ length offered _ => decide (8 ≤ x.buffer.length) || decide (length ≤ offered + x.buffer.length)
  | .none => true
  | .pause _ => true

/-- A block read arrives at a player (R153): a STARTING player with its reserve enters PLAYING. A read that completes after the
item has failed brings nothing. -/
def Player.takeBlock (x : Player) (d : List Octet) : Player :=
  match x.progress with
  | .clip slot length offered fetched =>
    if x.failed then x
    else
      let buffer := x.buffer ++ [d]
      { x with
        buffer := buffer
        progress := .clip slot length offered (fetched + 1)
        state := if x.state = .starting ∧ (4 ≤ buffer.length ∨ length ≤ buffer.length) then .playing else x.state }
  | .none => x
  | .pause _ => x

/-- A player's current item is marked as failed (R154): a slot reported DAMAGED or a read that failed. -/
def State.failItem (s : State) (p : Nat) : State := s.workPlayer p fun x => { x with failed := true }

/-- The report that a slot has become DAMAGED reaches the players whose current clip slot it is (R154). -/
def State.reportDamaged (s : State) (slot : Nat) : State :=
  s.each ((List.range 4).filter fun p => (s.player p).clipSlot == some slot) State.failItem

/-! ### Starting (R149) -/

/-- The start of a run (R149 step 5). -/
def State.startPlayer (s : State) (p prio : Nat) (b : Binding) (head : Nat) : State :=
  let target :=
    match b with
    | .explicit z => z
    | .regionA => 0#24
    | .regionB => 0#24
    | .all => 0#24
    | .evacuationA => 0#24
    | .evacuationB => 0#24
  ((s.workPlayer p fun _ =>
    { Player.initial with state := .starting, priority := some prio, binding := some b, target := target }).activate
      (.player p)).walkFrom p (some head) false

/-- The binding of a PLAY (R149, R183); `none` for a code that PLAY refuses. -/
def playBinding (code : Nat) (z : ZoneSet) : Option Binding :=
  if code = 0 then (if z = 0#24 then none else some (.explicit z))
  else if code = 1 then some .regionA
  else if code = 2 then some .regionB
  else if code = 3 then some .all
  else none

/-- The priority in force of a PLAY (R149 step 4). -/
def playPriority (n : Nat) : Nat := min (clamp 1 15 n) 14

/-- PLAY (R149). -/
def handlePlay (tag : Octet) (body : List Octet) (s : State) : State :=
  let p := u8 body 0
  match playBinding (u8 body 3) (zonesAt body 4) with
  | none => s.answer tag .invalid []
  | some b =>
    if 3 < p ∨ 95 < u8 body 1 then s.answer tag .invalid []
    else if p ≤ 1 ∧ s.anyEmergency then s.answer tag .emergency []
    else if (s.player p).running then s.answer tag .busy []
    else
      let t := s.startPlayer p (playPriority (u8 body 2)) b (u8 body 1)
      let x := t.player p
      t.answer tag .ok
        (e8 (playPriority (u8 body 2)) ++ e8 x.state.code ++ eOpt8 x.item ++ eOpt8 (x.ended.map (·.code)))

/-! ### STOP (R155) -/

/-- STOP at item end (R155): a PLAYING player without a pending end enters STOPPING; in a walk halt its end is pending. -/
def Player.stopAtEnd (x : Player) : Player :=
  if x.pendingEnd.isSome then x
  else { x with state := .stopping, pendingEnd := if x.resume.isSome then some .stopped else none }

/-- The effect of a STOP that is not refused (R155). -/
def State.stopPlayer (s : State) (p : Nat) (immediate : Bool) : State :=
  match (s.player p).state with
  | .idle => s
  | .starting => s.endPlayer p .stopped
  | .playing => if immediate then s.endPlayer p .stopped else s.workPlayer p Player.stopAtEnd
  | .stopping => if immediate then s.endPlayer p .stopped else s

/-- STOP (R155). -/
def handleStop (tag : Octet) (body : List Octet) (s : State) : State :=
  let p := u8 body 0
  if 3 < p ∨ 1 < u8 body 1 then s.answer tag .invalid []
  else if p ≤ 1 ∧ s.anyEmergency then s.answer tag .emergency []
  else
    let t := s.stopPlayer p (u8 body 1 == 1)
    let x := t.player p
    t.answer tag .ok (e8 x.state.code ++ eOpt8 (x.ended.map (·.code)))

/-! ### The evacuation takeover (R156) and RESTART (R157) -/

/-- The missing-evacuation flag of a player takes a value; a change sets the player's mark (R158). -/
def State.setMissing (s : State) (p : Nat) (v : Bool) : State := s.workPlayer p fun x => { x with missing := v }

/-- Steps 2 and 3 of the takeover for player 0 (`regionA`) or player 1. -/
def State.evacuate (s : State) (p : Nat) : State :=
  let head := if p = 0 then s.zmg.plan.headA else s.zmg.plan.headB
  match head with
  | none => (s.setMissing p true).markPlayer p
  | some i => s.startPlayer p 15 (if p = 0 then .evacuationA else .evacuationB) i

/-- The evacuation takeover of one player (R156). -/
def State.takeOver (s : State) (p : Nat) : State :=
  (if (s.player p).running then s.endPlayer p .preEmpted else s).evacuate p

/-- Emergency begins at the Announcement Players (R156). -/
def State.evacuationStart (s : State) : State := s.each [0, 1] State.takeOver

/-- Emergency ends at the Announcement Players (R156). -/
def State.evacuationEnd (s : State) : State :=
  s.each [0, 1] fun s p =>
    (if (s.player p).running then s.endPlayer p .stopped else s).setMissing p false

/-- The takeover of one player at RESTART (R157): a head of NONE leaves it IDLE with the end reason RESTARTED. -/
def State.evacuateAgain (s : State) (p : Nat) : State :=
  (s.workPlayer p fun x => { x with ended := some .restarted }).evacuate p

/-- RESTART at the Announcement Players (R157): every run ends, the flags are cleared, and in an emergency the takeover runs
again from its step 2. -/
def State.restartPlayers (s : State) : State :=
  let s := s.each (List.range 4) fun s p =>
    (if (s.player p).running then s.endPlayer p .restarted else s).setMissing p false
  if s.anyEmergency then s.each [0, 1] State.evacuateAgain else s

/-! ### SET_ITEMS (R147) -/

/-- The item that 6 octets of a SET_ITEMS give (R147, R183): `none` where R147 step 2 refuses it. -/
def itemAt (b : List Octet) (k : Nat) : Option Item :=
  let at4 := k + 2
  match itemRef (u8 b (k + 1)) with
  | none => none
  | some next =>
    if u8 b k = 0 then (if u8 b at4 ≤ 62 then some ⟨.clip (u8 b at4), next⟩ else none)
    else if u8 b k = 1 then some ⟨.pause (clamp 1 1500 (u16 b at4)), next⟩
    else if u8 b k = 2 then (if u8 b at4 ≤ 95 then some ⟨.loop (u8 b at4) (u8 b (at4 + 1)), next⟩ else none)
    else none

/-- The items of a SET_ITEMS; `none` where one of them is refused. -/
def itemsOf (b : List Octet) (count : Nat) : Option (List Item) :=
  (List.range count).mapM fun j => itemAt b (2 + 6 * j)

/-- The pool with a list of items written from an index upward. -/
def writeItems (pool : List Item) (start : Nat) (items : List Item) : List Item :=
  pool.zipIdx.map fun x => if start ≤ x.2 then items.getD (x.2 - start) x.1 else x.1

/-- SET_ITEMS (R147). -/
def handleSetItems (tag : Octet) (body : List Octet) (s : State) : State :=
  let start := u8 body 0
  let count := u8 body 1
  if 95 < start ∨ 32 < count ∨ 96 < start + count ∨ count = 0 then s.answer tag .invalid []
  else
    match itemsOf body count with
    | none => s.answer tag .invalid []
    | some items =>
      let written := fun i => decide (start ≤ i) && decide (i < start + count)
      if s.apl.players.any fun x => x.running && (x.item.map written).getD false then s.answer tag .busy []
      else
        (s.modApl fun a =>
          ⟨a.players.map fun x => { x with counters := x.counters.filter fun c => !written c.item },
            writeItems a.pool start items⟩).answer tag .ok []

/-! ### What the host sees (R158) -/

/-- A player's item progress in four octets: a clip's length and blocks offered, a pause's blocks remaining, or none. -/
def eProgress (g : Progress) : List Octet :=
  match g with
  | .none => e16 0xFFFF ++ e16 0xFFFF
  | .clip _ length offered _ => e16 length ++ e16 offered
  | .pause n => e16 n ++ e16 0xFFFF

/-- An item with all its fields (R146): its kind, its next, and what its kind has; R183 pads an item to 6 octets in SET_ITEMS
alone. -/
def eItem (x : Item) : List Octet :=
  match x.kind with
  | .clip slot => e8 0 ++ eOpt8 x.next ++ e8 slot
  | .pause n => e8 1 ++ eOpt8 x.next ++ e16 n
  | .loop target count => e8 2 ++ eOpt8 x.next ++ e8 target ++ e8 count

/-- The fields of a player's notice (R158). -/
def playerNotice (s : State) (p : Nat) : List Octet :=
  let x := s.player p
  e8 p ++ e8 x.state.code ++ eOpt8 x.priority ++ eOpt8 (x.binding.map (·.code)) ++ eOpt8 x.item ++ eProgress x.progress ++
    e8 x.buffer.length ++ eList x.counters (fun c => e8 c.item ++ e8 c.left) ++ eZones x.target ++
    eZones (s.audible (.player p)) ++ e16 x.skips ++ e16 x.underruns ++ eOpt8 (x.ended.map (·.code)) ++ eFlag x.missing

/-- GET_PLAYER (R158). -/
def handleGetPlayer (tag : Octet) (body : List Octet) (s : State) : State :=
  let p := u8 body 0
  let start := u8 body 1
  let count := u8 body 2
  if 3 < p ∨ 95 < start ∨ 32 < count ∨ 96 < start + count then s.answer tag .invalid []
  else
    s.answer tag .ok
      (playerNotice s p ++ eList ((List.range count).map fun j => s.item (start + j)) eItem)

end Sys2Proof.Machine
end

