-- ==== Sys2Proof/Machine/ClipStore.lean ====
section
/-! DEFINITION. The Clip Store Controller (chapter 10): the directory, protection, the flash port arbiter, background verify,
uploads, erases and the settings writes. The start-up read and the failure table stand in Startup.lean. -/

namespace Sys2Proof.Machine

/-! ### The directory (R160) -/

/-- A directory entry changes: the notice mark at a change of its state or verified flag (R172), the verify in hand dropped where
its slot's state changes (R162), and the report to the players of a slot that becomes DAMAGED (R154). -/
def State.setDir (s : State) (slot : Nat) (f : DirEntry → DirEntry) : State :=
  let old := s.dirEntry slot
  let new := f old
  let s := s.modCsc fun c =>
    let drop := old.state != new.state && (c.verify.map (·.slot) == some slot)
    { c with
      directory := c.directory.set slot new
      verify := if drop then none else c.verify
      cursor := if drop then (slot + 1) % 63 else c.cursor }
  let s := s.markIf (old.state != new.state || old.verified != new.verified) State.markDirectory
  if old.state != .damaged && new.state == .damaged then s.reportDamaged slot else s

/-- A slot becomes DAMAGED. That this clears its verified flag is DEDUCED (log entry 34). -/
def State.damage (s : State) (slot : Nat) : State := s.setDir slot fun e => { e with state := .damaged, verified := false }

/-! ### Protection (R163) -/

/-- How many slots a protection level protects (R163). -/
def protectedCount (level : Nat) : Nat := [0, 1, 2, 4, 8, 16, 32, 63].getD level 63

/-- Whether a slot is protected. -/
def State.isProtected (s : State) (slot : Nat) : Bool := decide (slot < protectedCount s.csc.level)

/-! ### The settings snapshot (R171) -/

/-- The configuration of every block as it stands. -/
def State.snapshot (s : State) : Settings where
  configured := s.lpc.rus.map (·.configured)
  preferred := s.lpc.rus.map (·.preferred)
  guardDu := s.sau.guardDu
  thresholds := s.zmg.zones.map (·.threshold)
  split := s.zmg.stored
  bank0 := s.pbe.bank0
  bank1 := s.pbe.bank1
  power := s.pbe.cfgs
  channels := s.channels.map (·.cfg)
  bands := s.bands.map (·.cfg)
  pool := s.apl.pool
  plan := s.zmg.plan
  level := s.csc.level

/-- The copy-valid flag takes a value (R171, R172). -/
def State.setCopyValid (s : State) (v : Bool) : State :=
  (s.modCsc fun c => { c with copyValid := v }).markIf (s.csc.copyValid != v) State.markDirectory

/-- A settings write starts (R171): the snapshot is taken, the copy-valid flag cleared, and the job joins the write work. -/
def State.startSettings (s : State) (level : Option Nat) (tag : Octet) : State :=
  let copy := { s.snapshot with level := level.getD s.csc.level }
  (s.setCopyValid false).modCsc fun c =>
    { c with
      settings := some ⟨copy, false, Config.settingsPagesLessOne + 1, level, some tag⟩
      order := c.order ++ [.settings] }

/-! ### Jobs and their operations (R164, R166 to R171) -/

/-- The operation of a job that has ended goes on by itself, owned by nobody. -/
def Csc.disown (c : Csc) (o : FlashOwner) : Csc :=
  { c with port := c.port.map fun x => if x.owner = o then { x with owner := .nobody } else x }

/-- The next page of audio blocks that may be programmed (R167): block 1 alone; blocks 2k and 2k + 1 together; the clip's last
block with what stands beside it in its page. -/
def Upload.nextPage (u : Upload) : Option (List IndexedBlock) :=
  match u.buffer with
  | [] => none
  | b :: rest =>
    if b.index = 1 then some [b]
    else
      match rest with
      | c :: _ => if b.index % 2 = 0 then some [b, c] else some [b]
      | [] => if b.index = u.length ∨ b.index % 2 = 1 then some [b] else none

/-- The next operation of the upload, where one is ready (R166 to R168). A SEQUENCE_FAILED upload programs nothing further. -/
def Upload.stateOp (u : Upload) : Option FlashOp :=
  match u.state with
  | .faulted => none
  | .sequenceFailed => if u.units < 4 then some (.eraseUnit u.slot u.units) else none
  | .preparing =>
    if u.units < 4 then some (.eraseUnit u.slot u.units)
    else if u.begun then (u.nextPage).map (.programBlocks u.slot)
    else some (.programBegun u.slot u.length u.label)
  | .receiving =>
    if u.units < 4 then some (.eraseUnit u.slot u.units)
    else if u.begun then (u.nextPage).map (.programBlocks u.slot)
    else some (.programBegun u.slot u.length u.label)
  | .finishing =>
    if u.units < 4 then some (.eraseUnit u.slot u.units)
    else if u.begun then
      match u.nextPage with
      | some p => some (.programBlocks u.slot p)
      | none => some (.programComplete u.slot (crc32Result u.crc))
    else some (.programBegun u.slot u.length u.label)

/-- The same; an upload whose UPLOAD_END has failed has its remaining work dropped (R168). -/
def Upload.nextOp (u : Upload) : Option FlashOp := if u.failed.isSome then none else u.stateOp

/-- The next operation of a job of the write work, with its owner. -/
def Csc.nextOp (c : Csc) (j : JobKind) : Option (FlashOp × FlashOwner) :=
  match j with
  | .upload => (c.upload.bind Upload.nextOp).map fun op => (op, .upload)
  | .eraseSlot => c.erase.map fun e => (.eraseUnit e.slot e.units, .eraseSlot)
  | .settings => c.settings.map fun x => (if x.erased then .programSettings else .eraseSettings, .settings)

/-- Whether an operation is an erase. -/
def FlashOp.isErase (op : FlashOp) : Bool :=
  match op with
  | .eraseUnit _ _ => true
  | .eraseSettings => true
  | .readSettings => false
  | .readHeader _ => false
  | .readBlock _ _ => false
  | .programBegun _ _ _ => false
  | .programBlocks _ _ => false
  | .programComplete _ _ => false
  | .programSettings => false

/-! ### The arbiter (R164) -/

/-- The player read that is served first: the fewest blocks buffered, among equals the lowest index. -/
def State.playerRead (s : State) : Option (FlashOp × FlashOwner) :=
  let asking := (List.range 4).filter fun p => (s.player p).wanted.isSome
  match pickBest (fun j i => (s.player j).buffer.length < (s.player i).buffer.length) asking with
  | none => none
  | some p => (s.player p).wanted.map fun x => (.readBlock x.1 x.2, .player p)

/-- Whether an erase may start (R164): every running player is satisfied. -/
def State.eraseMayStart (s : State) : Bool := s.apl.players.all fun x => !x.running || x.satisfied

/-- The first operation of the write work that may start, the jobs taken oldest first. -/
def State.writeWork (s : State) : Option (FlashOp × FlashOwner) :=
  s.csc.order.findSome? fun j =>
    match s.csc.nextOp j with
    | none => none
    | some x => if x.1.isErase && !s.eraseMayStart then none else some x

/-- The next slot that verify takes (R162): READY with its flag clear, in slot order from the cursor on and around. -/
def Csc.verifySlot (c : Csc) : Option Nat :=
  ((List.range 63).map fun k => (c.cursor + k) % 63).find? fun i =>
    let e := c.directory.getD i DirEntry.empty
    e.state == .ready && !e.verified

/-- Verify takes its next slot in hand, where it has none. -/
def Csc.takeVerify (c : Csc) : Csc :=
  match c.verify with
  | some _ => c
  | none =>
    match c.verifySlot with
    | none => c
    | some i => { c with verify := some ⟨i, 1, crc32Start⟩, cursor := i }

/-- The port takes an operation after boundary `now`. -/
def State.startOp (s : State) (x : FlashOp × FlashOwner) : State :=
  s.modCsc fun c => { c with port := some ⟨x.1, x.2, s.now⟩ }

/-- The arbiter (R164), while the part is RUNNING and the port is free. -/
def State.arbitrate (s : State) : State :=
  if s.clp.part = .running ∧ s.csc.port = none then
    match s.playerRead with
    | some x => s.startOp x
    | none =>
      match s.writeWork with
      | some x => s.startOp x
      | none =>
        let s := s.modCsc Csc.takeVerify
        match s.csc.verify with
        | none => s
        | some v => s.startOp (.readBlock v.slot v.next, .verify)
  else s

/-- The operation on the port has ended; the flash keeps what it did, and the port is free. -/
def State.freePort (s : State) (o : PortOp) : State :=
  (s.modFlash fun f => f.finish o.op).modCsc fun c => { c with port := none }

/-! ### Background verify (R162) -/

/-- The verify in hand is given up; the next slot is taken after it. -/
def Csc.abandonVerify (c : Csc) : Csc :=
  match c.verify with
  | none => c
  | some v => { c with verify := none, cursor := (v.slot + 1) % 63 }

/-- A verify read has arrived (R162). -/
def State.verifyArrives (s : State) (data : List Octet) : State :=
  match s.csc.verify with
  | none => s
  | some v =>
    let e := s.dirEntry v.slot
    let crc := crc32More v.crc data
    if v.next < e.length then s.modCsc fun c => { c with verify := some ⟨v.slot, v.next + 1, crc⟩ }
    else
      let s := s.modCsc Csc.abandonVerify
      if crc32Result crc = e.crc then s.setDir v.slot fun e => { e with verified := true }
      else s.damage v.slot

/-! ### Uploads (R166 to R169) -/

/-- The upload record changes; a change of its state sets the directory mark (R172). -/
def State.modUpload (s : State) (f : Upload → Upload) : State :=
  match s.csc.upload with
  | none => s
  | some u =>
    (s.modCsc fun c => { c with upload := some (f u) }).markIf ((f u).state != u.state) State.markDirectory

/-- The upload ends (R172): its record and its job go, and an operation of it that runs goes on by itself. -/
def State.endUpload (s : State) : State :=
  (s.modCsc fun c =>
    { c.disown .upload with upload := none, order := c.order.filter (· != .upload) }).markDirectory

/-- The CLIP_DATA requests that wait are answered with a status, in the order of their arrival. -/
def State.answerWaiting (s : State) (ws : List WaitingData) (st : Status) : State :=
  ws.foldl (fun s w => s.answer w.tag st []) s

/-- A block joins the upload buffer and the CRC (R167). -/
def Upload.take (u : Upload) (b : IndexedBlock) : Upload :=
  { u with buffer := u.buffer ++ [b], crc := crc32More u.crc b.data, received := u.received + 1 }

/-- The waiting CLIP_DATA that find a place are taken, in arrival order, at most `fuel` of them. -/
def State.takeWaiting (s : State) : Nat → State
  | 0 => s
  | fuel + 1 =>
    match s.csc.upload with
    | none => s
    | some u =>
      match u.waiting with
      | [] => s
      | w :: rest =>
        if u.buffer.length < 8 then
          ((s.modUpload fun u => { u.take w.block with waiting := rest }).answer w.tag .ok []).takeWaiting fuel
        else s

/-- An upload given up with its waiting replies ABORTED (R169), in the order of log entry 62. That the header stays as it is, or as
the operation that runs makes it, is DEDUCED (log entry 56). -/
def State.abortUpload (s : State) : State :=
  match s.csc.upload with
  | none => s
  | some u =>
    let s := if (s.dirEntry u.slot).state = .damaged then s else s.damage u.slot
    let s := s.answerOpt u.beginTag .aborted []
    let s := s.answerWaiting u.waiting .aborted
    (s.answerOpt u.endTag .aborted []).endUpload

/-- A failed operation of the upload (R165): the slot DAMAGED, the write work dropped, waiting replies FLASH_FAULT. An
UPLOAD_END that waits is answered last, and with its reply the upload ends (R168). The order of the others is that of log entry
62. -/
def State.faultUpload (s : State) : State :=
  match s.csc.upload with
  | none => s
  | some u =>
    let s := s.damage u.slot
    let s := s.answerOpt u.beginTag .flashFault []
    let s := s.answerWaiting u.waiting .flashFault
    let s := (s.modUpload fun u => { u with state := .faulted, beginTag := none, waiting := [] }).modCsc fun c =>
      { c with order := c.order.filter (· != .upload) }
    match u.endTag with
    | none => s
    | some t => (s.answer t .flashFault []).endUpload

/-- The upload ends with an UPLOAD_END that did not lead to write completion (R168): the UPLOAD_BEGIN that waits is ABORTED, each
CLIP_DATA that waits takes the status, and the reply is sent. That the slot of a FAULTED upload becomes DAMAGED again where an
ERASE_SLOT has made it EMPTY is a DESIGN CHOICE (log entry 55), and so is that UPLOAD_BEGIN is answered before the CLIP_DATA (log
entry 62). -/
def State.closeUpload (s : State) (u : Upload) (tag : Octet) (st : Status) : State :=
  let s := if (s.dirEntry u.slot).state = .damaged then s else s.damage u.slot
  let s := s.answerOpt u.beginTag .aborted []
  let s := s.answerWaiting u.waiting st
  (s.answer tag st []).endUpload

/-- The work that follows an operation of the upload: that of the upload's own state, or, where its UPLOAD_END has failed, its
end (R168). -/
def State.uploadOpDone (s : State) (work : State → State) : State :=
  match s.csc.upload with
  | none => s
  | some u =>
    match u.failed, u.endTag with
    | some st, some t => s.closeUpload u t st
    | _, _ => work s

/-- A program of the upload has completed (R166 to R168). -/
def State.uploadProgrammed (s : State) (op : FlashOp) : State :=
  match s.csc.upload with
  | none => s
  | some u =>
    match op with
    | .programBegun _ _ _ =>
      (s.modUpload fun u =>
        { u with begun := true, beginTag := none, state := if u.state = .preparing then .receiving else u.state }).answerOpt
        u.beginTag .ok []
    | .programBlocks _ bs =>
      (s.modUpload fun u =>
        { u with buffer := u.buffer.filter fun b => !(bs.any fun x => x.index == b.index) }).takeWaiting 8
    | .programComplete _ crc =>
      let s := s.setDir u.slot fun _ => ⟨.ready, true, u.length, u.label, crc⟩
      s.endUpload.answerOpt u.endTag .ok []
    | .readSettings => s
    | .readHeader _ => s
    | .readBlock _ _ => s
    | .eraseUnit _ _ => s
    | .eraseSettings => s
    | .programSettings => s

/-- UPLOAD_BEGIN (R166). That the entry of a WRITING slot keeps its length, label and CRC, and that its verified flag is clear, is
DEDUCED (log entry 34). -/
def handleUploadBegin (tag : Octet) (body : List Octet) (s : State) : State :=
  let slot := u8 body 0
  let length := u16 body 1
  if 62 < slot ∨ length < 1 ∨ 2047 < length then s.answer tag .invalid []
  else if s.anyEmergency then s.answer tag .emergency []
  else if s.isProtected slot then s.answer tag .protectedSlot []
  else if s.csc.upload.isSome || (s.csc.settings.bind (·.level)).isSome || (s.csc.erase.map (·.slot) == some slot) ||
      s.slotInPlay slot then s.answer tag .busy []
  else
    ((s.setDir slot fun e => { e with state := .writing, verified := false }).modCsc fun c =>
      { c with
        upload := some ⟨slot, length, body.drop 3, .preparing, 0, crc32Start, [], 0, false, some tag, [], none, none⟩
        order := c.order ++ [.upload] }).markDirectory

/-- A CLIP_DATA that a PREPARING or RECEIVING upload meets (R167). That one out of sequence is answered after those that wait is a
DESIGN CHOICE (log entry 61). -/
def State.clipData (s : State) (u : Upload) (tag : Octet) (b : IndexedBlock) : State :=
  if b.index ≠ u.received + u.waiting.length + 1 ∨ u.length < b.index then
    let s := s.answerWaiting u.waiting .sequence
    (s.modUpload fun u => { u with state := .sequenceFailed, waiting := [] }).answer tag .sequence []
  else if u.buffer.length < 8 ∧ u.waiting = [] then (s.modUpload fun u => u.take b).answer tag .ok []
  else s.modUpload fun u => { u with waiting := u.waiting ++ [⟨tag, b⟩] }

/-- CLIP_DATA (R167). -/
def handleClipData (tag : Octet) (body : List Octet) (s : State) : State :=
  if s.anyEmergency then s.answer tag .emergency []
  else
    match s.csc.upload with
    | none => s.answer tag .invalid []
    | some u =>
      match u.state with
      | .sequenceFailed => s.answer tag .sequence []
      | .faulted => s.answer tag .flashFault []
      | .finishing => s.answer tag .busy []
      | .preparing => s.clipData u tag ⟨u16 body 0, body.drop 2⟩
      | .receiving => s.clipData u tag ⟨u16 body 0, body.drop 2⟩

/-- What UPLOAD_END decides (R168); `ok` is write completion. -/
def Upload.outcome (u : Upload) (crc : BitVec 32) : Status :=
  if u.state = .faulted then .flashFault
  else if u.state = .sequenceFailed then .sequence
  else if u.received < u.length then .short
  else if crc32Result u.crc ≠ crc then .crcMismatch
  else .ok

/-- Whether an operation of the upload holds the port. -/
def Csc.uploadRuns (c : Csc) : Bool := c.port.any fun o => o.owner == .upload

/-- An UPLOAD_END whose outcome is `st` and not write completion (R168): the remaining work is dropped, and the upload ends with the
reply: at once, or, of a PREPARING upload whose operation runs, once that operation has finished. The slot leaves WRITING, for
DAMAGED, as the upload ends (R166). What waits and what does not is DEDUCED (log entry 53). -/
def State.failUpload (s : State) (u : Upload) (tag : Octet) (st : Status) : State :=
  if u.state = .preparing ∧ s.csc.uploadRuns = true then
    (s.modUpload fun u => { u with state := .finishing, endTag := some tag, failed := some st }).modCsc fun c =>
      { c with order := c.order.filter (· != .upload) }
  else s.closeUpload u tag st

/-- UPLOAD_END (R168). -/
def handleUploadEnd (tag : Octet) (body : List Octet) (s : State) : State :=
  if s.anyEmergency then s.answer tag .emergency []
  else
    match s.csc.upload with
    | none => s.answer tag .invalid []
    | some u =>
      if u.state = .finishing then s.answer tag .busy []
      else
        let st := u.outcome (w32 body 0)
        if st = .ok then s.modUpload fun u => { u with state := .finishing, endTag := some tag }
        else s.failUpload u tag st

/-- UPLOAD_ABORT (R169). -/
def handleUploadAbort (tag : Octet) (s : State) : State :=
  if s.anyEmergency then s.answer tag .emergency []
  else if s.csc.upload.isSome then s.abortUpload.answer tag .ok []
  else s.answer tag .invalid []

/-! ### ERASE_SLOT (R170) -/

/-- ERASE_SLOT (R170). -/
def handleEraseSlot (tag : Octet) (body : List Octet) (s : State) : State :=
  let slot := u8 body 0
  if 62 < slot then s.answer tag .invalid []
  else if s.anyEmergency then s.answer tag .emergency []
  else if s.isProtected slot then s.answer tag .protectedSlot []
  else if (s.dirEntry slot).state == .writing || s.slotInPlay slot || s.csc.erase.isSome ||
      (s.csc.settings.bind (·.level)).isSome then s.answer tag .busy []
  else if (s.dirEntry slot).state = .empty then s.answer tag .ok []
  else
    (s.damage slot).modCsc fun c => { c with erase := some ⟨slot, 0, some tag⟩, order := c.order ++ [.eraseSlot] }

/-- An erase of the ERASE_SLOT job has completed (R170): after the fourth the slot is EMPTY and the reply carries OK. -/
def State.slotErased (s : State) : State :=
  match s.csc.erase with
  | none => s
  | some e =>
    if e.units < 3 then s.modCsc fun c => { c with erase := some { e with units := e.units + 1 } }
    else
      ((s.setDir e.slot fun _ => DirEntry.empty).modCsc fun c =>
        { c with erase := none, order := c.order.filter (· != .eraseSlot) }).answerOpt e.tag .ok []

/-! ### Settings writes (R163, R171) -/

/-- A page of the settings write has been programmed: with the last the copy is valid, the new level is in force, and the reply
carries OK. -/
def State.settingsProgrammed (s : State) : State :=
  match s.csc.settings with
  | none => s
  | some x =>
    if 1 < x.pagesLeft then s.modCsc fun c => { c with settings := some { x with pagesLeft := x.pagesLeft - 1 } }
    else
      let level := x.level.getD s.csc.level
      let s := s.markIf (level != s.csc.level) State.markDirectory
      let s := s.modFlash fun f => { f with area := .copy x.copy }
      let s := s.modCsc fun c =>
        { c with settings := none, order := c.order.filter (· != .settings), level := level }
      (s.setCopyValid true).answerOpt x.tag .ok []

/-- SAVE_SETTINGS (R171). -/
def handleSaveSettings (tag : Octet) (s : State) : State :=
  if s.csc.upload.isSome || s.csc.settings.isSome then s.answer tag .busy [] else s.startSettings none tag

/-- SET_PROTECTION (R163). -/
def handleSetProtection (tag : Octet) (body : List Octet) (s : State) : State :=
  let level := u8 body 0
  if 7 < level then s.answer tag .invalid []
  else if !s.pins.maint then s.answer tag .locked []
  else if s.csc.upload.isSome || s.csc.erase.isSome || s.csc.settings.isSome then s.answer tag .busy []
  else if level = s.csc.level then s.answer tag .ok []
  else s.startSettings (some level) tag

/-! ### Completions of the port's operation (R164) -/

/-- A completed erase, for its owner. -/
def State.eraseDone (s : State) (o : FlashOwner) : State :=
  match o with
  | .upload => s.uploadOpDone fun s => s.modUpload fun u => { u with units := u.units + 1 }
  | .eraseSlot => s.slotErased
  | .settings => s.modCsc fun c => { c with settings := c.settings.map fun x => { x with erased := true } }
  | .startup => s
  | .player _ => s
  | .verify => s
  | .nobody => s

/-- A completed program, for its owner. -/
def State.programDone (s : State) (o : FlashOwner) (op : FlashOp) : State :=
  match o with
  | .upload => s.uploadOpDone fun s => s.uploadProgrammed op
  | .settings => s.settingsProgrammed
  | .eraseSlot => s
  | .startup => s
  | .player _ => s
  | .verify => s
  | .nobody => s

/-- Whether an operation is a program. -/
def FlashOp.isProgram (op : FlashOp) : Bool :=
  match op with
  | .programBegun _ _ _ => true
  | .programBlocks _ _ => true
  | .programComplete _ _ => true
  | .programSettings => true
  | .readSettings => false
  | .readHeader _ => false
  | .readBlock _ _ => false
  | .eraseUnit _ _ => false
  | .eraseSettings => false

/-- The operation that holds the port of a flash that answers: an absent flash completes none (R161). -/
def State.portOp (s : State) : Option PortOp := if s.csc.absent then none else s.csc.port

/-- A player's read completes (R153); a read that its player has left completes into nothing. -/
def State.playerReadCompletes (s : State) : State :=
  match s.portOp with
  | none => s
  | some o =>
    match o.owner, o.op with
    | .player p, .readBlock slot i =>
      let d := readBlock s.flash slot i
      (s.freePort o).workPlayer p fun x => x.takeBlock d
    | .nobody, .readBlock _ _ => s.freePort o
    | _, _ => s

/-- A verify read completes (R162); one whose slot has been dropped completes into nothing. -/
def State.verifyReadCompletes (s : State) : State :=
  match s.portOp with
  | none => s
  | some o =>
    match o.owner, o.op with
    | .verify, .readBlock slot i =>
      let d := readBlock s.flash slot i
      (s.freePort o).verifyArrives d
    | _, _ => s

/-- A program completes. -/
def State.programCompletes (s : State) : State :=
  match s.portOp with
  | none => s
  | some o => if o.op.isProgram then (s.freePort o).programDone o.owner o.op else s

/-- An erase completes. -/
def State.eraseCompletes (s : State) : State :=
  match s.portOp with
  | none => s
  | some o => if o.op.isErase then (s.freePort o).eraseDone o.owner else s

/-! ### RESTART (R165, R169 to R171) -/

/-- RESTART at the clip store: an upload is aborted (its requests have been answered), and the replies of an erase and of a
settings write are not sent; their work runs on. -/
def State.restartClips (s : State) : State :=
  s.abortUpload.modCsc fun c =>
    { c with
      erase := c.erase.map fun e => { e with tag := none }
      settings := c.settings.map fun x => { x with tag := none } }

/-! ### What the host sees (R172) -/

/-- A directory entry's state and verified flag. -/
def eDir (e : DirEntry) : List Octet := e8 e.state.code ++ eFlag e.verified

/-- The fields of the directory notice (R172). -/
def directoryNotice (s : State) : List Octet :=
  let c := s.csc
  c.directory.flatMap eDir ++ e8 c.level ++ e8 (protectedCount c.level) ++
    eOpt8 (c.upload.map (·.slot)) ++ eOpt8 (c.upload.map (·.state.code)) ++ eOpt16 (c.upload.map (·.length)) ++
    eOpt16 (c.upload.map (·.received)) ++ eOpt8 (c.erase.map (·.slot)) ++ eFlag c.settings.isSome ++ eFlag c.copyValid

/-- An entry of a GET_DIRECTORY reply; an EMPTY slot reports length 0. -/
def eEntry (e : DirEntry) : List Octet :=
  eDir e ++ e16 (if e.state = .empty then 0 else e.length) ++ e.label ++ eWord e.crc

/-- GET_DIRECTORY (R172). -/
def handleGetDirectory (tag : Octet) (body : List Octet) (s : State) : State :=
  let start := u8 body 0
  let count := u8 body 1
  if 62 < start ∨ count < 1 ∨ 16 < count ∨ 63 < start + count then s.answer tag .invalid []
  else
    s.answer tag .ok
      (directoryNotice s ++ eList ((List.range count).map fun j => s.dirEntry (start + j)) eEntry)

end Sys2Proof.Machine
end

