-- ==== Sys2Proof/Machine/Zones.lean ====
section
/-! DEFINITION. The Zone Manager (chapter 03): the EMERGENCY set, mode change sets and their delivery, the ALARM input, the split,
and the six zone requests. -/

namespace Sys2Proof.Machine

/-! ### The EMERGENCY set (R46) -/

/-- Whether the zone of index `i` lies within the spread of a declared position in 1..N (R46). -/
def State.nearIncident (s : State) (i : Nat) : Bool :=
  (s.members s.zmg.incident).any fun z => decide (z ≤ i + s.zmg.plan.spread) && decide (i ≤ z + s.zmg.plan.spread)

/-- The EMERGENCY set derived from the incident state (R46). -/
def State.derivedEmergency (s : State) : ZoneSet :=
  if s.zmg.whole || (s.zmg.latch && s.clp.part == .running) then s.allZones else ZoneSet.below s.nearIncident s.n

/-! ### Mode change sets (R48, R49) -/

/-- The zones of a set take a mode. -/
def State.setModes (s : State) (zones : ZoneSet) (m : Mode) : State :=
  s.modZmg fun z =>
    { z with zones := z.zones.zipIdx.map fun x => if zones.mem x.2 then { x.1 with mode := m } else x.1 }

/-- The Power Budget Engine takes a mode change set (R64): each ACTIVE unit whose zone is in it, the rescue carriers as the Rescue
Relay had them in the state `relay` (R74). -/
def State.powerModes (s relay : State) (zones : ZoneSet) : State :=
  s.each ((s.members zones).filter s.isActive) fun s i => s.holdRecord i (s.computeRecordFrom relay i)

/-- Whether the set changes what some rescue channel radiates: the case in which the order of R74 can be seen. -/
def State.relayContends (s old : State) : Bool :=
  (List.range 8).any fun c => old.radiating (s.channel c) != s.radiating (s.channel c)

/-- The engine and the relay take a mode change set, in the order that R74 leaves open: an engine that takes it first computes with
the rescue carriers from before the set, and the relay's reports then recompute; after the relay it computes with the new ones. -/
def State.powerAndRelay (s old : State) (zones : ZoneSet) : State :=
  if s.relayContends old && Config.relayFirst s.zmg.changes then (s.relayModes old zones).powerModes s zones
  else (s.powerModes old zones).relayModes old zones

/-- A mode change set to EMERGENCY (R48): its zones change mode together, the count and the mark follow, and the six receivers
take it (R49, R64, R97, R123, R156, R169). -/
def State.emergencySet (s : State) (zones : ZoneSet) : State :=
  let begins := !s.anyEmergency
  let t := ((s.setModes zones .emergency).modZmg fun z => { z with changes := wrapInc z.changes }).markIncident
  let t := (t.powerAndRelay s zones).forceGates zones
  if begins then t.evacuationStart.abortUpload else t

/-- A mode change set to NORMAL (R48): as above, with emergency ends (R124, R131, R156). -/
def State.normalSet (s : State) (zones : ZoneSet) : State :=
  let t := ((s.setModes zones .normal).modZmg fun z => { z with changes := wrapInc z.changes }).markIncident
  let t := (t.powerAndRelay s zones).releaseGates zones
  if t.anyEmergency then t else t.evacuationEnd.lowerLive

/-- The EMERGENCY set is derived afresh, and the zones that newly join it enter EMERGENCY (R47, R52, R53, R41). -/
def State.applyEmergency (s : State) : State :=
  let joined := s.derivedEmergency &&& ~~~ s.emergencyZones
  if joined = 0#24 then s else s.emergencySet joined

/-! ### The ALARM input (R51 to R53) -/

/-- The sample at a loop frame boundary, but for an expiry of the timer: the level, the timer's start and stop. -/
def State.alarmSample (s : State) (boundary : Nat) (level : Bool) : State :=
  let prev := s.zmg.level
  let timer :=
    if level then
      match s.zmg.alarmTimer with
      | some d => some d
      | none => if prev = some true then none else some (dueAtClose boundary 100)
    else none
  (s.modZmg fun z => { z with level := some level, alarmTimer := timer }).markIf (prev == some !level) State.markIncident

/-- The alarm timer expires (R51 to R53): it stops, and the latch is set; while RUNNING every zone enters EMERGENCY. A latch that
is already set is set again with no further effect. -/
def State.alarmFires (s : State) : State :=
  let s := s.modZmg fun z => { z with alarmTimer := none }
  if s.zmg.latch then s
  else ((s.modZmg fun z => { z with latch := true }).markIncident).applyEmergency

/-- Whether the alarm timer runs and is due at a boundary. -/
def State.alarmDue (s : State) (boundary : Nat) : Bool := isDue s.zmg.alarmTimer boundary

/-! ### The split (R42, R43) -/

/-- The effective split takes the value of the stored split at an audio block boundary. -/
def State.installSplit (s : State) : State :=
  (s.modZmg fun z => { z with effective := z.stored }).markIf (s.zmg.effective != s.zmg.stored) State.markIncident

/-! ### The zone table's resize (R41) -/

/-- A split after a re-form from `old` to `new` positions (R41 step 2). -/
def resizeSplit (old new split : Nat) : Nat := if split = old + 1 ∨ new + 1 < split then new + 1 else split

/-- The declared positions in 1..n of an incident set. -/
def declaredIn (z : ZoneSet) (n : Nat) : ZoneSet := ZoneSet.below z.mem n

/-- The Zone Manager at a re-form (R41), the RU table having its new length: records and splits, then the EMERGENCY set. -/
def State.resizeZones (s : State) (old : Nat) : State :=
  let new := s.n
  let z := s.zmg
  let t := s.modZmg fun z =>
    { z with
      zones := resize z.zones new ⟨0, .normal⟩
      stored := resizeSplit old new z.stored
      effective := resizeSplit old new z.effective }
  let changed := t.zmg.stored != z.stored || t.zmg.effective != z.effective ||
    declaredIn z.incident old != declaredIn z.incident new
  (t.markIf changed State.markIncident).applyEmergency

/-! ### Requests (R40, R43, R45, R47, R50, R56) -/

/-- SET_ZONE (R40). -/
def handleSetZone (tag : Octet) (body : List Octet) (s : State) : State :=
  let zones := zonesAt body 0
  let v := clamp 0 14 (u8 body 4)
  let t :=
    if present8 body 3 0 then
      s.modZmg fun z =>
        { z with zones := z.zones.zipIdx.map fun x => if zones.mem x.2 then { x.1 with threshold := v } else x.1 }
    else s
  t.answer tag .ok []

/-- SET_SPLIT (R43). -/
def handleSetSplit (tag : Octet) (body : List Octet) (s : State) : State :=
  let v := u8 body 0
  if v < 1 ∨ s.n + 1 < v then s.answer tag .invalid []
  else ((s.modZmg fun z => { z with stored := v }).markIf (s.zmg.stored != v) State.markIncident).answer tag .ok []

/-- GET_ZONE (R45). -/
def handleGetZone (tag : Octet) (body : List Octet) (s : State) : State :=
  let k := u8 body 0
  if k < 1 ∨ s.n < k then s.answer tag .invalid []
  else
    let z := s.zmg
    let r := z.zones.getD (k - 1) ⟨0, .normal⟩
    s.answer tag .ok
      (e8 r.threshold ++ e8 r.mode.code ++ eFlag (z.incident.mem (k - 1)) ++ e8 (if s.inRegionA (k - 1) then 0 else 1) ++
        e8 s.n ++ e8 z.stored ++ e8 z.effective ++ eZones z.incident ++ eFlag z.whole ++ eFlag z.latch ++
        eFlag (z.level == some true) ++ eFlag z.alarmTimer.isSome ++ eZones s.emergencyZones ++ e16 z.changes ++
        eOpt8 z.plan.headA ++ eOpt8 z.plan.headB ++ e8 z.plan.spread)

/-- DECLARE_INCIDENT (R47). -/
def handleDeclare (tag : Octet) (body : List Octet) (s : State) : State :=
  let zones := zonesAt body 0
  let scope := u8 body 3
  if 1 < scope ∨ (scope = 0 ∧ zones = 0#24) then s.answer tag .invalid []
  else
    let z := s.zmg
    let t := s.modZmg fun z => { z with incident := z.incident ||| zones, whole := z.whole || scope == 1 }
    let t := (t.markIf (t.zmg.incident != z.incident || t.zmg.whole != z.whole) State.markIncident).applyEmergency
    t.answer tag .ok (eZones t.emergencyZones ++ e16 t.zmg.changes)

/-- CLEAR_INCIDENT (R50). -/
def handleClear (tag : Octet) (s : State) : State :=
  let z := s.zmg
  if z.level = some true then s.answer tag .locked []
  else
    let t := s.modZmg fun z => { z with incident := 0#24, whole := false, latch := false }
    let t := t.markIf (z.incident != 0#24 || z.whole || z.latch) State.markIncident
    let zones := t.emergencyZones
    (if zones = 0#24 then t else t.normalSet zones).answer tag .ok []

/-- SET_EVACUATION_PLAN (R56). -/
def handleSetEvacuationPlan (tag : Octet) (body : List Octet) (s : State) : State :=
  if s.anyEmergency then s.answer tag .emergency []
  else
    match itemRef (u8 body 0), itemRef (u8 body 1) with
    | some a, some b =>
      (s.modZmg fun z => { z with plan := ⟨a, b, clamp 0 3 (u8 body 2)⟩ }).answer tag .ok []
    | _, _ => s.answer tag .invalid []

/-- The fields of the incident notice (R57). -/
def incidentNotice (s : State) : List Octet :=
  let z := s.zmg
  e8 s.n ++ eZones s.emergencyZones ++ eZones z.incident ++ eFlag z.whole ++ eFlag z.latch ++
    eFlag (z.level == some true) ++ e8 z.stored ++ e8 z.effective ++ e16 z.changes

end Sys2Proof.Machine
end

