-- ==== Sys2Proof/Machine/Loop.lean ====
section
/-! DEFINITION. The Loop Controller and the Simulcast Alignment Unit (chapters 01 and 02): answer states, reach, identity reads,
standings and swings, reports, the delay survey, the alignment, SET_LOOP and GET_RU. -/

namespace Sys2Proof.Machine

/-- The entry of a position changes, and its notice mark is set (R25). -/
def State.workRu (s : State) (i : Nat) (f : RuEntry → RuEntry) : State := (s.modRu i f).markRu i

/-- Whether a unit is reachable from an end. -/
def RuEntry.reach (r : RuEntry) (e : ChainEnd) : Bool := (r.view e).reach

/-! ### Stage 1: answer states (R8) -/

/-- The answer state after one frame's answer. -/
def EndView.hear (v : EndView) (present : Bool) : EndView :=
  if v.answering = present then { v with run := 0 }
  else
    let limit := if v.answering then 8 else 32
    if limit ≤ v.run + 1 then { v with answering := present, run := 0 } else { v with run := v.run + 1 }

/-- One end's answer of a frame: the answer state, and the echo for the delay survey (R17). -/
def EndView.take (v : EndView) (a : Option Answer) : EndView :=
  { v.hear a.isSome with echo := a.map fun x => ⟨x.rtt, x.trn⟩ }

/-- Stage 1 of a frame close. -/
def State.takeAnswers (s : State) (f : FrameInput) : State :=
  s.modLpc fun l =>
    { l with
      rus := l.rus.zipIdx.map fun x =>
        { x.1 with onA := x.1.onA.take (answerOf f .a x.2), onB := x.1.onB.take (answerOf f .b x.2) } }

/-! ### Stage 2: reach (R9) -/

/-- The number of consecutive entries from the front whose answer state on an end is ANSWERING. -/
def depth (e : ChainEnd) : List RuEntry → Nat
  | [] => 0
  | r :: l => if (r.view e).answering then depth e l + 1 else 0

/-- A reachable flag takes its value; the delay from an end that stops reaching the unit becomes absent. -/
def EndView.setReach (v : EndView) (b : Bool) : EndView :=
  { v with reach := b, delay := if v.reach && !b then none else v.delay }

/-- Stage 2 of a frame close: the reach depths, the reachable flags, and the marks of the units whose flags change. -/
def State.updateReach (s : State) : State :=
  let n := s.n
  let rA := depth .a s.lpc.rus
  let rB := depth .b s.lpc.rus.reverse
  let old := s
  let t := s.modLpc fun l =>
    ⟨l.rus.zipIdx.map fun x =>
        { x.1 with
          onA := x.1.onA.setReach (decide (x.2 + 1 ≤ rA))
          onB := x.1.onB.setReach (decide (n ≤ x.2 + rB)) },
      rA, rB⟩
  t.each ((List.range n).filter fun i =>
    (old.ru i).onA.reach != (t.ru i).onA.reach || (old.ru i).onB.reach != (t.ru i).onB.reach) State.markRu

/-! ### Events of an ACTIVE unit's standing (R21) -/

/-- A unit has entered ACTIVE: its interim hold (R33), its allocation (R73), its gates (R122). -/
def State.enterActive (s : State) (i : Nat) : State :=
  ((s.modRu i fun r => { r with hold := some 0 }).recompute i).gatesEnter i

/-- A unit has left ACTIVE: its hold and flag (R34), its allocation (R73), the voters and lockouts (R96, R109), its gates (R122). -/
def State.leaveActive (s : State) (i : Nat) : State :=
  let was := (s.ru i).aligned
  let s := (s.modRu i fun r => { r with hold := none, aligned := false }).markIf was (·.markRu i)
  ((s.recompute i).votersLeave i).gatesLeave i

/-! ### Stage 3: identity reads, standings, serving ends, heal timers (R10 to R16) -/

/-- The end chosen for a read or for serving (R10, R14): the preferred end where it reaches the unit, else the other. -/
def RuEntry.chosenEnd (r : RuEntry) : ChainEnd := if r.reach r.preferred then r.preferred else r.preferred.other

/-- Entry to JOINING (R10). For a RESTART see log entry 47. -/
def RuEntry.join (r : RuEntry) : RuEntry :=
  { r with state := .joining, readEnd := r.chosenEnd, parts := [], report := Report.clear, serving := none }

/-- Entry to LOST (R13). -/
def State.lose (s : State) (i : Nat) : State :=
  let was := s.isActive i
  let s := s.workRu i fun r => { r with state := .lost, serving := none, heal := none, parts := [] }
  if was then s.leaveActive i else s

/-- A swing to an end (R15, R16): a swing to the preferred end stops the heal timer, and so does a swing away from it, since the
preferred end is then out of reach. -/
def State.swing (s : State) (i : Nat) (e : ChainEnd) : State :=
  s.workRu i fun r => { r with serving := some e, swings := satInc r.swings, heal := none }

/-- The heal timer of an ACTIVE unit whose serving end reaches it (R16): it runs while the unit is on its non-preferred end and the
preferred end reaches it, and starts with 10 s. -/
def RuEntry.tendHeal (r : RuEntry) (e : ChainEnd) (boundary : Nat) : RuEntry :=
  if e = r.preferred then { r with heal := none }
  else if r.reach r.preferred then
    match r.heal with
    | some _ => r
    | none => { r with heal := some (dueAtClose boundary 10000) }
  else { r with heal := none }

/-- What a unit's reachable flags do to its standing at a frame close (R10, R11, R13, R15, R16). -/
def State.standing (s : State) (boundary i : Nat) : State :=
  let r := s.ru i
  let any := r.onA.reach || r.onB.reach
  match r.state with
  | .absent => if any then s.workRu i RuEntry.join else s
  | .lost => if any then s.workRu i RuEntry.join else s
  | .mismatch => if any then s else s.lose i
  | .joining =>
    if !any then s.lose i
    else if r.reach r.readEnd then s
    else s.modRu i fun r => { r with readEnd := r.readEnd.other, parts := [] }
  | .active =>
    if !any then s.lose i
    else
      match r.serving with
      | none => s
      | some e =>
        if r.reach e then s.modRu i fun r => r.tendHeal e boundary
        else s.swing i e.other

/-- The identity that four parts spell, part 1 the high octet. -/
def identityOf (parts : List Octet) : BitVec 32 := w32 parts 0

/-- The identity read of a unit completes (R12, R14). -/
def State.completeRead (s : State) (i : Nat) (identity : BitVec 32) : State :=
  let r := s.ru i
  if r.configured = 0#32 ∨ r.configured = identity then
    (s.workRu i fun r =>
      { r with state := .active, learned := some identity, serving := some r.chosenEnd, heal := none, parts := [] }).enterActive i
  else
    s.workRu i fun r =>
      { r with
        state := .mismatch, learned := some identity, serving := none, parts := []
        onA := { r.onA with delay := none }, onB := { r.onB with delay := none } }

/-- A part of the identity arrives on the read end of a JOINING unit (R11). -/
def State.takePart (s : State) (i : Nat) (part : Octet) : State :=
  let parts := (s.ru i).parts ++ [part]
  if parts.length < 4 then s.modRu i fun r => { r with parts := parts } else s.completeRead i (identityOf parts)

/-- One frame of a running identity read (R11): a missing answer on the read end discards the parts. -/
def State.readFrame (s : State) (i : Nat) (a : Option Answer) : State :=
  match a with
  | none => s.modRu i fun r => { r with parts := [] }
  | some x => s.takePart i x.part

/-- Whether the unit's heal timer is due at a boundary. -/
def State.healDue (s : State) (boundary i : Nat) : Bool := s.isActive i && isDue (s.ru i).heal boundary

/-- The heal timer expires (R16): the unit swings back to its preferred end. -/
def State.healExpire (s : State) (i : Nat) : State := s.swing i (s.ru i).preferred

/-- Whether an identity read of the unit runs in the loop frame that closes (R11): parts of it have been collected, or the poll of
this frame carried the order on the read end. -/
def State.readRuns (s : State) (i : Nat) : Bool :=
  let r := s.ru i
  !r.parts.isEmpty || s.out.orders.getD i none == some r.readEnd

/-- Stage 3 of a frame close for one unit: a JOINING unit whose read end reaches it takes a part of a read that runs, and an answer
to a poll without an order brings none. -/
def State.stage3 (s : State) (boundary : Nat) (f : FrameInput) (i : Nat) : State :=
  let r := s.ru i
  if r.state = .joining ∧ r.reach r.readEnd = true then
    if s.readRuns i then s.readFrame i (answerOf f r.readEnd i) else s
  else
    let t := s.standing boundary i
    if t.healDue boundary i then t.healExpire i else t

/-! ### Stage 4: reports (R19, R20) -/

/-- The answer captured as a unit's report (R19): the serving end's, or the read end's while JOINING, else the other end's. -/
def RuEntry.captured (r : RuEntry) (i : Nat) (f : FrameInput) : Option Answer :=
  let e := r.serving.getD r.readEnd
  match answerOf f e i with
  | some a => some a
  | none => answerOf f e.other i

/-- Stage 4 of a frame close for one unit: the report record and the last thermal state, whose change marks the unit and, of an
ACTIVE unit, recomputes its allocation (R61). -/
def State.stage4 (s : State) (f : FrameInput) (i : Nat) : State :=
  let r := s.ru i
  if r.state = .joining ∨ r.state = .active then
    match r.captured i f with
    | none => s
    | some a =>
      let t := s.modRu i fun r => { r with report := ⟨a.quality, a.calls, a.activity⟩, thermal := a.thermal }
      if a.thermal = r.thermal then t else (t.markRu i).recomputeActive i
  else s

/-- The four stages of a frame close (R6). -/
def State.loopStages (s : State) (boundary : Nat) (f : FrameInput) : State :=
  let s := (s.takeAnswers f).updateReach
  let s := s.each (List.range s.n) fun s i => s.stage3 boundary f i
  s.each (List.range s.n) fun s i => s.stage4 f i

/-! ### The delay survey (R17, R18) -/

/-- The delay estimate of an echo: ceil((RTT - TRN) / 2), at least 0 and at most 32767. -/
def estimate (x : Echo) : Nat := min ((x.rtt - x.trn + 1) / 2) 32767

/-- The stored delay after an estimate: kept within the deadband of 2 DU. -/
def adopt (stored : Option Nat) (d : Nat) : Option Nat :=
  match stored with
  | none => some d
  | some o => if o + 2 < d ∨ d + 2 < o then some d else some o

/-- The survey of one unit on one end. -/
def State.surveyEnd (s : State) (i : Nat) (e : ChainEnd) : State :=
  let r := s.ru i
  let v := r.view e
  if (r.state = .joining ∨ r.state = .active) ∧ v.reach = true then
    match v.echo with
    | none => s
    | some x =>
      let d := adopt v.delay (estimate x)
      (s.modRu i fun r => r.modView e fun v => { v with delay := d }).markIf (v.delay != d) (·.markRu i)
  else s

/-- The delay survey of an epoch boundary. -/
def State.survey (s : State) : State := s.each (List.range s.n) fun s i => (s.surveyEnd i .a).surveyEnd i .b

/-! ### The alignment (R29 to R31) -/

/-- The serving-end delay of a unit, where it is ACTIVE and the delay present (R18). -/
def RuEntry.servingDelay (r : RuEntry) : Option Nat :=
  if r.state = .active then r.serving.bind fun e => (r.view e).delay else none

/-- The least of a list, `d` for an empty one. -/
def minOf (d : Nat) : List Nat → Nat
  | [] => d
  | x :: l => l.foldl min x

/-- T_target from the delays D and the guard (R29). -/
def targetOf (delays : List Nat) (guardDu : Nat) : Nat :=
  min (min (delays.foldl max 0 + guardDu) (minOf 0 delays + 16383)) 32767

/-- The slew of T_applied toward a target by at most 25 DU (R30). -/
def slew (applied target : Nat) : Nat :=
  if applied ≤ target then (if target - applied ≤ 25 then target else applied + 25)
  else if applied - target ≤ 25 then target
  else applied - 25

/-- The hold and the alignment flag of a unit at an epoch boundary (R31). -/
def RuEntry.align (r : RuEntry) (applied : Nat) : Option Nat × Bool :=
  if r.state = .active then
    match r.servingDelay with
    | none => (some 0, false)
    | some d =>
      if applied < d then (some 0, false)
      else if applied - d ≤ 16383 then (some (applied - d), true)
      else (some 16383, false)
  else (none, false)

/-- The alignment unit after T_target and T_applied are formed at an epoch boundary (R29, R30). With an ACTIVE unit and no delay
in hand the continuity flag is set, as R30 says and against R36: DEDUCED (log entry 48). -/
def Sau.boundary (u : Sau) (delays : List Nat) (anyActive : Bool) : Sau :=
  if delays = [] then { u with continuity := anyActive }
  else
    let t := targetOf delays u.guardDu
    { u with target := t, applied := if u.continuity then slew u.applied t else t, continuity := anyActive }

/-- The alignment computation of an epoch boundary (R29 to R31). -/
def State.alignAll (s : State) : State :=
  let delays := s.lpc.rus.filterMap RuEntry.servingDelay
  let s := s.modSau fun u => u.boundary delays (s.lpc.rus.any fun r => r.state == .active)
  s.each (List.range s.n) fun s i =>
    let r := s.ru i
    let x := r.align s.sau.applied
    (s.modRu i fun r => { r with hold := x.1, aligned := x.2 }).markIf (r.aligned != x.2) (·.markRu i)

/-! ### SET_LOOP (R22, R23, R36, R79, R128) -/

/-- The configured identity of index `i` in a SET_LOOP. -/
def loopIdentity (body : List Octet) (i : Nat) : BitVec 32 := w32 body (3 + 5 * i)

/-- The preferred-end code of index `i` in a SET_LOOP. -/
def loopCode (body : List Octet) (i : Nat) : Nat := u8 body (7 + 5 * i)

/-- The preferred end of index `i` in a chain of `n`, DEFAULT resolved (R22 step 4). -/
def loopEnd (body : List Octet) (n i : Nat) : ChainEnd :=
  if loopCode body i = 0 then .a else if loopCode body i = 1 then .b else defaultEnd n i

/-- The entries of the RU table that a SET_LOOP asks for. -/
def loopEntries (body : List Octet) (n : Nat) : List RuEntry :=
  (List.range n).map fun i => RuEntry.initial (loopIdentity body i) (loopEnd body n i)

/-- Whether a SET_LOOP repeats the stored chain length, identities and preferred ends. -/
def State.sameLoop (s : State) (new : List RuEntry) : Bool :=
  (s.lpc.rus.map fun r => (r.configured, r.preferred)) == new.map fun r => (r.configured, r.preferred)

/-- The Power Budget Engine at a re-form (R79), every unit having left ACTIVE: the records are resized, every allocation is OFF,
and the power marks of positions above the new N are cleared. -/
def State.resizePower (s : State) (new : Nat) : State :=
  let t := s.modPbe fun p =>
    { p with cfgs := resize p.cfgs new PowerCfg.default, allocs := List.replicate new AllocRecord.off }
  let changed := ZoneSet.below (fun i => (s.allocOf i).status != .off) new
  t.modMarks fun m => { m with power := (m.power ||| changed) &&& ZoneSet.below (fun _ => true) new }

/-- The loop re-forms (R22 step 5): every ACTIVE unit leaves ACTIVE; the table, the depths and the guard are written and the
continuity flag cleared (R36); the other blocks resize (R41, R79, R128, R135). The outputs of the loop frame in progress stay
until the next frame begins: DEDUCED (log entry 43). -/
def State.reform (s : State) (new : List RuEntry) (guardDu : Nat) : State :=
  let old := s.n
  let n := new.length
  let s := s.each ((List.range old).filter s.isActive) fun s i =>
    (s.modRu i fun r => { r with state := .absent, serving := none }).leaveActive i
  let s := s.resizePower n
  let s := (s.modLpc fun _ => ⟨new, 0, 0⟩).modSau fun u => { u with guardDu := guardDu, continuity := false }
  let s := s.modMarks fun m => { m with ru := ZoneSet.below (fun _ => true) n }
  ((s.reformGates n).reformWinners n).resizeZones old

/-- SET_LOOP (R22, R23). -/
def handleSetLoop (tag : Octet) (body : List Octet) (s : State) : State :=
  let n := u8 body 0
  if s.anyEmergency then s.answer tag .emergency []
  else if n < 1 ∨ 24 < n ∨ ((List.range n).any fun i => 2 < loopCode body i) = true then s.answer tag .invalid []
  else
    let g := clamp 0 500 (u16 body 1)
    let new := loopEntries body n
    if s.sameLoop new then (s.modSau fun u => { u with guardDu := g }).answer tag .ok []
    else (s.reform new g).answer tag .ok []

/-! ### What the host sees (R24, R25, R38) -/

/-- An end, or none. -/
def eEnd (e : Option ChainEnd) : List Octet := eOpt8 (e.map endCode)

/-- An answer state with its run count: SILENT 0, ANSWERING 1. -/
def eAnswer (v : EndView) : List Octet := e8 (if v.answering then 1 else 0) ++ e8 v.run

/-- The report record (R7). -/
def eReport (x : Report) : List Octet :=
  x.quality ++ (List.range 8).flatMap (fun c => eFlag (x.calls.getLsbD c)) ++
    (List.range 4).flatMap fun b => e8 (x.activity.getD b 0)

/-- The fields of a GET_RU reply (R24), with or without the report record. The alignment flag is a named value, ALIGNED 0 and
UNALIGNED 1: DEDUCED (log entry 21). -/
def ruFields (s : State) (i : Nat) (withReport : Bool) : List Octet :=
  let r := s.ru i
  e8 s.n ++ e8 s.lpc.rA ++ e8 s.lpc.rB ++
    e8 (i + 1) ++ eWord r.configured ++ eIdentity r.learned ++ e8 (endCode r.preferred) ++ e8 r.state.code ++
    eAnswer r.onA ++ eAnswer r.onB ++ eFlag r.onA.reach ++ eFlag r.onB.reach ++ eEnd r.serving ++
    eOpt16 r.onA.delay ++ eOpt16 r.onB.delay ++ eTimer s.now r.heal ++ e16 r.swings ++ e8 (thermalCode r.thermal) ++
    e8 (if r.aligned then 0 else 1) ++ (if withReport then eReport r.report else []) ++
    eOpt16 r.hold ++ eTimer s.now r.heal

/-- GET_RU (R24). -/
def handleGetRu (tag : Octet) (body : List Octet) (s : State) : State :=
  let k := u8 body 0
  if k < 1 ∨ s.n < k then s.answer tag .invalid [] else s.answer tag .ok (ruFields s (k - 1) true)

/-- The fields of a RU notice (R25). -/
def ruNotice (s : State) (i : Nat) : List Octet := ruFields s i false

/-! ### RESTART (R27) -/

/-- RESTART at the Loop Controller: every MISMATCH unit enters JOINING and is read afresh. That R10 clears the report record here,
although the RESTART column of R7 keeps it, is DEDUCED (log entry 47). -/
def State.rereadMismatch (s : State) : State :=
  s.each ((List.range s.n).filter fun i => (s.ru i).state == .mismatch) fun s i => s.workRu i RuEntry.join

end Sys2Proof.Machine
end

