-- ==== Sys2Proof/Machine/Frame.lean ====
section
/-! DEFINITION. The part's time base: the frame close with the alarm sample before it, the epoch boundary, the audio block
boundary, and the outputs of the string ports and the portal shelf port, taken as each loop frame begins. -/

namespace Sys2Proof.Machine

/-! ### Outputs (R5, R32, R75, R98, R111, R125, R134) -/

/-- What the unit at index `i` radiates of a rescue channel in a loop frame (R98). -/
def State.rescueAir (s : State) (c i : Nat) : RescueAir :=
  let ch := s.channel c
  if ch.cfg.enabled && ch.cfg.coverage.mem i then
    match ch.state with
    | .down => .downlink
    | .up => if s.talkThrough ch then .uplink else .nothing
    | .idle => .nothing
    | .turn => .nothing
  else .nothing

/-- The audio that a break-in source gives for the block in progress (R134). -/
def State.airOf (s : State) (src : Source) : Air :=
  match src with
  | .live => s.lvq.air
  | .player p => (s.player p).air

/-- The uplink enables of the unit at index `i` (R125): on for an OPEN or FORCED gate. -/
def State.enables (s : State) (i : Nat) : BitVec 4 :=
  [0, 1, 2, 3].foldl
    (fun e b =>
      let st := ((s.band b).gate i).state
      if st == .opened || st == .forced then e ||| BitVec.twoPow 4 b else e) 0#4

/-- The downlink of the unit at index `i`: only an ACTIVE unit has one, on its serving end (R5). -/
def State.streamOf (s : State) (i : Nat) : Option Stream :=
  let r := s.ru i
  if r.state = .active then
    r.serving.map fun e =>
      ⟨e, r.hold.getD 0, s.allocOf i, s.enables i, (s.powerCfg i).programmes,
        (s.bim.winners.getD i none).map s.airOf, (List.range 8).map fun c => s.rescueAir c i⟩
  else none

/-- The identity-read order in the poll of a position (R11): on the read end of a JOINING unit with no part collected. -/
def State.orderOf (s : State) (i : Nat) : Option ChainEnd :=
  let r := s.ru i
  if r.state = .joining ∧ r.parts = [] then some r.readEnd else none

/-- Whether a channel's uplink is keyed in the frame that begins (R98). -/
def Channel.keys (ch : Channel) : Bool := ch.cfg.enabled && ch.state == .up

/-- The outputs of the loop frame that begins are taken; `passed` stays that of the frame last closed. That a request inside a
frame leaves the streams and keys of that frame as they are, even of units that have left ACTIVE, is DEDUCED (log entry 43). -/
def State.latchOutputs (s : State) : State :=
  if s.loopOn then
    let s := s.modChannels fun l => l.map fun ch => { ch with keyed := ch.keys }
    { s with
      out :=
        { polled := s.n
          orders := (List.range s.n).map s.orderOf
          streams := (List.range s.n).map s.streamOf
          keyed := (List.range 8).foldl
            (fun k c => if (s.channel c).keyed then k ||| BitVec.twoPow 8 c else k) 0#8
          uplinks := (List.range 8).map fun c => if (s.channel c).keyed then (s.channel c).source else none
          passed := s.out.passed } }
  else s

/-- The end whose answer is taken first for the uplink audio of the unit at index `i` (R104): of an ACTIVE unit the serving end as
the frame close has left it, from which the report is captured (R19); of a unit that has left ACTIVE the end its stream went out
on. The latter is a DESIGN CHOICE (log entry 45). -/
def State.audioEnd (s : State) (i : Nat) : Option ChainEnd :=
  if s.isActive i then (s.ru i).serving else (s.out.streams.getD i none).map (·.port)

/-- The unit and the end whose audio was passed on channel `c` in the loop frame that closes, the loop's stages taken (R104, R111);
`none` is silence. -/
def State.passedOn (s : State) (f : FrameInput) (c : Nat) : Option (Nat × ChainEnd) :=
  match s.out.uplinks.getD c none with
  | none => none
  | some i =>
    match s.audioEnd i with
    | none => none
    | some e =>
      if (answerOf f e i).isSome then some (i, e)
      else if (answerOf f e.other i).isSome then some (i, e.other)
      else none

/-! ### The frame close (R6, R20, R51, R85, R120) -/

/-- The frame close of the loop and of the blocks that follow it: the four stages, the channel frames, the band frames. -/
def State.closeFrame (s : State) (boundary : Nat) (f : FrameInput) : State :=
  if s.loopOn then
    let s := s.loopStages boundary f
    let passed := (List.range 8).map (s.passedOn f)
    let t := (s.channelFrames boundary).bandFrames boundary
    { t with out := { t.out with passed := passed } }
  else s

/-- The frame close with an expiry of the alarm timer at the same boundary, in the order that the manual leaves open. -/
def State.closeWithAlarm (s : State) (boundary : Nat) (f : FrameInput) : State :=
  if s.alarmDue boundary then
    if Config.alarmFirst boundary then s.alarmFires.closeFrame boundary f
    else (s.closeFrame boundary f).alarmFires
  else s.closeFrame boundary f

/-- The close of a loop frame at the next boundary: the ALARM and MAINT inputs, the alarm timer, the frame close, and the outputs
of the frame that begins. -/
def State.frameClose (s : State) (f : FrameInput) : State :=
  let b := s.now + 1
  let t := ({ s with pins := { s.pins with maint := f.maint } }.alarmSample b f.alarm).closeWithAlarm b f
  { t with now := b }.latchOutputs

/-! ### Epoch boundaries and audio block boundaries (R2, R17, R133) -/

/-- Whether an epoch boundary falls at the loop frame boundary last taken, and has not been taken. -/
def State.epochDue (s : State) : Bool :=
  s.loopOn && decide (0 < s.now) && decide (s.now % 64 = 0) && decide (s.epochAt ≠ s.now)

/-- Whether an audio block boundary falls at the loop frame boundary last taken, and has not been taken. -/
def State.blockDue (s : State) : Bool :=
  s.loopOn && decide (0 < s.now) && decide (s.now % 80 = 0) && decide (s.blockAt ≠ s.now)

/-- The epoch boundary: the delay survey, then the alignment. The outputs of the frame that begins at this boundary are taken
again, with all that commands after the frame close have changed: DESIGN CHOICE (log entry 49). -/
def State.epochBoundary (s : State) : State := ({ s with epochAt := s.now }.survey.alignAll).latchOutputs

/-- The sources' part of an audio block boundary and the mixer's choice (R132, R133). -/
def State.breakInBoundary (s : State) : State :=
  let t := s.liveBoundary.playerBoundaries
  t.chooseWinners (s.offers t)

/-- The audio block boundary: the split is installed, the voter serves its deferred marks, the sources make their offers, the
mixer chooses. The outputs are taken again: DESIGN CHOICE (log entry 49). -/
def State.blockBoundary (s : State) : State :=
  ({ s with blockAt := s.now }.installSplit.voterBoundary.breakInBoundary).latchOutputs

/-! ### Single events of the frame close in progress

Each is the part of the frame close at the next boundary that its name says, by the same definitions; where the event is not due it
has no effect (log entry 5). -/

/-- The reachable flags and what they do to every unit's standing, after a position's answer state has changed (R9 to R16). -/
def State.followReach (s : State) : State :=
  let s := s.updateReach
  s.each (List.range s.n) fun s i => s.standing (s.now + 1) i

/-- A position turns ANSWERING or SILENT on an end (R8), where its run count has reached the last but one. -/
def State.positionTurns (s : State) (i : Nat) (e : ChainEnd) (present : Bool) : State :=
  let v := (s.ru i).view e
  let due := s.loopOn && decide (i < s.n) && v.answering != present && (v.hear present).answering == present
  if due then (s.modRu i fun r => r.modView e fun v => v.hear present).followReach else s

/-- The fourth identity part arrives (R12). -/
def State.identityArrives (s : State) (i : Nat) (part : Octet) : State :=
  let r := s.ru i
  if s.loopOn && decide (i < s.n) && r.state == .joining && r.reach r.readEnd && r.parts.length == 3 then s.takePart i part
  else s

/-- A heal timer expires (R16). -/
def State.healTimer (s : State) (i : Nat) : State :=
  if s.loopOn && decide (i < s.n) && s.healDue (s.now + 1) i then s.healExpire i else s

/-- The alarm timer expires (R52, R53). -/
def State.alarmTimer (s : State) : State := if s.alarmDue (s.now + 1) then s.alarmFires else s

/-- The candidate set of the channel frame in which a timer of channel `c` expires, formed afresh (R105). -/
def State.formCandidates (s : State) (c : Nat) (w : ChanWork) : ChanWork := ⟨{ w.ch with cands := s.candidates c }, w.mark⟩

/-- A channel's turnaround expires (R88). -/
def State.turnTimer (s : State) (c : Nat) : State :=
  let ch := s.channel c
  if ch.cfg.enabled && ch.state == .turn && isDue ch.turnT (s.now + 1) then
    s.workChannel c fun w => (s.formCandidates c w).turnExpire (s.now + 1) fun i => s.callOf i c
  else s

/-- A channel's hang expires (R91). -/
def State.hangTimer (s : State) (c : Nat) : State :=
  let ch := s.channel c
  if ch.cfg.enabled && ch.state == .up && isDue ch.hangT (s.now + 1) then s.workChannel c ChanWork.hangExpire else s

/-- A channel's talk timer expires (R94). -/
def State.talkTimer (s : State) (c : Nat) : State :=
  let ch := s.channel c
  if ch.cfg.enabled && ch.state == .up && isDue ch.talkT (s.now + 1) then
    s.workChannel c fun w => (s.formCandidates c w).talkExpire (s.now + 1) fun i => s.callOf i c
  else s

/-- A gate's hold expires (R120 step 2): the gate becomes CLOSED, and a place it held is filled (R121). -/
def State.gateTimer (s : State) (b i : Nat) : State :=
  if (s.band b).feed && (s.band b).holdDue (s.now + 1) i then s.workBand b fun w => w.vacate i .closed else s

/-- The starve limit of a live session (R141): the boundary after 100 blocks of silence ends it. -/
def State.starveLimit (s : State) : State :=
  if s.blockDue && s.lvq.state == .starved && decide (100 ≤ s.lvq.starve) then s.endLive .starved else s

end Sys2Proof.Machine
end

