-- ==== Sys2Proof/Machine/Startup.lean ====
section
/-! DEFINITION. Power, RESET, the start-up read (R26, R161, R171, R179), the failure table of the flash port (R165), and the events
of the portal shelf. -/

namespace Sys2Proof.Machine

/-! ### Power and RESET (R26, R161, R182) -/

/-- The flash after the supply or RESET has cut the operation in progress (R161, R171). Nothing else is written, so that of an upload
cut between the erase of its header unit and the begun program an erased header stays: DEDUCED (log entry 63). -/
def State.flashCut (s : State) : Flash :=
  match s.csc.port with
  | none => s.flash
  | some o => s.flash.cutOp o.op

/-- Power is applied: every block at its power-on state, the strap rate sampled, the start-up read begun. -/
def State.powerUp (s : State) (rate : LineRate) : State := State.initial .on rate s.pins s.flashCut s.pending

/-- RESET is asserted: the state of every block is discarded and the outputs are released. -/
def State.holdReset (s : State) : State :=
  if s.power = .on then State.initial .held s.clp.rate s.pins s.flashCut s.pending else s

/-- RESET is released: as at power-on. -/
def State.releaseReset (s : State) (rate : LineRate) : State :=
  if s.power = .held then State.initial .on rate s.pins s.flash s.pending else s

/-- The supply is removed. -/
def State.powerDown (s : State) : State :=
  match s.power with
  | .off => s
  | .held => State.initial .off s.clp.rate s.pins s.flash s.pending
  | .on => State.initial .off s.clp.rate s.pins s.flashCut s.pending

/-! ### Portal shelf events (R84, R117) -/

/-- The portal shelf's level of a channel's carrier. -/
def State.setCarrierPin (s : State) (c : Nat) (on : Bool) : State :=
  { s with
    pins :=
      { s.pins with
        carriers := if on then s.pins.carriers ||| BitVec.twoPow 8 c else s.pins.carriers &&& ~~~ BitVec.twoPow 8 c } }

/-- The portal shelf's level of a band's feed. -/
def State.setFeedPin (s : State) (b : Nat) (on : Bool) : State :=
  { s with
    pins :=
      { s.pins with feeds := if on then s.pins.feeds ||| BitVec.twoPow 4 b else s.pins.feeds &&& ~~~ BitVec.twoPow 4 b } }

/-- The relay and the supervisor take an event from the portal shelf once they have begun (R84, R117). -/
def State.begun (s : State) : Bool := s.power == .on && s.loopOn

/-! ### The start-up read (R161, R171, R179) -/

/-- The portal shelf reports the levels that are present as the loop starts (R84, R117). -/
def State.reportShelf (s : State) : State :=
  let t := s.each ((List.range 8).filter s.pins.carriers.getLsbD) State.takeDlOn
  t.each ((List.range 4).filter s.pins.feeds.getLsbD) State.feedComesUp

/-- The settings are loaded or defaulted, and the loop starts (R26, R171). -/
def State.loopStart (s : State) (c : Settings) (loaded : Bool) : State :=
  let level := s.csc.level
  let t := ({ s.configure c with loopOn := true }.modClp fun x => { x with defaulted := !loaded }).setCopyValid loaded
  (t.markIf (c.level != level) State.markDirectory).reportShelf

/-- The part becomes RUNNING (R179): the part-state mark, and the emergency of a latch that is set (R53). -/
def State.goRunning (s : State) : State :=
  let s := (s.modClp fun c => { c with part := .running }).markPart
  if s.zmg.latch then s.applyEmergency else s

/-- The next step of the header scan after a slot: the next header's read, or the end of the scan. -/
def State.scanOn (s : State) (slot : Nat) : State :=
  if slot < 62 then s.startOp (.readHeader (slot + 1), .startup) else s.goRunning

/-- The settings read has completed (R161 step 1, R171). -/
def State.settingsRead (s : State) : State :=
  match s.portOp with
  | none => s
  | some o =>
    match o.op with
    | .readSettings =>
      let s := s.freePort o
      let s :=
        match s.flash.area with
        | .copy c => s.loopStart c true
        | .erased => s.loopStart Settings.default false
        | .invalid => s.loopStart Settings.default false
      s.startOp (.readHeader 0, .startup)
    | _ => s

/-- A header read has completed (R161 step 2). -/
def State.headerRead (s : State) : State :=
  match s.portOp with
  | none => s
  | some o =>
    match o.op with
    | .readHeader slot =>
      let s := s.freePort o
      (s.setDir slot fun _ => entryOf (s.flash.header slot)).scanOn slot
    | _ => s

/-- The settings read has failed (R161): the flash is absent, the settings are defaulted, every slot is DAMAGED, and the part enters
RUNNING. -/
def State.flashAbsent (s : State) : State :=
  let s := s.loopStart Settings.default false
  let s := s.modCsc fun c => { c with absent := true }
  let s := s.each (List.range 63) fun s slot => s.setDir slot fun _ => entryUnread
  s.goRunning

/-! ### Failures (R165) -/

/-- What follows the failure of an operation, by its owner. -/
def State.ownerFails (s : State) (o : PortOp) : State :=
  match o.owner with
  | .startup =>
    match o.op with
    | .readHeader slot => (s.setDir slot fun _ => entryUnread).scanOn slot
    | _ => s.flashAbsent
  | .player p => s.failItem p
  | .verify => s.modCsc Csc.abandonVerify
  | .upload => s.faultUpload
  | .eraseSlot =>
    match s.csc.erase with
    | none => s
    | some e =>
      (s.modCsc fun c => { c with erase := none, order := c.order.filter (· != .eraseSlot) }).answerOpt e.tag .flashFault []
  | .settings =>
    match s.csc.settings with
    | none => s
    | some x =>
      (s.modCsc fun c => { c with settings := none, order := c.order.filter (· != .settings) }).answerOpt x.tag .flashFault []
  | .nobody => s

/-- The operation on the port has failed: it is ended on the flash, the port is free, and its owner takes the failure. -/
def State.opFails (s : State) : State :=
  match s.csc.port with
  | none => s
  | some o => ((s.modFlash fun f => f.cutOp o.op).modCsc fun c => { c with port := none }).ownerFails o

/-- An operation that has not finished 2 s after it started. -/
def State.opTimesOut (s : State) : State :=
  match s.csc.port with
  | none => s
  | some o => if o.start + 8000 ≤ s.now + 1 then s.opFails else s

end Sys2Proof.Machine
end

