-- ==== Sys2Proof/Machine/Link.lean ====
section
/-! DEFINITION. The Control Link Port (chapter 11): the notices and their ranks, the transmit arbiter, the checks of a delivered
frame, the requests it owns, and the receiver of octets. -/

namespace Sys2Proof.Machine

/-! ### Notices (R178) -/

/-- The fields of the settings-and-part-state notice (R179). -/
def partNotice (s : State) : List Octet :=
  e8 s.clp.part.code ++ eFlag s.clp.defaulted ++ eFlag s.csc.copyValid ++ e16 s.clp.restarts ++ e8 (rateCode s.clp.rate)

/-- The fields of the link-error notice (R182). -/
def linkNotice (s : State) : List Octet :=
  let r := s.clp.link
  eOpt8 (r.last.map (·.code)) ++ e16 r.crc ++ e16 r.overlength ++ e16 r.timeout ++ e16 r.overrun

/-- A notice source that the arbiter serves: its kind, its body, and the marks that are left. -/
structure Served where
  kind : Octet
  body : List Octet
  marks : Marks
deriving DecidableEq, Repr

/-- The first index whose bit is set, lowest first. -/
def lowestBit {w : Nat} (b : BitVec w) : Option Nat := (List.range w).find? b.getLsbD

/-- A mark with its bit `i` cleared. -/
def clearBit {w : Nat} (b : BitVec w) (i : Nat) : BitVec w := b &&& ~~~ BitVec.twoPow w i

/-- The notice of the highest-ranked marked source, within a rank of the lowest number (R178); its snapshot and the marks without
its own. -/
def State.nextNotice (s : State) : Option Served :=
  let m := s.clp.marks
  if m.incident then some ⟨0xE0#8, e8 0 ++ incidentNotice s, { m with incident := false }⟩
  else
    match lowestBit m.channel with
    | some c => some ⟨0xE1#8, e8 (c + 1) ++ channelNotice s c, { m with channel := clearBit m.channel c }⟩
    | none =>
      match lowestBit m.ru with
      | some i => some ⟨0xE2#8, e8 (i + 1) ++ ruNotice s i, { m with ru := clearBit m.ru i }⟩
      | none =>
        match lowestBit m.power with
        | some i => some ⟨0xE3#8, e8 (i + 1) ++ powerNotice s i, { m with power := clearBit m.power i }⟩
        | none =>
          if m.live then some ⟨0xE4#8, e8 0 ++ liveNotice s, { m with live := false }⟩
          else
            match lowestBit m.player with
            | some p => some ⟨0xE5#8, e8 p ++ playerNotice s p, { m with player := clearBit m.player p }⟩
            | none =>
              match lowestBit m.band with
              | some b => some ⟨0xE6#8, e8 (b + 1) ++ bandNotice s b, { m with band := clearBit m.band b }⟩
              | none =>
                if m.directory then some ⟨0xE7#8, e8 0 ++ directoryNotice s, { m with directory := false }⟩
                else if m.part then some ⟨0xE8#8, e8 0 ++ partNotice s, { m with part := false }⟩
                else if m.link then some ⟨0xE9#8, e8 0 ++ linkNotice s, { m with link := false }⟩
                else none

/-! ### The transmit arbiter (R177) -/

/-- A frame begins to be sent: its octets stand on the line until it has been sent whole. -/
def Clp.send (c : Clp) (x : Outgoing) : Clp := { c with sending := some x, line := x.octets }

/-- The frame in sending has been sent whole, and the line is idle. -/
def Clp.lineFree (c : Clp) : Clp := { c with sending := none, line := [] }

/-- The oldest reply begins to be sent; the slot of an outstanding request goes with it. -/
def Clp.sendReply (c : Clp) (r : Reply) (rest : List Reply) : Clp :=
  { c.send (.reply r) with
    replies := rest
    slots := if r.refusal then c.slots else
      c.slots.map fun x => if x.tag = r.tag ∧ x.phase = .queued then { x with phase := .sending } else x }

/-- A free line takes the oldest reply, else, while RUNNING, the notice of the highest-ranked marked source. -/
def State.pump (s : State) : State :=
  match s.clp.sending with
  | some _ => s
  | none =>
    match s.clp.replies with
    | r :: rest => s.modClp fun c => c.sendReply r rest
    | [] =>
      if s.clp.part = .running then
        match s.nextNotice with
        | none => s
        | some x => s.modClp fun c => { c.send (.notice x.kind x.body) with marks := x.marks }
      else s

/-- What follows every step by itself: the flash port arbiter (R164) and the transmit arbiter (R177) take what they find. -/
def State.settle (s : State) : State := s.arbitrate.pump

/-- The frame in sending has been sent whole (R175, R177): the slot of a replied request is freed. -/
def State.frameSent (s : State) : State :=
  match s.clp.sending with
  | none => s
  | some (.notice _ _) => s.modClp Clp.lineFree
  | some (.reply r) =>
    s.modClp fun c =>
      { c.lineFree with
        slots := if r.refusal then c.slots else c.slots.filter fun x => !(x.tag == r.tag && x.phase == .sending) }

/-! ### The checks of a delivered request (R175) -/

/-- The status with which checks 3 to 7 refuse a request, `none` where it is accepted. -/
def State.refusal (s : State) (fits : Bool) (kind tag : Octet) : Option Status :=
  if tag = 0#8 then some .invalid
  else if !fits then some .invalid
  else if s.clp.part = .starting ∧ kind ≠ 0x01#8 ∧ kind ≠ 0x02#8 then some .notReady
  else if s.clp.slots.any fun x => x.tag == tag then some .tagInUse
  else if 4 ≤ s.clp.slots.length then some .busy
  else none

/-- A request that is accepted takes a slot with its kind and tag (R175 step 8). -/
def State.takeSlot (s : State) (kind tag : Octet) : State :=
  s.modClp fun c => { c with slots := c.slots ++ [⟨kind, tag, .waiting⟩] }

/-- A request passes the checks 3 to 8, and its owner handles it (R175, R176). -/
def State.request (s : State) (kind tag : Octet) (fits : Bool) (handle : State → State) : State :=
  match s.refusal fits kind tag with
  | some st => s.modClp fun c => c.refuse kind tag st
  | none => handle (s.takeSlot kind tag)

/-! ### IDENTIFY, STATUS and RESTART (R180, R181) -/

/-- IDENTIFY (R180). That the silicon revision takes one octet is a DESIGN CHOICE (log entry 14). -/
def handleIdentify (tag : Octet) (s : State) : State :=
  s.answer tag .ok
    (e16 0x5446 ++ [Config.siliconRevision] ++ e8 (rateCode s.clp.rate) ++ e16 600 ++ e8 4 ++ e8 s.clp.part.code)

/-- The flags octet of STATUS (R183). -/
def statusFlags (s : State) : Octet :=
  (if s.clp.defaulted then 0x01#8 else 0#8) ||| (if s.csc.copyValid then 0x02#8 else 0#8) |||
    (if s.zmg.latch then 0x04#8 else 0#8) ||| (if s.zmg.level = some true then 0x08#8 else 0#8) |||
    (if s.pins.maint then 0x10#8 else 0#8)

/-- STATUS (R180, R183). -/
def handleStatus (tag : Octet) (s : State) : State :=
  s.answer tag .ok
    (e8 s.clp.part.code ++ e16 s.clp.restarts ++ [statusFlags s] ++ e8 s.clp.slots.length ++ e8 s.n ++
      e8 (s.members s.emergencyZones).length ++ e8 s.lpc.rA ++ e8 s.lpc.rB ++
      e8 ((List.range s.n).filter s.isActive).length ++ e16 s.sau.target ++ e16 s.sau.applied ++ e16 s.sau.guardDu ++
      e16 s.clp.link.crc ++ e16 s.clp.link.overlength ++ e16 s.clp.link.timeout ++ e16 s.clp.link.overrun ++ e32 0)

/-- RESTART step 1 (R181): every other outstanding request without a reply is answered ABORTED, in the order of acceptance. -/
def State.abortOthers (s : State) (tag : Octet) : State :=
  (s.clp.slots.filter fun x => x.tag != tag && x.phase == .waiting).foldl (fun s x => s.answer x.tag .aborted []) s

/-- RESTART step 2 (R181): each block clears its running state (R27, R102, R112, R128, R145, R157, R169). -/
def State.restartBlocks (s : State) : State :=
  let s := if s.lvq.state = .none then s else s.endLive .restarted
  let s := s.restartPlayers.clearWinners
  s.restartChannels.restartGates.restartClips.rereadMismatch

/-- RESTART (R181). -/
def handleRestart (tag : Octet) (s : State) : State :=
  let s := (s.abortOthers tag).restartBlocks
  ((s.modClp fun c => { c with restarts := satInc c.restarts }).markPart).answer tag .ok []

/-! ### The requests by their kinds (R176, R183) -/

def takeIdentify (tag : Octet) (body : List Octet) (s : State) : State :=
  s.request 0x01#8 tag (body.length == 0) (handleIdentify tag)
def takeStatus (tag : Octet) (body : List Octet) (s : State) : State :=
  s.request 0x02#8 tag (body.length == 0) (handleStatus tag)
def takeRestart (tag : Octet) (body : List Octet) (s : State) : State :=
  s.request 0x03#8 tag (body.length == 0) (handleRestart tag)
def takeSaveSettings (tag : Octet) (body : List Octet) (s : State) : State :=
  s.request 0x04#8 tag (body.length == 0) (handleSaveSettings tag)
def takeSetLoop (tag : Octet) (body : List Octet) (s : State) : State :=
  s.request 0x10#8 tag (body.length == 123) (handleSetLoop tag body)
def takeGetRu (tag : Octet) (body : List Octet) (s : State) : State :=
  s.request 0x11#8 tag (body.length == 1) (handleGetRu tag body)
def takeSetZone (tag : Octet) (body : List Octet) (s : State) : State :=
  s.request 0x18#8 tag (body.length == 5) (handleSetZone tag body)
def takeSetSplit (tag : Octet) (body : List Octet) (s : State) : State :=
  s.request 0x19#8 tag (body.length == 1) (handleSetSplit tag body)
def takeGetZone (tag : Octet) (body : List Octet) (s : State) : State :=
  s.request 0x1A#8 tag (body.length == 1) (handleGetZone tag body)
def takeDeclare (tag : Octet) (body : List Octet) (s : State) : State :=
  s.request 0x1B#8 tag (body.length == 4) (handleDeclare tag body)
def takeClear (tag : Octet) (body : List Octet) (s : State) : State :=
  s.request 0x1C#8 tag (body.length == 0) (handleClear tag)
def takeSetEvacuationPlan (tag : Octet) (body : List Octet) (s : State) : State :=
  s.request 0x1D#8 tag (body.length == 3) (handleSetEvacuationPlan tag body)
def takeSetRuPower (tag : Octet) (body : List Octet) (s : State) : State :=
  s.request 0x20#8 tag (body.length == 21) (handleSetRuPower tag body)
def takeSetPlan (tag : Octet) (body : List Octet) (s : State) : State :=
  s.request 0x21#8 tag (body.length == 15) (handleSetPlan tag body)
def takeGetBudget (tag : Octet) (body : List Octet) (s : State) : State :=
  s.request 0x22#8 tag (body.length == 1) (handleGetBudget tag body)
def takeSetChannel (tag : Octet) (body : List Octet) (s : State) : State :=
  s.request 0x28#8 tag (body.length == 18) (handleSetChannel tag body)
def takeGetChannel (tag : Octet) (body : List Octet) (s : State) : State :=
  s.request 0x29#8 tag (body.length == 1) (handleGetChannel tag body)
def takeSetBand (tag : Octet) (body : List Octet) (s : State) : State :=
  s.request 0x2C#8 tag (body.length == 7) (handleSetBand tag body)
def takeGetBand (tag : Octet) (body : List Octet) (s : State) : State :=
  s.request 0x2D#8 tag (body.length == 1) (handleGetBand tag body)
def takeLiveStart (tag : Octet) (body : List Octet) (s : State) : State :=
  s.request 0x30#8 tag (body.length == 4) (handleLiveStart tag body)
def takeLiveEnd (tag : Octet) (body : List Octet) (s : State) : State :=
  s.request 0x31#8 tag (body.length == 1) (handleLiveEnd tag body)
def takeSetItems (tag : Octet) (body : List Octet) (s : State) : State :=
  s.request 0x38#8 tag (decide (2 ≤ body.length) && body.length == 2 + 6 * u8 body 1) (handleSetItems tag body)
def takePlay (tag : Octet) (body : List Octet) (s : State) : State :=
  s.request 0x39#8 tag (body.length == 7) (handlePlay tag body)
def takeStop (tag : Octet) (body : List Octet) (s : State) : State :=
  s.request 0x3A#8 tag (body.length == 2) (handleStop tag body)
def takeGetPlayer (tag : Octet) (body : List Octet) (s : State) : State :=
  s.request 0x3B#8 tag (body.length == 3) (handleGetPlayer tag body)
def takeUploadBegin (tag : Octet) (body : List Octet) (s : State) : State :=
  s.request 0x40#8 tag (body.length == 19) (handleUploadBegin tag body)
def takeClipData (tag : Octet) (body : List Octet) (s : State) : State :=
  s.request 0x41#8 tag (body.length == 130) (handleClipData tag body)
def takeUploadEnd (tag : Octet) (body : List Octet) (s : State) : State :=
  s.request 0x42#8 tag (body.length == 4) (handleUploadEnd tag body)
def takeUploadAbort (tag : Octet) (body : List Octet) (s : State) : State :=
  s.request 0x43#8 tag (body.length == 0) (handleUploadAbort tag)
def takeEraseSlot (tag : Octet) (body : List Octet) (s : State) : State :=
  s.request 0x44#8 tag (body.length == 1) (handleEraseSlot tag body)
def takeGetDirectory (tag : Octet) (body : List Octet) (s : State) : State :=
  s.request 0x45#8 tag (body.length == 2) (handleGetDirectory tag body)
def takeSetProtection (tag : Octet) (body : List Octet) (s : State) : State :=
  s.request 0x46#8 tag (body.length == 1) (handleSetProtection tag body)

/-- VOICE_BLOCK (R175 step 1): a body of 129 octets goes to the Live Voice Queue, any other is discarded; no reply, no slot. -/
def takeVoiceBlock (body : List Octet) (s : State) : State :=
  if body.length = 129 then s.takeVoice (octetAt body 0) (body.drop 1) else s

/-- A frame delivered by the receiver, by its kind (R175, R183); a kind that names no request is answered UNKNOWN_KIND. -/
def State.deliver (s : State) (kind tag : Octet) (body : List Octet) : State :=
  match kind.toNat with
  | 0x01 => takeIdentify tag body s
  | 0x02 => takeStatus tag body s
  | 0x03 => takeRestart tag body s
  | 0x04 => takeSaveSettings tag body s
  | 0x10 => takeSetLoop tag body s
  | 0x11 => takeGetRu tag body s
  | 0x18 => takeSetZone tag body s
  | 0x19 => takeSetSplit tag body s
  | 0x1A => takeGetZone tag body s
  | 0x1B => takeDeclare tag body s
  | 0x1C => takeClear tag body s
  | 0x1D => takeSetEvacuationPlan tag body s
  | 0x20 => takeSetRuPower tag body s
  | 0x21 => takeSetPlan tag body s
  | 0x22 => takeGetBudget tag body s
  | 0x28 => takeSetChannel tag body s
  | 0x29 => takeGetChannel tag body s
  | 0x2C => takeSetBand tag body s
  | 0x2D => takeGetBand tag body s
  | 0x30 => takeLiveStart tag body s
  | 0x31 => takeLiveEnd tag body s
  | 0x38 => takeSetItems tag body s
  | 0x39 => takePlay tag body s
  | 0x3A => takeStop tag body s
  | 0x3B => takeGetPlayer tag body s
  | 0x3F => takeVoiceBlock body s
  | 0x40 => takeUploadBegin tag body s
  | 0x41 => takeClipData tag body s
  | 0x42 => takeUploadEnd tag body s
  | 0x43 => takeUploadAbort tag body s
  | 0x44 => takeEraseSlot tag body s
  | 0x45 => takeGetDirectory tag body s
  | 0x46 => takeSetProtection tag body s
  | _ => s.modClp fun c => c.refuse kind tag .unknownKind

/-! ### The receiver (R174) -/

/-- The receiver hunts again. -/
def State.hunt (s : State) : State := s.modClp fun c => { c with receiver := .hunting }

/-- A frame is discarded with a link error. -/
def State.discard (s : State) (e : LinkError) : State := s.hunt.modClp fun c => c.linkError e

/-- The body length that the first two octets after the sync octet give. -/
def frameLength (os : List Octet) : Nat := u16 os 0

/-- Whether the two CRC octets at the end of a whole frame match the CRC over the octets before them. -/
def frameCrcOk (os : List Octet) : Bool :=
  let n := frameLength os + 4
  crc16 (os.take n) == octetAt os n ++ octetAt os (n + 1)

/-- A frame that is in whole: the CRC decides between delivery and discarding. -/
def State.wholeFrame (s : State) (os : List Octet) : State :=
  if frameCrcOk os then s.hunt.deliver (octetAt os 2) (octetAt os 3) ((os.drop 4).take (frameLength os))
  else s.discard .crc

/-- An octet arrives on the control link (R174). -/
def State.octetArrives (s : State) (o : Octet) : State :=
  match s.clp.receiver with
  | .hunting => if o = 0xC3#8 then s.modClp fun c => { c with receiver := .inFrame [] } else s
  | .inFrame os =>
    let all := os ++ [o]
    if all.length < 2 then s.modClp fun c => { c with receiver := .inFrame all }
    else if 600 < frameLength all then s.discard .overlength
    else if all.length < frameLength all + 6 then s.modClp fun c => { c with receiver := .inFrame all }
    else s.wholeFrame all

/-- More than 1 ms passes between two octets of a frame (R174). -/
def State.octetTimeout (s : State) : State :=
  match s.clp.receiver with
  | .hunting => s
  | .inFrame _ => s.discard .timeout

end Sys2Proof.Machine
end

