-- ==== Sys2Proof/Machine/Run.lean ====
section
/-! DEFINITION. How a command runs: it is one indivisible step of the part, after which the flash port arbiter and the transmit
arbiter take what they find. A part without power, or held in RESET, takes no command but those of its supply and RESET (log
entry 3). -/

namespace Sys2Proof.Machine

/-- The answer of every command: a next state. -/
abbrev Answered := Host.Outcome State Fault Refusal

/-- A command of the running part: its effect, then the two arbiters. Without power or in RESET it has no effect. -/
def State.whenOn (s : State) (f : State → State) : Answered := .next (if s.power = .on then (f s).settle else s)

/-- A request or stream frame that the receiver delivers whole: the receiver hunts again, and the frame is handled. -/
def State.frameIn (s : State) (f : State → State) : Answered := s.whenOn fun s => f s.hunt

end Sys2Proof.Machine
end

