-- ==== Sys2Proof/Machine/FlashPort.lean ====
section
/-! DEFINITION. The commands of the flash port: the start-up read, completions and failures. -/

namespace Sys2Proof.Machine

/-- SETTINGS_READ_COMPLETE (R161, R171, R26). -/
def execSettingsReadComplete (s : State) : Answered := s.whenOn State.settingsRead

/-- HEADER_READ_COMPLETE (R161, R179, R53). -/
def execHeaderReadComplete (s : State) : Answered := s.whenOn State.headerRead

/-- PLAYER_READ_COMPLETE (R153). -/
def execPlayerReadComplete (s : State) : Answered := s.whenOn State.playerReadCompletes

/-- VERIFY_READ_COMPLETE (R162). -/
def execVerifyReadComplete (s : State) : Answered := s.whenOn State.verifyReadCompletes

/-- PROGRAM_COMPLETE (R166 to R168, R171). -/
def execProgramComplete (s : State) : Answered := s.whenOn State.programCompletes

/-- ERASE_COMPLETE (R166, R170, R171). -/
def execEraseComplete (s : State) : Answered := s.whenOn State.eraseCompletes

/-- FLASH_OP_FAIL (R165). -/
def execFlashOpFail (s : State) : Answered := s.whenOn State.opFails

/-- FLASH_OP_TIMEOUT (R165). -/
def execFlashOpTimeout (s : State) : Answered := s.whenOn State.opTimesOut

end Sys2Proof.Machine
end

