-- ==== Sys2Proof/Machine/Requests.lean ====
section
/-! DEFINITION. The commands of the control link: octets, frame events, the 32 requests and the stream block (R174 to R183). -/

namespace Sys2Proof.Machine

/-- OCTET_RECEIVED (R174): the receiver, and a frame that the octet completes (R175). -/
def execOctetReceived (octet : Octet) (s : State) : Answered := s.whenOn fun s => s.octetArrives octet

/-- FRAME_OCTET_TIMEOUT (R174). -/
def execFrameOctetTimeout (s : State) : Answered := s.whenOn State.octetTimeout

/-- OVERLENGTH_FRAME (R174): the length octets of a frame give more than 600. -/
def execOverlengthFrame (length : BitVec 16) (s : State) : Answered :=
  s.whenOn fun s => if 600 < length.toNat then s.discard .overlength else s

/-- CRC_ERROR_FRAME (R174): the octets of a whole frame, from the first length octet on, whose CRC does not match. -/
def execCrcErrorFrame (octets : List Octet) (s : State) : Answered :=
  s.whenOn fun s =>
    if frameLength octets ≤ 600 ∧ octets.length = frameLength octets + 6 ∧ frameCrcOk octets = false then s.discard .crc else s

/-- UNKNOWN_KIND_FRAME (R175): a delivered frame; a kind that names a request is handled as that request. -/
def execUnknownKindFrame (kind tag : Octet) (body : List Octet) (s : State) : Answered :=
  s.frameIn fun s => s.deliver kind tag body

/-- FRAME_SENT (R177, R178). -/
def execFrameSent (s : State) : Answered := s.whenOn State.frameSent

/-- VOICE_BLOCK (R139, R140, R175): the tag is ignored. -/
def execVoiceBlock (_ : Octet) (body : List Octet) (s : State) : Answered := s.frameIn fun s => takeVoiceBlock body s

/-- IDENTIFY (R180). -/
def execIdentify (tag : Octet) (body : List Octet) (s : State) : Answered := s.frameIn fun s => takeIdentify tag body s

/-- STATUS (R180). -/
def execStatus (tag : Octet) (body : List Octet) (s : State) : Answered := s.frameIn fun s => takeStatus tag body s

/-- RESTART (R181). -/
def execRestart (tag : Octet) (body : List Octet) (s : State) : Answered := s.frameIn fun s => takeRestart tag body s

/-- SAVE_SETTINGS (R171). -/
def execSaveSettings (tag : Octet) (body : List Octet) (s : State) : Answered := s.frameIn fun s => takeSaveSettings tag body s

/-- SET_LOOP (R22, R23). -/
def execSetLoop (tag : Octet) (body : List Octet) (s : State) : Answered := s.frameIn fun s => takeSetLoop tag body s

/-- GET_RU (R24). -/
def execGetRu (tag : Octet) (body : List Octet) (s : State) : Answered := s.frameIn fun s => takeGetRu tag body s

/-- SET_ZONE (R40). -/
def execSetZone (tag : Octet) (body : List Octet) (s : State) : Answered := s.frameIn fun s => takeSetZone tag body s

/-- SET_SPLIT (R43). -/
def execSetSplit (tag : Octet) (body : List Octet) (s : State) : Answered := s.frameIn fun s => takeSetSplit tag body s

/-- GET_ZONE (R45). -/
def execGetZone (tag : Octet) (body : List Octet) (s : State) : Answered := s.frameIn fun s => takeGetZone tag body s

/-- DECLARE_INCIDENT (R47). -/
def execDeclareIncident (tag : Octet) (body : List Octet) (s : State) : Answered := s.frameIn fun s => takeDeclare tag body s

/-- CLEAR_INCIDENT (R50). -/
def execClearIncident (tag : Octet) (body : List Octet) (s : State) : Answered := s.frameIn fun s => takeClear tag body s

/-- SET_EVACUATION_PLAN (R56). -/
def execSetEvacuationPlan (tag : Octet) (body : List Octet) (s : State) : Answered := s.frameIn fun s => takeSetEvacuationPlan tag body s

/-- SET_RU_POWER (R60). -/
def execSetRuPower (tag : Octet) (body : List Octet) (s : State) : Answered := s.frameIn fun s => takeSetRuPower tag body s

/-- SET_PLAN (R63). -/
def execSetPlan (tag : Octet) (body : List Octet) (s : State) : Answered := s.frameIn fun s => takeSetPlan tag body s

/-- GET_BUDGET (R77). -/
def execGetBudget (tag : Octet) (body : List Octet) (s : State) : Answered := s.frameIn fun s => takeGetBudget tag body s

/-- SET_CHANNEL (R82, R83). -/
def execSetChannel (tag : Octet) (body : List Octet) (s : State) : Answered := s.frameIn fun s => takeSetChannel tag body s

/-- GET_CHANNEL (R101). -/
def execGetChannel (tag : Octet) (body : List Octet) (s : State) : Answered := s.frameIn fun s => takeGetChannel tag body s

/-- SET_BAND (R115, R116). -/
def execSetBand (tag : Octet) (body : List Octet) (s : State) : Answered := s.frameIn fun s => takeSetBand tag body s

/-- GET_BAND (R127). -/
def execGetBand (tag : Octet) (body : List Octet) (s : State) : Answered := s.frameIn fun s => takeGetBand tag body s

/-- LIVE_START (R138). -/
def execLiveStart (tag : Octet) (body : List Octet) (s : State) : Answered := s.frameIn fun s => takeLiveStart tag body s

/-- LIVE_END (R142). -/
def execLiveEnd (tag : Octet) (body : List Octet) (s : State) : Answered := s.frameIn fun s => takeLiveEnd tag body s

/-- SET_ITEMS (R147). -/
def execSetItems (tag : Octet) (body : List Octet) (s : State) : Answered := s.frameIn fun s => takeSetItems tag body s

/-- PLAY (R149). -/
def execPlay (tag : Octet) (body : List Octet) (s : State) : Answered := s.frameIn fun s => takePlay tag body s

/-- STOP (R155). -/
def execStop (tag : Octet) (body : List Octet) (s : State) : Answered := s.frameIn fun s => takeStop tag body s

/-- GET_PLAYER (R158). -/
def execGetPlayer (tag : Octet) (body : List Octet) (s : State) : Answered := s.frameIn fun s => takeGetPlayer tag body s

/-- UPLOAD_BEGIN (R166). -/
def execUploadBegin (tag : Octet) (body : List Octet) (s : State) : Answered := s.frameIn fun s => takeUploadBegin tag body s

/-- CLIP_DATA (R167). -/
def execClipData (tag : Octet) (body : List Octet) (s : State) : Answered := s.frameIn fun s => takeClipData tag body s

/-- UPLOAD_END (R168). -/
def execUploadEnd (tag : Octet) (body : List Octet) (s : State) : Answered := s.frameIn fun s => takeUploadEnd tag body s

/-- UPLOAD_ABORT (R169). -/
def execUploadAbort (tag : Octet) (body : List Octet) (s : State) : Answered := s.frameIn fun s => takeUploadAbort tag body s

/-- ERASE_SLOT (R170). -/
def execEraseSlot (tag : Octet) (body : List Octet) (s : State) : Answered := s.frameIn fun s => takeEraseSlot tag body s

/-- GET_DIRECTORY (R172). -/
def execGetDirectory (tag : Octet) (body : List Octet) (s : State) : Answered := s.frameIn fun s => takeGetDirectory tag body s

/-- SET_PROTECTION (R163). -/
def execSetProtection (tag : Octet) (body : List Octet) (s : State) : Answered := s.frameIn fun s => takeSetProtection tag body s

end Sys2Proof.Machine
end

