-- ==== Sys2Proof/Machine/Supply.lean ====
section
/-! DEFINITION. The commands of the supply, of RESET and of the portal shelf. -/

namespace Sys2Proof.Machine

/-- POWER_ON (R26, R173, R182). -/
def execPowerOn (rate : LineRate) (s : State) : Answered := .next (s.powerUp rate)

/-- RESET_ASSERT (R182, R26, R54, R84, R117, R137, R161, R171). -/
def execResetAssert (s : State) : Answered := .next s.holdReset

/-- RESET_RELEASE (R26, R173, R182). -/
def execResetRelease (rate : LineRate) (s : State) : Answered := .next (s.releaseReset rate)

/-- POWER_LOSS (R161, R171). -/
def execPowerLoss (s : State) : Answered := .next s.powerDown

/-- DL_ON (R84, R86 to R88, R92, R99): the level at the portal shelf, and the relay's event once it has begun. -/
def execDlOn (c : Fin 8) (s : State) : Answered :=
  let s := s.setCarrierPin c true
  .next (if s.begun then (s.takeDlOn c).settle else s)

/-- DL_OFF (R84, R86 to R88, R92, R99). -/
def execDlOff (c : Fin 8) (s : State) : Answered :=
  let s := s.setCarrierPin c false
  .next (if s.begun then (s.takeDlOff c).settle else s)

/-- FEED_UP (R117, R122, R67). -/
def execFeedUp (b : Fin 4) (s : State) : Answered :=
  let s := s.setFeedPin b true
  .next (if s.begun then (s.feedComesUp b).settle else s)

/-- FEED_DOWN (R117, R67). -/
def execFeedDown (b : Fin 4) (s : State) : Answered :=
  let s := s.setFeedPin b false
  .next (if s.begun then (s.feedGoesDown b).settle else s)

end Sys2Proof.Machine
end

