-- ==== Sys2Proof/Machine/TimeBase.lean ====
section
/-! DEFINITION. The commands of the part's time base: the frame close with its single events, epoch and audio block boundaries. -/

namespace Sys2Proof.Machine

/-- LOOP_FRAME_CLOSE (R6, R8 to R20, R51, R85 to R96, R104 to R111, R120). -/
def execLoopFrameClose (f : FrameInput) (s : State) : Answered := s.whenOn fun s => s.frameClose f

/-- POSITION_TURNS_ANSWERING (R8 to R10, R16). -/
def execPositionTurnsAnswering (p : Fin 24) (e : ChainEnd) (s : State) : Answered := s.whenOn fun s => s.positionTurns p e true

/-- POSITION_TURNS_SILENT (R8, R9, R11, R13, R15, R16). -/
def execPositionTurnsSilent (p : Fin 24) (e : ChainEnd) (s : State) : Answered := s.whenOn fun s => s.positionTurns p e false

/-- IDENTITY_READ_COMPLETE (R12, R14, R33). -/
def execIdentityReadComplete (p : Fin 24) (part : Octet) (s : State) : Answered := s.whenOn fun s => s.identityArrives p part

/-- HEAL_TIMER_EXPIRY (R16). -/
def execHealTimerExpiry (p : Fin 24) (s : State) : Answered := s.whenOn fun s => s.healTimer p

/-- ALARM_TIMER_EXPIRY (R52, R53). -/
def execAlarmTimerExpiry (s : State) : Answered := s.whenOn State.alarmTimer

/-- TURNAROUND_EXPIRY (R88, R89). -/
def execTurnaroundExpiry (c : Fin 8) (s : State) : Answered := s.whenOn fun s => s.turnTimer c

/-- HANG_EXPIRY (R91, R93). -/
def execHangExpiry (c : Fin 8) (s : State) : Answered := s.whenOn fun s => s.hangTimer c

/-- TALK_TIMEOUT (R94, R108). -/
def execTalkTimeout (c : Fin 8) (s : State) : Answered := s.whenOn fun s => s.talkTimer c

/-- GATE_HOLD_EXPIRY (R120, R121). -/
def execGateHoldExpiry (b : Fin 4) (p : Fin 24) (s : State) : Answered := s.whenOn fun s => s.gateTimer b p

/-- EPOCH_BOUNDARY (R17, R18, R29 to R31): where one is due. -/
def execEpochBoundary (s : State) : Answered := s.whenOn fun s => if s.epochDue then s.epochBoundary else s

/-- AUDIO_BLOCK_BOUNDARY (R42, R112, R132, R133, R136, R141, R151): where one is due. -/
def execAudioBlockBoundary (s : State) : Answered := s.whenOn fun s => if s.blockDue then s.blockBoundary else s

/-- LIVE_STARVE_LIMIT (R141). -/
def execLiveStarveLimit (s : State) : Answered := s.whenOn State.starveLimit

end Sys2Proof.Machine
end

