-- ==== Sys2Proof/Machine/Dispatch.lean ====
section
/-! DEFINITION. The dispatch: one arm per command, each a call of its meaning. -/

namespace Sys2Proof.Machine

def exec (i : Instr) (s : State) : Host.Outcome State Fault Refusal :=
  match i with
  | .powerOn rate => Sys2Proof.Machine.execPowerOn rate s
  | .resetAssert => Sys2Proof.Machine.execResetAssert s
  | .resetRelease rate => Sys2Proof.Machine.execResetRelease rate s
  | .settingsReadComplete => Sys2Proof.Machine.execSettingsReadComplete s
  | .headerReadComplete => Sys2Proof.Machine.execHeaderReadComplete s
  | .loopFrameClose f => Sys2Proof.Machine.execLoopFrameClose f s
  | .positionTurnsAnswering p e => Sys2Proof.Machine.execPositionTurnsAnswering p e s
  | .positionTurnsSilent p e => Sys2Proof.Machine.execPositionTurnsSilent p e s
  | .identityReadComplete p part => Sys2Proof.Machine.execIdentityReadComplete p part s
  | .healTimerExpiry p => Sys2Proof.Machine.execHealTimerExpiry p s
  | .alarmTimerExpiry => Sys2Proof.Machine.execAlarmTimerExpiry s
  | .turnaroundExpiry c => Sys2Proof.Machine.execTurnaroundExpiry c s
  | .hangExpiry c => Sys2Proof.Machine.execHangExpiry c s
  | .talkTimeout c => Sys2Proof.Machine.execTalkTimeout c s
  | .dlOn c => Sys2Proof.Machine.execDlOn c s
  | .dlOff c => Sys2Proof.Machine.execDlOff c s
  | .gateHoldExpiry b p => Sys2Proof.Machine.execGateHoldExpiry b p s
  | .feedUp b => Sys2Proof.Machine.execFeedUp b s
  | .feedDown b => Sys2Proof.Machine.execFeedDown b s
  | .epochBoundary => Sys2Proof.Machine.execEpochBoundary s
  | .audioBlockBoundary => Sys2Proof.Machine.execAudioBlockBoundary s
  | .liveStarveLimit => Sys2Proof.Machine.execLiveStarveLimit s
  | .playerReadComplete => Sys2Proof.Machine.execPlayerReadComplete s
  | .verifyReadComplete => Sys2Proof.Machine.execVerifyReadComplete s
  | .programComplete => Sys2Proof.Machine.execProgramComplete s
  | .eraseComplete => Sys2Proof.Machine.execEraseComplete s
  | .flashOpFail => Sys2Proof.Machine.execFlashOpFail s
  | .flashOpTimeout => Sys2Proof.Machine.execFlashOpTimeout s
  | .frameOctetTimeout => Sys2Proof.Machine.execFrameOctetTimeout s
  | .overlengthFrame length => Sys2Proof.Machine.execOverlengthFrame length s
  | .crcErrorFrame octets => Sys2Proof.Machine.execCrcErrorFrame octets s
  | .unknownKindFrame kind tag body => Sys2Proof.Machine.execUnknownKindFrame kind tag body s
  | .frameSent => Sys2Proof.Machine.execFrameSent s
  | .identify tag body => Sys2Proof.Machine.execIdentify tag body s
  | .status tag body => Sys2Proof.Machine.execStatus tag body s
  | .restart tag body => Sys2Proof.Machine.execRestart tag body s
  | .saveSettings tag body => Sys2Proof.Machine.execSaveSettings tag body s
  | .setLoop tag body => Sys2Proof.Machine.execSetLoop tag body s
  | .getRu tag body => Sys2Proof.Machine.execGetRu tag body s
  | .setZone tag body => Sys2Proof.Machine.execSetZone tag body s
  | .setSplit tag body => Sys2Proof.Machine.execSetSplit tag body s
  | .getZone tag body => Sys2Proof.Machine.execGetZone tag body s
  | .declareIncident tag body => Sys2Proof.Machine.execDeclareIncident tag body s
  | .clearIncident tag body => Sys2Proof.Machine.execClearIncident tag body s
  | .setEvacuationPlan tag body => Sys2Proof.Machine.execSetEvacuationPlan tag body s
  | .setRuPower tag body => Sys2Proof.Machine.execSetRuPower tag body s
  | .setPlan tag body => Sys2Proof.Machine.execSetPlan tag body s
  | .getBudget tag body => Sys2Proof.Machine.execGetBudget tag body s
  | .setChannel tag body => Sys2Proof.Machine.execSetChannel tag body s
  | .getChannel tag body => Sys2Proof.Machine.execGetChannel tag body s
  | .setBand tag body => Sys2Proof.Machine.execSetBand tag body s
  | .getBand tag body => Sys2Proof.Machine.execGetBand tag body s
  | .liveStart tag body => Sys2Proof.Machine.execLiveStart tag body s
  | .liveEnd tag body => Sys2Proof.Machine.execLiveEnd tag body s
  | .voiceBlock tag body => Sys2Proof.Machine.execVoiceBlock tag body s
  | .setItems tag body => Sys2Proof.Machine.execSetItems tag body s
  | .play tag body => Sys2Proof.Machine.execPlay tag body s
  | .stop tag body => Sys2Proof.Machine.execStop tag body s
  | .getPlayer tag body => Sys2Proof.Machine.execGetPlayer tag body s
  | .uploadBegin tag body => Sys2Proof.Machine.execUploadBegin tag body s
  | .clipData tag body => Sys2Proof.Machine.execClipData tag body s
  | .uploadEnd tag body => Sys2Proof.Machine.execUploadEnd tag body s
  | .uploadAbort tag body => Sys2Proof.Machine.execUploadAbort tag body s
  | .eraseSlot tag body => Sys2Proof.Machine.execEraseSlot tag body s
  | .getDirectory tag body => Sys2Proof.Machine.execGetDirectory tag body s
  | .setProtection tag body => Sys2Proof.Machine.execSetProtection tag body s
  | .octetReceived octet => Sys2Proof.Machine.execOctetReceived octet s
  | .powerLoss => Sys2Proof.Machine.execPowerLoss s

end Sys2Proof.Machine
end

