-- ==== Sys2Proof/Safety.lean ====
section
/-! DEFINITION. The terms in which claims are stated: which requests the part takes, what a reply does to the control link, the
tables of single rules written down once more from the manual, and the laws that every step keeps. -/

namespace Sys2Proof.Machine

/-! ### Requests that are accepted (R175) and what becomes of their replies (R177) -/

/-- Checks 3, 6 and 7 of R175 pass: the tag is not 0, no outstanding request holds it, and a slot is free. -/
abbrev State.hasSlotFor (s : State) (tag : Octet) : Prop :=
  s.power = .on ∧ tag ≠ 0#8 ∧ (∀ x ∈ s.clp.slots, x.tag ≠ tag) ∧ s.clp.slots.length < 4

/-- As `hasSlotFor`, and check 5 passes for every kind: the part is RUNNING. -/
abbrev State.accepts (s : State) (tag : Octet) : Prop := s.hasSlotFor tag ∧ s.clp.part = .running

/-- The port after it has taken a request into a slot; the receiver hunts for the next frame. -/
def Clp.withSlot (c : Clp) (kind tag : Octet) (phase : SlotPhase) : Clp :=
  { c with receiver := .hunting, slots := c.slots ++ [⟨kind, tag, phase⟩] }

/-- The port after it has taken a request and the request's finished reply, which joins the reply queue at its end. -/
def Clp.withReply (c : Clp) (kind tag : Octet) (st : Status) (fields : List Octet) : Clp :=
  { c.withSlot kind tag .queued with replies := c.replies ++ [⟨kind + 0x80#8, tag, replyBody st fields, false⟩] }

/-- An idle line with replies waiting begins to send the oldest (R177). -/
def Clp.lineTakes (c : Clp) : Clp :=
  match c.sending, c.replies with
  | none, r :: rest => c.sendReply r rest
  | none, [] => c
  | some _, _ => c

/-- The state after a request whose whole effect but for its reply is `u`: its reply has been handed to the port, and the flash port
arbiter has taken what it finds. -/
def State.replied (u : State) (kind tag : Octet) (st : Status) (fields : List Octet) : State :=
  { u.arbitrate with clp := (u.clp.withReply kind tag st fields).lineTakes }

/-- The state after a request whose effect is `u` and whose reply waits for work that takes time (R176). -/
def State.outstanding (u : State) (kind tag : Octet) : State := { u with clp := u.clp.withSlot kind tag .waiting }.settle

/-- A refusal reply (R175, R177) to a frame of a kind and tag. -/
def State.refused (s : State) (kind tag : Octet) (st : Status) : State :=
  { s with clp := ({ s.clp with receiver := .hunting } : Clp).refuse kind tag st }.settle

/-- The request or stream message that a delivered frame of a kind stands for (R183). -/
def commandOf (kind tag : Octet) (body : List Octet) : Instr :=
  match kind.toNat with
  | 0x01 => .identify tag body
  | 0x02 => .status tag body
  | 0x03 => .restart tag body
  | 0x04 => .saveSettings tag body
  | 0x10 => .setLoop tag body
  | 0x11 => .getRu tag body
  | 0x18 => .setZone tag body
  | 0x19 => .setSplit tag body
  | 0x1A => .getZone tag body
  | 0x1B => .declareIncident tag body
  | 0x1C => .clearIncident tag body
  | 0x1D => .setEvacuationPlan tag body
  | 0x20 => .setRuPower tag body
  | 0x21 => .setPlan tag body
  | 0x22 => .getBudget tag body
  | 0x28 => .setChannel tag body
  | 0x29 => .getChannel tag body
  | 0x2C => .setBand tag body
  | 0x2D => .getBand tag body
  | 0x30 => .liveStart tag body
  | 0x31 => .liveEnd tag body
  | 0x38 => .setItems tag body
  | 0x39 => .play tag body
  | 0x3A => .stop tag body
  | 0x3B => .getPlayer tag body
  | 0x3F => .voiceBlock tag body
  | 0x40 => .uploadBegin tag body
  | 0x41 => .clipData tag body
  | 0x42 => .uploadEnd tag body
  | 0x43 => .uploadAbort tag body
  | 0x44 => .eraseSlot tag body
  | 0x45 => .getDirectory tag body
  | 0x46 => .setProtection tag body
  | _ => .unknownKindFrame kind tag body

/-- The replies that outstanding requests get, one after another, each with its status alone. -/
def Clp.statusReplies (c : Clp) (l : List (Octet × Status)) : List Reply :=
  l.filterMap fun x => (c.slots.find? (Slot.waits x.1)).map fun y => ⟨y.kind + 0x80#8, x.1, [x.2.code], false⟩

/-- The tags of the replies that an upload owes, in the order in which its end answers them (R168, R169). -/
def Upload.owes (u : Upload) : List Octet := u.beginTag.toList ++ u.waiting.map (·.tag) ++ u.endTag.toList

/-- The replies with which an upload ends whose UPLOAD_END has failed with a status (R168): UPLOAD_BEGIN ABORTED, the others with
the status. -/
def Upload.endReplies (u : Upload) (c : Clp) (st : Status) : List Reply :=
  c.statusReplies
    (u.beginTag.toList.map (·, .aborted) ++ u.waiting.map (fun w => (w.tag, st)) ++ u.endTag.toList.map (·, st))

/-- The request kinds with one fixed body length (R183), each with that length. -/
def fixedLengths : List (Octet × Nat) :=
  [(0x01, 0), (0x02, 0), (0x03, 0), (0x04, 0), (0x10, 123), (0x11, 1), (0x18, 5), (0x19, 1), (0x1A, 1), (0x1B, 4), (0x1C, 0),
    (0x1D, 3), (0x20, 21), (0x21, 15), (0x22, 1), (0x28, 18), (0x29, 1), (0x2C, 7), (0x2D, 1), (0x30, 4), (0x31, 1)] ++
  [(0x39, 7), (0x3A, 2), (0x3B, 3), (0x40, 19), (0x41, 130), (0x42, 4), (0x43, 0), (0x44, 1), (0x45, 2), (0x46, 1)]

/-- The kinds of the requests (R183). -/
def requestKinds : List Octet := fixedLengths.map (·.1) ++ [0x38]

/-- A body has the length of its request kind (R183): SET_ITEMS the one that its count gives, every other kind its own. -/
abbrev BodyFits (kind : Octet) (body : List Octet) : Prop :=
  if kind = 0x38 then body.length = 2 + 6 * u8 body 1 else (kind, body.length) ∈ fixedLengths

/-- The commands of a list run one after another; `none` if one of them stops. -/
def runAll : List Instr → State → Option State
  | [], s => some s
  | c :: l, s =>
    match exec c s with
    | .next t => runAll l t
    | .fault _ => none
    | .refused _ => none

/-! ### The part as power-on and RESET leave it (R7, R28, R46, R72, R81, R103, R117, R118, R130, R137, R148, R160, R182) -/

/-- The Loop Controller and the alignment unit at their power-on values, but for what the settings give. -/
def State.loopAtPowerOn (t : State) : Prop :=
  (∀ r ∈ t.lpc.rus,
    r.state = .absent ∧ r.learned = none ∧ r.onA = EndView.initial ∧ r.onB = EndView.initial ∧ r.serving = none ∧
      r.heal = none ∧ r.swings = 0 ∧ r.thermal = .normal ∧ r.aligned = false ∧ r.report = Report.clear ∧ r.hold = none) ∧
    t.lpc.rA = 0 ∧ t.lpc.rB = 0 ∧ t.sau.target = 0 ∧ t.sau.applied = 0 ∧ t.sau.continuity = false

/-- The services at their power-on values, but for what the settings give. -/
def State.servicesAtPowerOn (t : State) : Prop :=
  (∀ z ∈ t.zmg.zones, z.mode = .normal) ∧ t.zmg.incident = 0#24 ∧ t.zmg.whole = false ∧ t.zmg.latch = false ∧
    t.zmg.alarmTimer = none ∧ t.zmg.changes = 0 ∧
    (∀ a ∈ t.pbe.allocs, a.status = .off ∧ a.carriers = [] ∧ a.bank = none ∧ a.plim = none) ∧
    (∀ ch ∈ t.channels, ch = Channel.initial ch.cfg) ∧
    (∀ b ∈ t.bands,
      b.inUse = b.cfg.threshold ∧ b.feed = false ∧ b.displacements = 0 ∧ ∀ g ∈ b.gates, g = ⟨.disabled, 0, none⟩) ∧
    t.bim.activation = [] ∧ (∀ w ∈ t.bim.winners, w = none) ∧ t.lvq = Lvq.initial ∧ (∀ x ∈ t.apl.players, x = Player.initial)

/-- The Clip Store Controller at power-on: every entry EMPTY, the settings read begun. -/
def State.storeAtPowerOn (t : State) : Prop :=
  (∀ e ∈ t.csc.directory, e.state = .empty ∧ e.verified = false) ∧ t.csc.level = 0 ∧ t.csc.copyValid = false ∧
    t.csc.absent = false ∧ t.csc.port = some ⟨.readSettings, .startup, 0⟩ ∧ t.csc.order = [] ∧ t.csc.upload = none ∧
    t.csc.erase = none ∧ t.csc.settings = none ∧ t.csc.verify = none

/-- The whole part as power-on and RESET leave it, with nothing at its outputs. -/
def State.atPowerOn (t : State) (rate : LineRate) : Prop :=
  t.clp = ⟨rate, .starting, .hunting, [], [], none, [], Marks.clear, ⟨none, 0, 0, 0, 0⟩, 0, false⟩ ∧
    t.now = 0 ∧ t.loopOn = false ∧ t.out = Outputs.silent ∧ t.loopAtPowerOn ∧ t.servicesAtPowerOn ∧ t.storeAtPowerOn

/-! ### Tables of single rules, from the manual -/

/-- The answer state and run count after one frame (R8). -/
def answerTable (answering : Bool) (run : Nat) (present : Bool) : Bool × Nat :=
  match answering, present with
  | false, true => if 32 ≤ run + 1 then (true, 0) else (false, run + 1)
  | false, false => (false, 0)
  | true, false => if 8 ≤ run + 1 then (false, 0) else (true, run + 1)
  | true, true => (true, 0)

/-- The stored delay after the survey's estimate for one end (R17, R18). -/
def surveyTable (stored : Option Nat) (echo : Option Echo) : Option Nat :=
  match echo with
  | none => stored
  | some x =>
    let d := min ((x.rtt - x.trn + 1) / 2) 32767
    match stored with
    | none => some d
    | some o => if d ≤ o + 2 ∧ o ≤ d + 2 then some o else some d

/-- The hold and the alignment flag of a unit at an epoch boundary (R31), from T_applied and its serving-end delay. -/
def holdTable (active : Bool) (applied : Nat) (delay : Option Nat) : Option Nat × Bool :=
  if active then
    match delay with
    | none => (some 0, false)
    | some d =>
      if applied < d then (some 0, false)
      else if 16383 < applied - d then (some 16383, false)
      else (some (applied - d), true)
  else (none, false)

/-- The set D of an epoch boundary (R29): the serving-end delays that are present, of the ACTIVE units. -/
def State.delaysInHand (s : State) : List Nat :=
  (List.range s.n).filterMap fun i =>
    if (s.ru i).state = .active then (s.ru i).serving.bind fun e => ((s.ru i).view e).delay else none

/-- The preferred end that a SET_LOOP asks for at index `i` of a chain of `n`, DEFAULT resolved (R7, R22). -/
def endAsked (body : List Octet) (n i : Nat) : ChainEnd :=
  if u8 body (7 + 5 * i) = 0 then .a else if u8 body (7 + 5 * i) = 1 then .b else if i < (n + 1) / 2 then .a else .b

/-- A SET_LOOP that repeats the stored chain length, identities and preferred ends (R23). -/
def State.loopRepeats (s : State) (body : List Octet) : Prop :=
  u8 body 0 = s.n ∧
    ∀ i ∈ List.range s.n, (s.ru i).configured = w32 body (3 + 5 * i) ∧ (s.ru i).preferred = endAsked body s.n i

/-- The answer from which the report of a JOINING or ACTIVE unit is captured (R19): the serving end's, the read end's where there is
none, and else the other end's. -/
def RuEntry.reportAnswer (r : RuEntry) (f : FrameInput) (i : Nat) : Option Answer :=
  let e := r.serving.getD r.readEnd
  if (answerOf f e i).isSome then answerOf f e i else answerOf f e.other i

/-- A source change of a channel under the rate rule (R112), its mark apart. -/
def Channel.changeSource (ch : Channel) (src : Option Nat) : Channel :=
  if src = ch.source then ch
  else if ch.blockFlag then { ch with source := src, deferred := true }
  else { ch with source := src, blockFlag := true }

/-- The excess of the class walk before class `c`, P_lim apart (R69): the floors of the classes walked, the demands of the rest. -/
def walkTotal (cs : List Carrier) (floors : List Nat) (c : Nat) : Nat :=
  ([1, 2, 3, 4].map fun d => if c < d then scaledDemand cs d (floors.getD (d - 1) 0) else demand cs d).sum

/-- Class `c` can cover the excess that the class walk finds before it (R69). -/
def Covers (cs : List Carrier) (floors : List Nat) (plim c : Nat) : Prop :=
  demand cs c ≠ 0 ∧ walkTotal cs floors c - plim ≤ demand cs c - scaledDemand cs c (floors.getD (c - 1) 0)

/-- The scale of a class that is cut to its floor, or skipped for want of demand (R69). -/
def floorScale (cs : List Carrier) (floors : List Nat) (d : Nat) : Nat :=
  if demand cs d = 0 then 256 else floors.getD (d - 1) 0

/-- The item that the entry `j` of a SET_ITEMS asks for, a pause clamped (R146, R147, R183). -/
def itemAsked (body : List Octet) (j : Nat) : Item :=
  let at0 := 2 + 6 * j
  ⟨if u8 body at0 = 0 then .clip (u8 body (at0 + 2))
    else if u8 body at0 = 1 then .pause (max 1 (min (u16 body (at0 + 2)) 1500))
    else .loop (u8 body (at0 + 2)) (u8 body (at0 + 3)),
    if u8 body (at0 + 1) < 96 then some (u8 body (at0 + 1)) else none⟩

/-- The entry `j` of a SET_ITEMS is within its ranges (R147 step 2). -/
def ItemValid (body : List Octet) (j : Nat) : Prop :=
  let at0 := 2 + 6 * j
  u8 body at0 ≤ 2 ∧ (u8 body (at0 + 1) < 96 ∨ u8 body (at0 + 1) = 255) ∧ (u8 body at0 = 0 → u8 body (at0 + 2) ≤ 62) ∧
    (u8 body at0 = 2 → u8 body (at0 + 2) ≤ 95)

/-- A channel that leaves UP for a state (R93). -/
def Channel.leavesUp (ch : Channel) (next : ChanState) : Channel :=
  { ch.changeSource none with state := next, hangT := none, talkT := none, marker := false, dlPending := false }

/-- An enabled channel after DL_ON (R86, R87, R88, R92). -/
def Channel.afterDlOn (ch : Channel) : Channel :=
  match ch.state with
  | .idle => { ch with carrier := true, state := .down }
  | .down => { ch with carrier := true }
  | .turn => { ch with carrier := true, state := .down, turnT := none }
  | .up =>
    if ch.cfg.direction = .dlFirst ∧ ch.marker = false then
      { ch.leavesUp .down with carrier := true, preempts := min (ch.preempts + 1) 65535 }
    else { ch with carrier := true, dlPending := true }

/-- An enabled channel after DL_OFF, taken inside the loop frame that follows boundary `now` (R87, R92). -/
def Channel.afterDlOff (ch : Channel) (now : Nat) : Channel :=
  match ch.state with
  | .idle => { ch with carrier := false }
  | .down =>
    if ch.cfg.turnaround = 0 then { ch with carrier := false, state := .idle }
    else { ch with carrier := false, state := .turn, turnT := some (now + 4 * ch.cfg.turnaround + 1) }
  | .turn => { ch with carrier := false }
  | .up => { ch with carrier := false, dlPending := false }

/-- A candidate that is best among candidates (R107): none has a higher Q, and none of equal Q a lower position. -/
def Candidate.best (b : Candidate) (cs : List Candidate) : Prop :=
  b ∈ cs ∧ ∀ x ∈ cs, x.q < b.q ∨ (x.q = b.q ∧ b.idx ≤ x.idx)

/-- What the voter selects (R107). -/
def Selects (cs : List Candidate) (hysteresis : Nat) (current result : Option Nat) : Prop :=
  match current with
  | none => (cs = [] ∧ result = none) ∨ ∃ b ∈ cs, b.best cs ∧ result = some b.idx
  | some i =>
    if cs.any fun x => x.idx == i then
      ∃ cur ∈ cs, cur.idx = i ∧
        let others := cs.filter fun x => x.idx != i
        (others = [] ∧ result = some i) ∨
          ∃ b ∈ others, b.best others ∧ result = if cur.q + hysteresis ≤ b.q then some b.idx else some i
    else (cs = [] ∧ result = none) ∨ ∃ b ∈ cs, b.best cs ∧ result = some b.idx

/-- Whether an offer is eligible in the zone of index `i` (R133). -/
def Offer.admitted (o : Offer) (i threshold : Nat) : Prop := o.ready = true ∧ o.target.mem i = true ∧ threshold < o.priority

/-- The target of a source's offer at an audio block boundary (R132): an evacuation player's is the EMERGENCY zones of its region
under the split that the boundary installs (R42, R44), every other source's the set that it holds. -/
def State.offeredTarget (s : State) (src : Source) : ZoneSet :=
  let emergencies := fun inA : Bool => ZoneSet.below (fun i => s.modeOf i == .emergency && decide (i + 1 < s.zmg.stored) == inA) s.n
  match src with
  | .live => s.lvq.target
  | .player p =>
    if (s.player p).binding = some .evacuationA then emergencies true
    else if (s.player p).binding = some .evacuationB then emergencies false
    else (s.player p).target

/-- The offer at an audio block boundary of a source that does not end there (R132, R137, R148): ready but for an OPENING session
and a STARTING player, with the priority and the target that the boundary finds, and the audio that the boundary leaves in `u`. -/
def State.offerAt (s u : State) (src : Source) : Offer :=
  match src with
  | .live => ⟨src, s.lvq.state != .opening, s.lvq.priority.getD 0, s.offeredTarget src, u.lvq.air⟩
  | .player p =>
    ⟨src, (s.player p).state == .playing || (s.player p).state == .stopping, (s.player p).priority.getD 0, s.offeredTarget src,
      (u.player p).air⟩

/-- Where a walk stands (R150): the item it examines next, `none` for END, with the loop counters and the skip count. -/
structure WalkPoint where
  next : Option Nat
  counters : List LoopCounter
  skips : Nat
deriving DecidableEq, Repr

/-- The walk after it has examined one item at which it goes on (R150); `none` where it stops or ends there. -/
def State.examined (s : State) (w : WalkPoint) : Option WalkPoint :=
  match w.next with
  | none => none
  | some i =>
    match (s.item i).kind with
    | .pause _ => none
    | .clip slot =>
      if (s.dirEntry slot).state = .ready then none
      else some ⟨(s.item i).next, w.counters, min (w.skips + 1) 65535⟩
    | .loop target count =>
      match w.counters.find? (·.item == i) with
      | some c =>
        if c.left ≤ 1 then some ⟨(s.item i).next, w.counters.filter (·.item != i), w.skips⟩
        else
          some ⟨some target, w.counters.map (fun d => if d.item = i then { d with left := d.left - 1 } else d), w.skips⟩
      | none =>
        if count = 0 then some ⟨some target, w.counters, w.skips⟩
        else if count = 1 then some ⟨(s.item i).next, w.counters, w.skips⟩
        else if w.counters.length < 4 then some ⟨some target, w.counters ++ [⟨i, count - 1⟩], w.skips⟩
        else none

/-- The walk after it has gone on past `k` items. -/
def State.examinedTimes (s : State) : Nat → WalkPoint → Option WalkPoint
  | 0, w => some w
  | k + 1, w => (s.examined w).bind (s.examinedTimes k)

/-- The item progress with which an item is entered (R151). -/
def State.progressAt (s : State) (i : Nat) : Progress :=
  match (s.item i).kind with
  | .clip slot => .clip slot (s.dirEntry slot).length 0 0
  | .pause n => .pause n
  | .loop _ _ => .none

/-- Where the walk of a running player starts at an audio block boundary (R150, R151, R154): at its resume point, or at the next
field of an item that has failed or gives its last block; `none` where the player makes no walk. -/
def State.walkStart (s : State) (p : Nat) : Option WalkPoint :=
  let x := s.player p
  let after : WalkPoint := ⟨x.item.bind fun i => (s.item i).next, x.counters, x.skips⟩
  if x.pendingEnd.isSome then none
  else if x.resume.isSome then some ⟨x.resume, x.counters, x.skips⟩
  else if x.failed then (if x.state = .stopping then none else some after)
  else if x.state = .playing then
    match x.progress with
    | .clip _ length offered _ => if x.buffer ≠ [] ∧ length ≤ offered + 1 then some after else none
    | .pause n => if n ≤ 1 then some after else none
    | .none => none
  else none

/-- The record of evacuation player `p` right after a takeover whose head item `i` plays audio (R149, R151, R156); `none` where the
head makes the walk go on. -/
def State.evacuating (s : State) (p i : Nat) : Option Player :=
  let x : Player :=
    { Player.initial with
      priority := some 15, binding := some (if p = 0 then .evacuationA else .evacuationB), item := some i
      progress := s.progressAt i }
  match (s.item i).kind with
  | .clip slot => if (s.dirEntry slot).state = .ready then some { x with state := .starting } else none
  | .pause _ => some { x with state := .playing }
  | .loop _ _ => none

/-- The head item of the evacuation plan for player 0 or 1 (R55). -/
def EvacPlan.head (e : EvacPlan) (p : Nat) : Option Nat := if p = 0 then e.headA else e.headB

/-- A notice source (R178): whether its mark is set, the kind and body of its notice, and the marks without its own. -/
structure NoticeSource where
  marked : Bool
  kind : Octet
  body : List Octet
  left : Marks
deriving DecidableEq, Repr

/-- The notice sources in the order of their ranks, within a rank from the lowest number (R178). -/
def State.noticeSources (s : State) : List NoticeSource :=
  let m := s.clp.marks
  [⟨m.incident, 0xE0#8, e8 0 ++ incidentNotice s, { m with incident := false }⟩] ++
    ((List.range 8).map fun c =>
      ⟨m.channel.getLsbD c, 0xE1#8, e8 (c + 1) ++ channelNotice s c,
        { m with channel := m.channel &&& ~~~ BitVec.twoPow 8 c }⟩) ++
    ((List.range 24).map fun i =>
      ⟨m.ru.getLsbD i, 0xE2#8, e8 (i + 1) ++ ruNotice s i, { m with ru := m.ru &&& ~~~ BitVec.twoPow 24 i }⟩) ++
    ((List.range 24).map fun i =>
      ⟨m.power.getLsbD i, 0xE3#8, e8 (i + 1) ++ powerNotice s i, { m with power := m.power &&& ~~~ BitVec.twoPow 24 i }⟩) ++
    [⟨m.live, 0xE4#8, e8 0 ++ liveNotice s, { m with live := false }⟩] ++
    ((List.range 4).map fun p =>
      ⟨m.player.getLsbD p, 0xE5#8, e8 p ++ playerNotice s p, { m with player := m.player &&& ~~~ BitVec.twoPow 4 p }⟩) ++
    ((List.range 4).map fun b =>
      ⟨m.band.getLsbD b, 0xE6#8, e8 (b + 1) ++ bandNotice s b, { m with band := m.band &&& ~~~ BitVec.twoPow 4 b }⟩) ++
    [⟨m.directory, 0xE7#8, e8 0 ++ directoryNotice s, { m with directory := false }⟩,
      ⟨m.part, 0xE8#8, e8 0 ++ partNotice s, { m with part := false }⟩,
      ⟨m.link, 0xE9#8, e8 0 ++ linkNotice s, { m with link := false }⟩]

/-- The directory entry that a header gives (R161). -/
def headerTable (h : Header) : SlotState :=
  if h = Header.erased then .empty
  else if h.begun = .programmed ∧ h.complete = .programmed ∧ 1 ≤ h.length.toNat ∧ h.length.toNat ≤ 2047 then .ready
  else .damaged

/-- The Loop Controller's view that a position is reachable from an end (R9), from the answer states of the table. -/
def reachTable (rus : List RuEntry) (e : ChainEnd) (i : Nat) : Bool :=
  match e with
  | .a => (rus.take (i + 1)).all fun r => r.onA.answering
  | .b => (rus.drop i).all fun r => r.onB.answering

/-- The positions that a declaration or an alarm puts in EMERGENCY (R46). -/
def emergencyTable (n spread : Nat) (incident : ZoneSet) (everywhere : Bool) (i : Nat) : Bool :=
  decide (i < n) &&
    (everywhere || (List.range n).any fun z => incident.mem z && decide (z ≤ i + spread) && decide (i ≤ z + spread))

/-- The alarm timer after the sample at the boundary numbered `b` (R51), expiry apart. -/
def alarmTable (timer : Option Nat) (previous : Option Bool) (asserted : Bool) (b : Nat) : Option Nat :=
  match asserted, timer with
  | true, some d => some d
  | true, none => if previous = some true then none else some (b + 400)
  | false, _ => none

/-- The reads of the start-up (R161). -/
def FlashOp.startsUp (op : FlashOp) : Bool :=
  match op with
  | .readSettings => true
  | .readHeader _ => true
  | .readBlock _ _ => false
  | .eraseUnit _ _ => false
  | .eraseSettings => false
  | .programBegun _ _ _ => false
  | .programBlocks _ _ => false
  | .programComplete _ _ => false
  | .programSettings => false

/-- The start-up read holds the flash port only before RUNNING (R161, R179). -/
def State.startUpLaw (s : State) : Prop :=
  ∀ o ∈ s.csc.port, (o.owner = .startup ∨ o.op.startsUp = true) → s.clp.part = .starting

/-! ### The laws that every step keeps -/

/-- The external flash is in canonical form. -/
def Flash.wf (f : Flash) : Prop := cellsWf f.cells = true

/-- The law of the serving end (R14): the serving end of an ACTIVE unit reaches it; a running heal timer belongs to an ACTIVE unit
whose preferred end reaches it (R16). -/
def RuEntry.servingLaw (r : RuEntry) : Prop :=
  (r.state = .active → ∃ e ∈ [ChainEnd.a, .b], r.serving = some e ∧ r.reach e = true) ∧
    (r.heal ≠ none → r.state = .active ∧ r.reach r.preferred = true)

def State.servingLaw (s : State) : Prop := ∀ r ∈ s.lpc.rus, r.servingLaw

/-- The law of the applied alignment (R30) with the holds of R28. -/
def State.alignmentLaw (s : State) : Prop :=
  s.sau.target ≤ 32767 ∧ s.sau.applied ≤ 32767 ∧
    ∀ r ∈ s.lpc.rus,
      (r.state = .active → r.hold.isSome = true) ∧ (r.state ≠ .active → r.hold = none ∧ r.aligned = false) ∧
        r.hold.getD 0 ≤ 16383

/-- A settings area holds no copy of more than 24 positions. -/
def SettingsArea.fits (a : SettingsArea) : Bool :=
  match a with
  | .copy c => decide (c.configured.length ≤ 24)
  | .erased => true
  | .invalid => true

/-- The zones' modes are the EMERGENCY set (R46, R48), hence the law of the alarm latch (R52). The clauses after it keep the law
through the start-up read: no incident stands before RUNNING, and no settings copy holds more than 24 positions. -/
def State.emergencyLaw (s : State) : Prop :=
  s.zmg.zones.length = s.n ∧ s.n ≤ 24 ∧
    (∀ i ∈ List.range s.n,
      (s.modeOf i = .emergency ↔
        emergencyTable s.n s.zmg.plan.spread s.zmg.incident
          (s.zmg.whole || (s.zmg.latch && s.clp.part == .running)) i = true)) ∧
    (s.clp.part = .starting → s.zmg.incident = 0#24 ∧ s.zmg.whole = false) ∧
    s.startUpLaw ∧
    s.flash.area.fits = true ∧ (∀ x ∈ s.csc.settings, x.copy.configured.length ≤ 24)

/-- The record of every ACTIVE unit is the one that R68 to R71 compute from the inputs as they stand (R73), so its bank is the one
of its zone's mode (R64); a unit that is not ACTIVE is OFF with no carriers (R68). -/
def State.budgetLaw (s : State) : Prop :=
  s.pbe.allocs.length = s.n ∧
    ∀ i ∈ List.range s.n,
      if s.isActive i then s.allocOf i = s.computeRecord i
      else (s.allocOf i).status = .off ∧ (s.allocOf i).carriers = [] ∧ (s.allocOf i).bank = none

/-- The law of the voter's source (R110), with the eight channels (R80) and the state of a disabled one (R81). -/
def State.voterLaw (s : State) : Prop :=
  s.channels.length = 8 ∧ ∀ ch ∈ s.channels,
    (ch.cfg.enabled = false → ch.state = .idle) ∧
      ∀ i ∈ ch.source, ch.state = .up ∧ s.isActive i = true ∧ ch.cfg.coverage.mem i = true ∧ ch.lockout.mem i = false

/-- The law of gate capacity (R119). -/
def State.capacityLaw (s : State) : Prop := ∀ b ∈ s.bands, b.count .opened ≤ b.cfg.capacity

/-- The gate table (R118) with the law of the emergency bank for the gate side (R123). -/
def State.gateLaw (s : State) : Prop :=
  s.zmg.zones.length = s.n ∧ s.bands.length = 4 ∧
    ∀ b ∈ List.range 4,
      (s.band b).gates.length = s.n ∧
        ∀ i ∈ List.range s.n,
          let g := (s.band b).gate i
          (g.hold.isSome = true ↔ (g.state = .opened ∨ g.state = .pending)) ∧
            if s.eligible b i then
              (if s.modeOf i = .emergency then g.state = .forced else g.state ≠ .forced ∧ g.state ≠ .disabled)
            else g.state = .disabled

/-- The law of priority 15 (R131), with the ranges of priorities (R129). -/
def State.priorityLaw (s : State) : Prop :=
  s.zmg.zones.length = s.n ∧
    (∀ p ∈ s.lvq.priority, s.lvq.state ≠ .none → 1 ≤ p ∧ p ≤ 15 ∧ (p = 15 → s.anyEmergency = true)) ∧
    ∀ k ∈ List.range 4,
      (s.player k).running = true →
        ∃ p ∈ (s.player k).priority,
          1 ≤ p ∧ p ≤ 15 ∧
            (p = 15 →
              (k = 0 ∨ k = 1) ∧ ((s.player k).binding = some .evacuationA ∨ (s.player k).binding = some .evacuationB) ∧
                s.anyEmergency = true)

/-- Whether a source is active (R129): the live session exists, the player runs. -/
def State.runs (s : State) (src : Source) : Bool :=
  match src with
  | .live => s.lvq.state != .none
  | .player p => (s.player p).running

/-- The activation list holds exactly the active sources, each once (R129, R130), and a source that wins a zone is active with a
priority above the zone's threshold in force (R133). -/
def State.breakInLaw (s : State) : Prop :=
  s.bim.activation.Nodup ∧ s.apl.players.length = 4 ∧
    (∀ src ∈ [Source.live, .player 0, .player 1, .player 2, .player 3],
      (src ∈ s.bim.activation ↔ s.runs src = true)) ∧
    (∀ src ∈ s.bim.activation, src ∈ [Source.live, .player 0, .player 1, .player 2, .player 3]) ∧
    ∀ i ∈ List.range s.bim.winners.length,
      ∀ src ∈ s.bim.winners.getD i none,
        src ∈ s.bim.activation ∧
          s.bim.inForce.getD i 0 <
            match src with
            | .live => s.lvq.priority.getD 0
            | .player p => (s.player p).priority.getD 0

/-- An IDLE player has no current item, no item progress and an empty buffer (R148, R155). -/
def State.restLaw (s : State) : Prop :=
  ∀ x ∈ s.apl.players, x.state = .idle → x.item = none ∧ x.progress = .none ∧ x.buffer = []

/-- The slot whose flash an operation erases or programs. -/
def FlashOp.writes (op : FlashOp) : Option Nat :=
  match op with
  | .eraseUnit slot _ => some slot
  | .programBegun slot _ _ => some slot
  | .programBlocks slot _ => some slot
  | .programComplete slot _ => some slot
  | .readSettings => none
  | .readHeader _ => none
  | .readBlock _ _ => none
  | .eraseSettings => none
  | .programSettings => none

/-- The blocks of an upload and of a program lie within a slot's area (R159). -/
abbrev IndexedBlock.within (b : IndexedBlock) : Prop := b.index ≤ 2047 ∧ b.data.length ≤ 128

/-- The operation touches no octet outside the area of its slot (R159). -/
def FlashOp.within (op : FlashOp) : Bool :=
  match op with
  | .eraseUnit _ unit => decide (unit < 4)
  | .programBlocks _ bs => bs.all fun b => decide b.within
  | .readSettings => true
  | .readHeader _ => true
  | .readBlock _ _ => true
  | .eraseSettings => true
  | .programBegun _ _ _ => true
  | .programComplete _ _ => true
  | .programSettings => true

/-- No slot below the protected count is in the hands of an upload, of an erase or of an operation that writes, and each of these
stays within its slot; a level can change only while there is neither upload nor erase (R163); the settings are read only before
RUNNING (R161). -/
def State.protectionLaw (s : State) : Prop :=
  (∀ u ∈ s.csc.upload,
    protectedCount s.csc.level ≤ u.slot ∧ u.length ≤ 2047 ∧ (∀ b ∈ u.buffer, b.within) ∧ ∀ w ∈ u.waiting, w.block.within) ∧
    (∀ e ∈ s.csc.erase, protectedCount s.csc.level ≤ e.slot ∧ e.units < 4) ∧
    (∀ o ∈ s.csc.port, o.op.within = true ∧ ∀ slot ∈ o.op.writes, protectedCount s.csc.level ≤ slot) ∧
    (∀ x ∈ s.csc.settings, x.level ≠ none → s.csc.upload = none ∧ s.csc.erase = none) ∧
    (∀ o ∈ s.csc.port, o.op = .readSettings → s.csc.upload = none ∧ s.csc.erase = none) ∧
    (∀ o ∈ s.csc.port, o.owner = .settings → o.op.writes = none) ∧ s.startUpLaw

/-- The octets and the header of a slot's area of the flash (R159). -/
def Flash.sameSlot (f g : Flash) (slot : Nat) : Prop :=
  (∀ a, slot * 262144 ≤ a → a < (slot + 1) * 262144 → cellAt g.cells a = cellAt f.cells a) ∧ g.header slot = f.header slot

/-- The law of the writing slot (R166). -/
def State.writingLaw (s : State) : Prop :=
  ∀ slot ∈ List.range 63,
    (s.dirEntry slot).state = .writing →
      (s.csc.upload.map (·.slot)) = some slot ∧ ∀ x ∈ s.apl.players, x.clipSlot ≠ some slot

/-- The law of the control link (R175) with the reply queue of R177: at most 4 requests are outstanding, their tags differ and are
not 0, a request has exactly one reply in the queue or in sending from the moment it is answered until that reply is sent, and at
most 8 refusal replies wait; and the line carries the octets of the frame in sending (R173). -/
def Clp.linkLaw (c : Clp) : Prop :=
  c.slots.length ≤ 4 ∧ (c.slots.map (·.tag)).Nodup ∧ (∀ x ∈ c.slots, x.tag ≠ 0#8) ∧
    (c.replies.filter (·.refusal)).length ≤ 8 ∧
    ((c.slots.filter (·.phase == .queued)).map fun x => (x.kind + 0x80#8, x.tag)).Perm
      ((c.replies.filter (!·.refusal)).map fun r => (r.kind, r.tag)) ∧
    (((c.slots.filter (·.phase == .sending)).map fun x => (x.kind + 0x80#8, x.tag)) =
      match c.sending with
      | some (.reply r) => if r.refusal then [] else [(r.kind, r.tag)]
      | some (.notice _ _) => []
      | none => []) ∧
    c.line =
      match c.sending with
      | none => []
      | some (.reply r) => frameOctets r.kind r.tag r.body
      | some (.notice kind body) => frameOctets kind 0#8 body

/-- The tags of the requests whose replies the blocks owe (R142, R163, R166 to R171). -/
def State.owedTags (s : State) : List Octet :=
  s.lvq.waitingEnd.toList ++
    (match s.csc.upload with
      | none => []
      | some u => u.beginTag.toList ++ u.waiting.map (·.tag) ++ u.endTag.toList) ++
    (s.csc.erase.bind (·.tag)).toList ++ (s.csc.settings.bind (·.tag)).toList

/-- An upload record that the rules of R166 to R168 can form. -/
def Upload.sound (u : Upload) : Prop :=
  (u.endTag.isSome = true ↔ u.state = .finishing) ∧ (u.begun = true → u.beginTag = none) ∧
    u.received + u.waiting.length ≤ u.length ∧ (u.state = .finishing → u.failed = none → u.received = u.length) ∧
    (u.failed.isSome = true → u.state = .finishing) ∧
    (u.state = .sequenceFailed ∨ u.state = .faulted → u.waiting = []) ∧ (u.state = .faulted → u.beginTag = none)

/-- Whether an operation is one of an upload's, and the upload as far as it supposes (R166 to R168). -/
def Upload.suits (u : Upload) (op : FlashOp) : Bool :=
  match op with
  | .programBegun _ _ _ => !u.begun
  | .programBlocks _ _ => u.begun
  | .programComplete _ _ => u.begun && u.state == .finishing
  | .eraseUnit _ _ => true
  | .readSettings => false
  | .readHeader _ => false
  | .readBlock _ _ => false
  | .eraseSettings => false
  | .programSettings => false

/-- Every request that is outstanding without a reply has exactly one block that owes its reply (R175, R176); the clauses after the
second keep this through every command. -/
def State.owedLaw (s : State) : Prop :=
  (s.clp.slots.map (·.tag)).Nodup ∧ ((s.clp.slots.filter (·.phase == .waiting)).map (·.tag)).Perm s.owedTags ∧
    (∀ u ∈ s.csc.upload, u.sound) ∧
    (s.lvq.waitingEnd.isSome = true → s.lvq.state = .draining ∧ s.clp.part = .running) ∧ s.startUpLaw ∧
    (s.clp.part = .starting → s.csc.upload = none) ∧
    (∀ o ∈ s.csc.port, o.owner = .upload → ∃ u ∈ s.csc.upload, u.suits o.op = true) ∧
    ∀ u ∈ s.csc.upload, u.failed.isSome = true → ∃ o ∈ s.csc.port, o.owner = .upload

end Sys2Proof.Machine
end

