-- ==== Sys2Proof/WellFormed.lean ====
section
/-! DEFINITION. Well-formed commands: what the ports can bring. A command outside these bounds stands for nothing that happens at
the part's ports. -/

namespace Sys2Proof

/-- One unit's answer (R5): eight Q values, four activity values of 0..60. -/
def Answer.wf (a : Answer) : Bool := a.quality.length == 8 && a.activity.length == 4 && a.activity.all (· ≤ 60)

/-- The answers of one end: at most one for each of the 24 positions. -/
def answersWf (l : List (Option Answer)) : Bool :=
  decide (l.length ≤ 24) && l.all fun a =>
    match a with
    | none => true
    | some x => x.wf

/-- What one loop frame brings. -/
def FrameInput.wf (f : FrameInput) : Bool := answersWf f.onA && answersWf f.onB

/-- A frame body of 0..600 octets (R173). -/
def bodyWf (b : List Octet) : Bool := decide (b.length ≤ 600)

/-- The kinds of the requests and of the stream block (R183). -/
def knownKinds : List Octet :=
  [0x01, 0x02, 0x03, 0x04, 0x10, 0x11, 0x18, 0x19, 0x1A, 0x1B, 0x1C, 0x1D, 0x20, 0x21, 0x22, 0x28, 0x29] ++
    [0x2C, 0x2D, 0x30, 0x31, 0x38, 0x39, 0x3A, 0x3B, 0x3F, 0x40, 0x41, 0x42, 0x43, 0x44, 0x45, 0x46]

/-- The well-formed commands. -/
def Instr.wf (i : Instr) : Bool :=
  match i with
  | .powerOn _ => true
  | .resetAssert => true
  | .resetRelease _ => true
  | .settingsReadComplete => true
  | .headerReadComplete => true
  | .loopFrameClose f => f.wf
  | .positionTurnsAnswering _ _ => true
  | .positionTurnsSilent _ _ => true
  | .identityReadComplete _ _ => true
  | .healTimerExpiry _ => true
  | .alarmTimerExpiry => true
  | .turnaroundExpiry _ => true
  | .hangExpiry _ => true
  | .talkTimeout _ => true
  | .dlOn _ => true
  | .dlOff _ => true
  | .gateHoldExpiry _ _ => true
  | .feedUp _ => true
  | .feedDown _ => true
  | .epochBoundary => true
  | .audioBlockBoundary => true
  | .liveStarveLimit => true
  | .playerReadComplete => true
  | .verifyReadComplete => true
  | .programComplete => true
  | .eraseComplete => true
  | .flashOpFail => true
  | .flashOpTimeout => true
  | .frameOctetTimeout => true
  | .overlengthFrame length => decide (600 < length.toNat)
  | .crcErrorFrame octets => decide (6 ≤ octets.length) && decide (octets.length ≤ 606)
  | .unknownKindFrame kind _ body => !knownKinds.contains kind && bodyWf body
  | .frameSent => true
  | .identify _ body => bodyWf body
  | .status _ body => bodyWf body
  | .restart _ body => bodyWf body
  | .saveSettings _ body => bodyWf body
  | .setLoop _ body => bodyWf body
  | .getRu _ body => bodyWf body
  | .setZone _ body => bodyWf body
  | .setSplit _ body => bodyWf body
  | .getZone _ body => bodyWf body
  | .declareIncident _ body => bodyWf body
  | .clearIncident _ body => bodyWf body
  | .setEvacuationPlan _ body => bodyWf body
  | .setRuPower _ body => bodyWf body
  | .setPlan _ body => bodyWf body
  | .getBudget _ body => bodyWf body
  | .setChannel _ body => bodyWf body
  | .getChannel _ body => bodyWf body
  | .setBand _ body => bodyWf body
  | .getBand _ body => bodyWf body
  | .liveStart _ body => bodyWf body
  | .liveEnd _ body => bodyWf body
  | .voiceBlock _ body => bodyWf body
  | .setItems _ body => bodyWf body
  | .play _ body => bodyWf body
  | .stop _ body => bodyWf body
  | .getPlayer _ body => bodyWf body
  | .uploadBegin _ body => bodyWf body
  | .clipData _ body => bodyWf body
  | .uploadEnd _ body => bodyWf body
  | .uploadAbort _ body => bodyWf body
  | .eraseSlot _ body => bodyWf body
  | .getDirectory _ body => bodyWf body
  | .setProtection _ body => bodyWf body
  | .octetReceived _ => true
  | .powerLoss => true

end Sys2Proof
end

