-- ==== Sys2Proof/Certificates/Slice0/Obligations.lean ====
section
/-! DEFINITION. The statements for the provers. `u` is the state that a command's own effect leaves; `State.settle` is what the two
arbiters (R164, R177) then take from it; `State.replied` is a state with a finished reply handed to the port. A statement that
rests on a choice of the model names its log entry. -/

open Sys2Proof Sys2Proof.Machine

/-! ### Commands, steps and the supply -/

/-- A step takes the command in front and runs it on the state with the queue's rest. That the commands wait in one queue, first
in, first out, is the model's own choice (log entry 1), not the manual's. -/
def Obligations.StepRunsTheFrontCommand : Prop :=
  ∀ (c : Instr) (rest : List Instr) (s : State),
    step { s with pending := c :: rest } = exec c { s with pending := rest }

/-- Every command answers a next state and leaves the queue (the model's choice: log entry 1 has an empty queue idle). -/
def Obligations.EveryCommandAnswersAndKeepsTheQueue : Prop :=
  (∀ (c : Instr) (s : State), ∃ t : State, exec c s = .next t ∧ t.pending = s.pending) ∧
    ∀ s : State, s.pending = [] → step s = .next s

/-- The part right after reset (01_the_zone_loop.md to 11_the_control_link.md, the power-on columns), with the defaults of the
settings: identities 0, the default preferred ends (R7), both default plan banks (R62). What the manual gives no reset value for
is the model's choice (log entries 2 and 65); that the records hold the defaults while the settings read still runs is DEDUCED
(log entry 33). -/
def Obligations.ResetLeavesThePowerOnState : Prop :=
  State.reset.atPowerOn .mbit1 ∧ State.reset.power = .on ∧ State.reset.pending = [] ∧ State.reset.n = 24 ∧
    State.reset.sau.guardDu = 50 ∧ State.reset.zmg.stored = 25 ∧ State.reset.zmg.effective = 25 ∧
    (∀ z ∈ State.reset.zmg.zones, z.threshold = 0) ∧ State.reset.zmg.plan = ⟨none, none, 1⟩ ∧
    (∀ c ∈ State.reset.pbe.cfgs, c = ⟨1000, 50, 100, [0, 0, 0, 0], 0x3F#6, 0#4⟩) ∧
    (∀ ch ∈ State.reset.channels, ch.cfg = ⟨false, 0#24, 40, 30, 8, 150, 300, 60, .dlFirst, false⟩) ∧
    (∀ b ∈ State.reset.bands, b.cfg = ⟨12, 2000, 3, 8⟩) ∧ (∀ x ∈ State.reset.apl.pool, x = ⟨.pause 1, none⟩) ∧
    State.reset.pbe.bank0 = ⟨2, 1, [3, 3, 3, 3], [256, 128, 32, 0]⟩ ∧
    State.reset.pbe.bank1 = ⟨1, 1, [2, 2, 2, 2], [256, 128, 32, 0]⟩ ∧
    ∀ i ∈ List.range 24,
      (State.reset.ru i).configured = 0#32 ∧ (State.reset.ru i).preferred = if i + 1 ≤ 12 then .a else .b

/-- POWER_ON, RESET_ASSERT, RESET_RELEASE and POWER_LOSS: every block at its power-on values, and a flash operation in progress
cut (RESET as a cut: log entry 30; what a cut leaves: log entries 10 and 63; values that no rule gives and the protection level
before the settings read: log entries 33 and 65). A part without power or in RESET takes no frame of
any kind and no octet (log entry 3). -/
def Obligations.SupplyAndResetStartThePartAfresh : Prop :=
  (∀ (s : State) (rate : LineRate),
    ∃ t : State, exec (.powerOn rate) s = .next t ∧ t.power = .on ∧ t.atPowerOn rate ∧ t.flash = s.flashCut ∧ t.pins = s.pins ∧
      t.pending = s.pending) ∧
    (∀ s : State, s.power = .on →
      ∃ t : State, exec .resetAssert s = .next t ∧ t.power = .held ∧ t.atPowerOn s.clp.rate ∧ t.flash = s.flashCut ∧
        t.pins = s.pins ∧ t.pending = s.pending) ∧
    (∀ (s : State) (rate : LineRate), s.power = .held →
      ∃ t : State, exec (.resetRelease rate) s = .next t ∧ t.power = .on ∧ t.atPowerOn rate ∧ t.flash = s.flash ∧
        t.pins = s.pins ∧ t.pending = s.pending) ∧
    (∀ s : State, s.power = .on →
      ∃ t : State, exec .powerLoss s = .next t ∧ t.power = .off ∧ t.atPowerOn s.clp.rate ∧ t.flash = s.flashCut ∧
        t.pins = s.pins ∧ t.pending = s.pending) ∧
    ∀ s : State, s.power ≠ .on →
      (∀ (kind tag : Octet) (body : List Octet), exec (commandOf kind tag body) s = .next s) ∧
        ∀ o : Octet, exec (.octetReceived o) s = .next s

/-! ### The control link -/

/-- The receiver (R174). While hunting it discards every octet but the sync octet, which puts it in frame; in frame it collects
the octets of the frame, and gives it up as the length octets exceed 600 or as the CRC of a whole frame fails. A link error of the
three kinds discards the frame and resumes hunting; the last kind and the count follow, the link-error mark is set (R182). -/
def Obligations.ReceiverCollectsAndRecordsErrors : Prop :=
  ((∀ (s : State) (o : Octet), s.power = .on → s.clp.receiver = .hunting →
    exec (.octetReceived o) s =
      .next (State.settle { s with clp := { s.clp with receiver := if o = 0xC3#8 then .inFrame [] else .hunting } })) ∧
    (∀ (s : State) (o : Octet) (os : List Octet), s.power = .on → s.clp.receiver = .inFrame os →
      (os = [] ∨ (u16 (os ++ [o]) 0 ≤ 600 ∧ os.length + 1 < u16 (os ++ [o]) 0 + 6)) →
      exec (.octetReceived o) s = .next (State.settle { s with clp := { s.clp with receiver := .inFrame (os ++ [o]) } })) ∧
    (∀ (s : State) (o a : Octet), s.power = .on → s.clp.receiver = .inFrame [a] → 600 < u16 [a, o] 0 →
      exec (.octetReceived o) s = exec (.overlengthFrame (a ++ o)) s) ∧
    ∀ (s : State) (o : Octet) (os : List Octet), s.power = .on → s.clp.receiver = .inFrame os → 2 ≤ os.length →
      u16 os 0 ≤ 600 → os.length + 1 = u16 os 0 + 6 →
      crc16 (os.take (u16 os 0 + 4)) ≠ octetAt (os ++ [o]) (u16 os 0 + 4) ++ octetAt (os ++ [o]) (u16 os 0 + 5) →
      exec (.octetReceived o) s = exec (.crcErrorFrame (os ++ [o])) s) ∧
    ((∀ s : State, s.power = .on → s.clp.receiver ≠ .hunting →
    exec .frameOctetTimeout s =
      .next (State.settle { s with
        clp := { s.clp with
          receiver := .hunting, marks := { s.clp.marks with link := true }
          link := { s.clp.link with last := some .timeout, timeout := min (s.clp.link.timeout + 1) 65535 } } })) ∧
    (∀ (s : State) (length : BitVec 16), s.power = .on → 600 < length.toNat →
      exec (.overlengthFrame length) s =
        .next (State.settle { s with
          clp := { s.clp with
            receiver := .hunting, marks := { s.clp.marks with link := true }
            link := { s.clp.link with last := some .overlength, overlength := min (s.clp.link.overlength + 1) 65535 } } })) ∧
    ∀ (s : State) (os : List Octet), s.power = .on → u16 os 0 ≤ 600 → os.length = u16 os 0 + 6 →
      crc16 (os.take (u16 os 0 + 4)) ≠ octetAt os (u16 os 0 + 4) ++ octetAt os (u16 os 0 + 5) →
      exec (.crcErrorFrame os) s =
        .next (State.settle { s with
          clp := { s.clp with
            receiver := .hunting, marks := { s.clp.marks with link := true }
            link := { s.clp.link with last := some .crc, crc := min (s.clp.link.crc + 1) 65535 } } }))

/-- A frame that comes octet by octet into a settled, hunting part has exactly the effect of the command that its kind stands for:
the sync octet, the length, the kind, the tag, the body and the CRC of R173 are received by R174 and delivered to R175. -/
def Obligations.OctetsOfAFrameActAsItsCommand : Prop :=
  ∀ (s : State) (kind tag : Octet) (body : List Octet),
    s.power = .on → s.clp.receiver = .hunting → s.settle = s → body.length ≤ 600 →
    ∃ t : State, exec (commandOf kind tag body) s = .next t ∧
      runAll ((frameOctets kind tag body).map Instr.octetReceived) s = some t

/-- Checks 2 to 7 of R175 on a delivered frame: an unknown kind, and every request kind, SET_ITEMS by the length that its count
gives, by the first check that it fails. A refusal reply takes no slot; with 8 refusal replies waiting it is dropped and OVERRUN
recorded (R177). -/
def Obligations.DeliveredFramesAreChecked : Prop :=
  (∀ (s : State) (kind tag : Octet) (body : List Octet), s.power = .on → knownKinds.contains kind = false →
    exec (.unknownKindFrame kind tag body) s = .next (s.refused kind tag .unknownKind)) ∧
    (∀ kind ∈ requestKinds, ∀ (s : State) (tag : Octet) (body : List Octet), s.power = .on →
      (tag = 0#8 ∨ ¬ BodyFits kind body → exec (commandOf kind tag body) s = .next (s.refused kind tag .invalid)) ∧
      (tag ≠ 0#8 → BodyFits kind body →
        (s.clp.part = .starting → kind ≠ 0x01#8 → kind ≠ 0x02#8 →
          exec (commandOf kind tag body) s = .next (s.refused kind tag .notReady)) ∧
        (s.clp.part = .running ∨ kind = 0x01#8 ∨ kind = 0x02#8 →
          ((∃ y ∈ s.clp.slots, y.tag = tag) →
            exec (commandOf kind tag body) s = .next (s.refused kind tag .tagInUse)) ∧
          ((∀ y ∈ s.clp.slots, y.tag ≠ tag) → 4 ≤ s.clp.slots.length →
            exec (commandOf kind tag body) s = .next (s.refused kind tag .busy))))) ∧
    ∀ (c : Clp) (kind tag : Octet) (st : Status),
      c.refuse kind tag st =
        if (c.replies.filter (·.refusal)).length < 8 then
          { c with replies := c.replies ++ [⟨kind + 0x80#8, tag, replyBody st [], true⟩] }
        else
          { c with
            marks := { c.marks with link := true }
            link := { c.link with last := some .overrun, overrun := min (c.link.overrun + 1) 65535 } }

/-- FRAME_SENT: the line is free, the slot of a request whose reply has been sent is freed, and the arbiters take what they find
(R175, R177). -/
def Obligations.FrameSentFreesTheLineAndTheSlot : Prop :=
  (∀ (s : State) (r : Reply), s.power = .on → s.clp.sending = some (.reply r) →
    exec .frameSent s =
      .next (State.settle { s with
        clp := { s.clp with
          sending := none, line := []
          slots := if r.refusal then s.clp.slots
            else s.clp.slots.filter fun x => !(x.tag == r.tag && x.phase == .sending) } })) ∧
    ∀ (s : State) (kind : Octet) (body : List Octet), s.power = .on → s.clp.sending = some (.notice kind body) →
      exec .frameSent s = .next (State.settle { s with clp := { s.clp with sending := none, line := [] } })

/-- The transmit arbiter (R177, R178): a busy line is left alone, replies go before notices and oldest first, and no notice goes
before RUNNING. Of the marked notice sources the one of the highest rank is served, within a rank the lowest number, and its own
mark alone is cleared; the octets of the frame stand on the line (R173), a notice with the tag 0. The number that a notice repeats
before its fields rests on log entry 22. -/
def Obligations.RepliesGoBeforeNoticesByRank : Prop :=
  ∀ s : State,
    (s.clp.sending ≠ none → s.pump = s) ∧
      (∀ (r : Reply) (rest : List Reply), s.clp.sending = none → s.clp.replies = r :: rest →
        s.pump =
          { s with
            clp := { s.clp with
              replies := rest, sending := some (.reply r), line := frameOctets r.kind r.tag r.body
              slots := if r.refusal then s.clp.slots
                else s.clp.slots.map fun x => if x.tag = r.tag ∧ x.phase = .queued then { x with phase := .sending } else x } }) ∧
      (s.clp.sending = none → s.clp.replies = [] → s.clp.part = .starting → s.pump = s) ∧
      (s.clp.sending = none → s.clp.replies = [] → s.clp.part = .running →
        s.pump =
          match s.noticeSources.find? (·.marked) with
          | none => s
          | some x =>
            { s with
              clp := { s.clp with
                sending := some (.notice x.kind x.body), line := frameOctets x.kind 0#8 x.body, marks := x.left } })

/-- IDENTIFY and STATUS are answered OK in either part state, with a snapshot taken as the request is taken (R180, R183). The one
octet of the silicon revision is log entry 14, the code of the line rate log entry 64. That ALARM is reported as not asserted
before its first sample is log entry 40. The count of outstanding requests has the STATUS itself in it: log entry 44. -/
def Obligations.IdentifyAndStatusReportThePart : Prop :=
  ∀ (s : State) (tag : Octet), s.hasSlotFor tag →
    exec (.identify tag []) s =
      .next (s.replied 0x01 tag .ok
        ([0x54, 0x46, Config.siliconRevision] ++ [if s.clp.rate = .mbit1 then 0x00 else 0x01] ++ [0x02, 0x58, 0x04] ++
          [if s.clp.part = .starting then 0x00 else 0x01])) ∧
    ∃ flags : Octet,
      exec (.status tag []) s =
        .next (s.replied 0x02 tag .ok
          ([if s.clp.part = .starting then 0x00 else 0x01] ++ e16 s.clp.restarts ++ [flags] ++
            e8 (s.clp.slots.length + 1) ++ e8 s.n ++
            e8 ((List.range s.n).filter s.emergencyZones.mem).length ++ e8 s.lpc.rA ++ e8 s.lpc.rB ++
            e8 ((List.range s.n).filter s.isActive).length ++ e16 s.sau.target ++ e16 s.sau.applied ++
            e16 s.sau.guardDu ++ e16 s.clp.link.crc ++ e16 s.clp.link.overlength ++ e16 s.clp.link.timeout ++
            e16 s.clp.link.overrun ++ [0, 0, 0, 0])) ∧
      flags.getLsbD 0 = s.clp.defaulted ∧ flags.getLsbD 1 = s.csc.copyValid ∧ flags.getLsbD 2 = s.zmg.latch ∧
      flags.getLsbD 3 = (s.zmg.level == some true) ∧ flags.getLsbD 4 = s.pins.maint

/-- RESTART (R181): the other requests without a reply are answered ABORTED in the order of their acceptance, the OK reply comes
behind them, every block clears its running state as R181 lists it, and the zones, the alignment, the power records and plan banks,
protection and the flash are kept, with the loop but for its MISMATCH units, which are read again (R27; their reports: log entry
47), and with the directory but for the upload's slot. The players end with RESTARTED, and in an emergency the takeover runs again
(R157); the channels return to rest, keeping their record, carrier level and two counts, and a change sets their marks (R102); the
gates are evaluated afresh within the capacity (R128), with the threshold in use (log entry 51) and the due boundary of a hold as in
log entry 13; an upload's slot becomes DAMAGED (R169). The outputs of the loop frame in progress stay until the next: log entry 43.
-/
def Obligations.RestartAbortsAndClears : Prop :=
  ∀ (s : State) (tag : Octet), s.accepts tag → s.owedLaw → s.breakInLaw → s.restLaw → s.channels.length = 8 →
    s.bands.length = 4 →
    ∃ u : State, exec (.restart tag []) s = .next u.settle ∧
      u.clp.replies = s.clp.replies ++
        ((s.clp.slots.filter (·.phase == .waiting)).map fun x => ⟨x.kind + 0x80#8, x.tag, [0x09#8], false⟩) ++
          [⟨0x83#8, tag, [0x00#8], false⟩] ∧
      u.clp.slots = (s.clp.slots.map fun x => if x.phase = .waiting then { x with phase := .queued } else x) ++
        [⟨0x03#8, tag, .queued⟩] ∧
      u.clp.restarts = min (s.clp.restarts + 1) 65535 ∧ u.clp.marks.part = true ∧ u.clp.link = s.clp.link ∧
      u.lvq.state = .none ∧ (s.lvq.state ≠ .none → u.lvq.ended = some .restarted) ∧
      (∀ p ∈ List.range 4, s.anyEmergency = false ∨ 2 ≤ p →
        (u.player p).running = false ∧ (u.player p).missing = false ∧ (u.player p).buffer = [] ∧
          ((s.player p).running = true → (u.player p).ended = some .restarted)) ∧
      (s.anyEmergency = false → u.bim.activation = []) ∧
      (s.anyEmergency = true → ∀ p ∈ [0, 1],
        (s.zmg.plan.head p = none →
          (u.player p).running = false ∧ (u.player p).missing = true ∧ (u.player p).ended = some .restarted) ∧
        ∀ i ∈ s.zmg.plan.head p, ∀ x ∈ s.evacuating p i, (∀ up ∈ s.csc.upload, x.clipSlot ≠ some up.slot) →
          u.player p = x ∧ .player p ∈ u.bim.activation) ∧
      (∀ w ∈ u.bim.winners, w = none) ∧
      (∀ c ∈ List.range 8,
        let old := s.channel c
        u.channel c =
            { old with
              state := if old.cfg.enabled && old.carrier then .down else .idle
              dlPending := false, marker := false, turnT := none, hangT := none, talkT := none, keyed := false
              source := none, lockout := 0#24, cands := [], blockFlag := false, deferred := false } ∧
          ((u.channel c).state ≠ old.state ∨ old.state = .up ∨ old.dlPending = true ∨ old.lockout ≠ 0#24 →
            u.clp.marks.channel.getLsbD c = true)) ∧
      (∀ b ∈ List.range 4,
        (u.band b).cfg = (s.band b).cfg ∧ (u.band b).inUse = (s.band b).inUse ∧ (u.band b).feed = (s.band b).feed ∧
          ((s.band b).feed = false → u.band b = s.band b) ∧
          ((s.band b).feed = true →
            let asks := fun i : Nat => ((s.band b).gate i).state ≠ .forced ∧ ((s.band b).gate i).state ≠ .disabled ∧
              (s.band b).inUse ≤ ((s.band b).gate i).latest
            (u.band b).count .opened =
                min (s.band b).cfg.capacity ((List.range (s.band b).gates.length).filter fun i => decide (asks i)).length ∧
              ∀ i ∈ List.range (s.band b).gates.length,
                if ((s.band b).gate i).state = .forced ∨ ((s.band b).gate i).state = .disabled then
                  (u.band b).gate i = (s.band b).gate i
                else if asks i then
                  (((u.band b).gate i).state = .opened ∨ ((u.band b).gate i).state = .pending) ∧
                    ((u.band b).gate i).latest = ((s.band b).gate i).latest ∧
                    ((u.band b).gate i).hold = some (s.now + 4 * (s.band b).cfg.hold + 1)
                else (u.band b).gate i = ⟨.closed, ((s.band b).gate i).latest, none⟩)) ∧
      u.csc.upload = none ∧ (∀ up ∈ s.csc.upload, (u.dirEntry up.slot).state = .damaged) ∧ (∀ e ∈ u.csc.erase, e.tag = none) ∧
      (∀ x ∈ u.csc.settings, x.tag = none) ∧
      u.n = s.n ∧ u.lpc.rA = s.lpc.rA ∧ u.lpc.rB = s.lpc.rB ∧
      (∀ i ∈ List.range s.n,
        let r := s.ru i
        u.ru i =
          if r.state = .mismatch then
            { r with
              state := .joining, readEnd := if r.reach r.preferred then r.preferred else r.preferred.other, parts := []
              report := Report.clear, serving := none }
          else r) ∧
      u.pbe.cfgs = s.pbe.cfgs ∧ u.pbe.bank0 = s.pbe.bank0 ∧ u.pbe.bank1 = s.pbe.bank1 ∧
      (∀ k ∈ List.range 63, (∀ up ∈ s.csc.upload, k ≠ up.slot) → u.dirEntry k = s.dirEntry k) ∧
      u.zmg = s.zmg ∧ u.sau = s.sau ∧ u.flash = s.flash ∧ u.csc.level = s.csc.level ∧ u.apl.pool = s.apl.pool ∧
      u.out = s.out ∧ u.pins = s.pins

/-! ### The loop and the alignment -/

/-- The answer states of every position on each end at a frame close (R8), whatever the state of the unit there. -/
def Obligations.AnswerStatesFollowTheFrame : Prop :=
  ∀ (s : State) (f : FrameInput), s.begun = true →
    ∃ u : State, exec (.loopFrameClose f) s = .next u.settle ∧ u.n = s.n ∧
      ∀ i ∈ List.range s.n, ∀ e ∈ [ChainEnd.a, .b],
        (((u.ru i).view e).answering, ((u.ru i).view e).run) =
          answerTable ((s.ru i).view e).answering ((s.ru i).view e).run (answerOf f e i).isSome

/-- Reach at a frame close (R9): the reachable flags and the depths follow from the answer states that the frame leaves, and the
delay from an end that stops reaching a unit becomes absent; the frame close takes the next boundary (R2). The standings follow
the reach: entry to JOINING with its read end (R10), the read that moves to the other end (R11), entry to LOST (R13), the swing of
an ACTIVE unit (R15), and its heal timer, that starts, stops or expires (R16). That MAINT takes the level of the frame input is
the model's choice (log entry 16); that a JOINING unit whose read end stops reaching it also loses a fourth identity part of that
frame is DEDUCED (log entry 28). -/
def Obligations.ReachFollowsTheAnswerStates : Prop :=
  ∀ (s : State) (f : FrameInput), s.begun = true →
    ∃ u : State, exec (.loopFrameClose f) s = .next u.settle ∧ u.now = s.now + 1 ∧
      u.pins = { s.pins with maint := f.maint } ∧ u.flash = s.flash ∧ u.sau = s.sau ∧ u.apl.pool = s.apl.pool ∧
      u.csc.level = s.csc.level ∧ u.csc.settings = s.csc.settings ∧
      u.lpc.rA = ((List.range s.n).filter (reachTable u.lpc.rus .a)).length ∧
      u.lpc.rB = ((List.range s.n).filter (reachTable u.lpc.rus .b)).length ∧
      ∀ i ∈ List.range s.n, ∀ e ∈ [ChainEnd.a, .b],
        (u.ru i).reach e = reachTable u.lpc.rus e i ∧
          ((s.ru i).reach e = true → (u.ru i).reach e = false → ((u.ru i).view e).delay = none) ∧
          let old := s.ru i
          let new := u.ru i
          let lost := new.onA.reach = false ∧ new.onB.reach = false
          (old.state = .absent ∨ old.state = .lost →
            if lost then new.state = old.state
            else
              new.state = .joining ∧ new.readEnd = (if new.reach old.preferred then old.preferred else old.preferred.other) ∧
                new.parts = [] ∧ new.serving = none ∧ new.learned = old.learned ∧ new.swings = old.swings ∧
                (i < 24 → u.clp.marks.ru.getLsbD i = true)) ∧
            (old.state = .joining ∨ old.state = .mismatch ∨ old.state = .active → lost →
              new.state = .lost ∧ new.serving = none ∧ new.heal = none ∧ new.learned = old.learned ∧
                new.swings = old.swings ∧ (i < 24 → u.clp.marks.ru.getLsbD i = true)) ∧
            (old.state = .mismatch → ¬ lost → new.state = .mismatch) ∧
            (old.state = .joining → new.reach old.readEnd = false → ¬ lost →
              new.state = .joining ∧ new.readEnd = old.readEnd.other ∧ new.parts = []) ∧
            (old.state = .active → old.serving = some e → ¬ lost →
              new.state = .active ∧
                if new.reach e = false then
                  new.serving = some e.other ∧ new.swings = min (old.swings + 1) 65535 ∧ new.heal = none ∧
                    (i < 24 → u.clp.marks.ru.getLsbD i = true)
                else if e = old.preferred ∨ new.reach old.preferred = false then
                  new.serving = some e ∧ new.swings = old.swings ∧ new.heal = none
                else if isDue old.heal (s.now + 1) = true then
                  new.serving = some old.preferred ∧ new.swings = min (old.swings + 1) 65535 ∧ new.heal = none ∧
                    (i < 24 → u.clp.marks.ru.getLsbD i = true)
                else
                  new.serving = some e ∧ new.swings = old.swings ∧
                    new.heal = match old.heal with
                      | some d => some d
                      | none => some (s.now + 1 + 40000))

/-- The outputs of the loop frame that begins as a loop frame closes. Both string ports poll every position, only an ACTIVE unit
has a downlink, and it leaves on its serving end (R5) with the hold (R32), the allocation record (R75), the uplink enables of its
OPEN and FORCED gates (R125), its programmes or the break-in audio of the zone's winner (R134), and what it radiates of each
rescue channel (R98). A channel that is enabled and UP is keyed and passes its source's uplink (R98, R111). In the frame that
closes it was heard on the end from which the report is captured, the serving end, or else on the other (R104); of a source that
has left ACTIVE the end its stream went out on is taken first (log entry 45). -/
def Obligations.OutputsFollowTheBlocks : Prop :=
  ∀ (s : State) (f : FrameInput), s.begun = true → s.channels.length = 8 →
    ∃ u : State, exec (.loopFrameClose f) s = .next u.settle ∧ u.out.polled = u.n ∧
      (∀ i ∈ List.range u.n,
        (((u.ru i).state ≠ .active ∨ (u.ru i).serving = none) → u.out.streams.getD i none = none) ∧
          (∀ e ∈ (u.ru i).serving, (u.ru i).state = .active →
            ∃ x ∈ u.out.streams.getD i none,
              x.port = e ∧ x.hold = (u.ru i).hold.getD 0 ∧ x.record = u.allocOf i ∧
                x.programmes = (u.powerCfg i).programmes ∧
                (∀ b ∈ List.range 4,
                  (x.enables.getLsbD b = true ↔ ((u.band b).gate i).state = .opened ∨ ((u.band b).gate i).state = .forced)) ∧
                (u.bim.winners.getD i none = none → x.breakIn = none) ∧
                (u.bim.winners.getD i none = some .live → x.breakIn = some u.lvq.air) ∧
                (∀ p ∈ List.range 4, u.bim.winners.getD i none = some (.player p) → x.breakIn = some (u.player p).air) ∧
                ∀ c ∈ List.range 8,
                  x.rescue.getD c .nothing =
                    if (u.channel c).cfg.enabled = true ∧ (u.channel c).cfg.coverage.mem i = true then
                      (if (u.channel c).state = .down then .downlink
                      else if (u.channel c).state = .up ∧ u.talkThrough (u.channel c) = true then .uplink
                      else .nothing)
                    else .nothing) ∧
          u.out.orders.getD i none =
            if (u.ru i).state = .joining ∧ (u.ru i).parts = [] then some (u.ru i).readEnd else none) ∧
      ∀ c ∈ List.range 8,
        (u.out.keyed.getLsbD c = true ↔ (u.channel c).cfg.enabled = true ∧ (u.channel c).state = .up) ∧
          u.out.uplinks.getD c none = (if u.out.keyed.getLsbD c then (u.channel c).source else none) ∧
          (s.out.uplinks.getD c none = none → u.out.passed.getD c none = none) ∧
          ∀ i ∈ s.out.uplinks.getD c none,
            u.out.passed.getD c none =
              match if u.isActive i then (u.ru i).serving else (s.out.streams.getD i none).map (·.port) with
              | none => none
              | some e =>
                if (answerOf f e i).isSome then some (i, e)
                else if (answerOf f e.other i).isSome then some (i, e.other)
                else none

/-- The ALARM input at a loop frame boundary (R51, R52) and the expiry of its timer. While the part is STARTING the latch is set
with no effect on the zones (R53); while it is RUNNING every zone becomes EMERGENCY. The level, the timer and the latch follow the
sample in STARTING and RUNNING alike. ALARM_TIMER_EXPIRY taken by itself is the part of the next boundary that is due (log entry
5). -/
def Obligations.AlarmInputDrivesTheLatch : Prop :=
  (∀ (s : State) (f : FrameInput), s.power = .on →
    ∃ u : State, exec (.loopFrameClose f) s = .next u.settle ∧ u.zmg.level = some f.alarm ∧
      if f.alarm && isDue s.zmg.alarmTimer (s.now + 1) then u.zmg.alarmTimer = none ∧ u.zmg.latch = true
      else
        u.zmg.alarmTimer = alarmTable s.zmg.alarmTimer s.zmg.level f.alarm (s.now + 1) ∧ u.zmg.latch = s.zmg.latch) ∧
    (∀ s : State, s.power = .on → isDue s.zmg.alarmTimer (s.now + 1) = true → s.zmg.latch = false →
      s.clp.part = .starting → s.emergencyLaw →
      exec .alarmTimerExpiry s =
        .next (State.settle { s with
          zmg := { s.zmg with alarmTimer := none, latch := true }
          clp := { s.clp with marks := { s.clp.marks with incident := true } } })) ∧
    ∀ s : State, s.power = .on → isDue s.zmg.alarmTimer (s.now + 1) = true → s.zmg.latch = false →
      s.clp.part = .running → s.emergencyLaw →
      ∃ u : State, exec .alarmTimerExpiry s = .next u.settle ∧ u.zmg.latch = true ∧ u.zmg.alarmTimer = none ∧
        u.zmg.zones = s.zmg.zones.map (fun z => { z with mode := .emergency }) ∧ u.clp.marks.incident = true ∧
        u.zmg.changes = (if ∀ i ∈ List.range s.n, s.modeOf i = .emergency then s.zmg.changes else (s.zmg.changes + 1) % 65536) ∧
        u.lpc = s.lpc ∧ u.sau = s.sau ∧ u.flash = s.flash ∧ u.now = s.now

/-- A position that turns ANSWERING or SILENT on an end (R8), with the reach that follows (R9) and entry to JOINING (R10) or LOST
(R13). Taken by itself, the event is the part of the next frame close that it names; not due, in the other answer state or with a
shorter run, it has no effect (log entry 5). -/
def Obligations.PositionsTurnAnsweringAndSilent : Prop :=
  ∀ (s : State) (p : Fin 24) (e : ChainEnd), s.begun = true → p.val < s.n →
    (((s.ru p).view e).answering = false → 31 ≤ ((s.ru p).view e).run →
      ∃ u : State, exec (.positionTurnsAnswering p e) s = .next u.settle ∧ ((u.ru p).view e).answering = true ∧
        ((u.ru p).view e).run = 0 ∧ u.flash = s.flash ∧ u.sau = s.sau ∧ u.zmg = s.zmg ∧ u.bim = s.bim ∧ u.lvq = s.lvq ∧
        u.apl = s.apl ∧ u.csc = s.csc ∧ ∀ i ∈ List.range s.n,
          (u.ru i).reach e = reachTable u.lpc.rus e i ∧
            (i ≠ p.val → ((u.ru i).view e).answering = ((s.ru i).view e).answering ∧
              ((u.ru i).view e).run = ((s.ru i).view e).run) ∧
            ((s.ru i).state = .absent → reachTable u.lpc.rus e i = true → (u.ru i).state = .joining)) ∧
    (((s.ru p).view e).answering = true → 7 ≤ ((s.ru p).view e).run →
      ∃ u : State, exec (.positionTurnsSilent p e) s = .next u.settle ∧ ((u.ru p).view e).answering = false ∧
        ((u.ru p).view e).run = 0 ∧ u.flash = s.flash ∧ u.sau = s.sau ∧ u.zmg = s.zmg ∧ u.bim = s.bim ∧ u.lvq = s.lvq ∧
        u.apl = s.apl ∧ u.csc = s.csc ∧ ∀ i ∈ List.range s.n,
          (u.ru i).reach e = reachTable u.lpc.rus e i ∧
            (i ≠ p.val → ((u.ru i).view e).answering = ((s.ru i).view e).answering ∧
              ((u.ru i).view e).run = ((s.ru i).view e).run) ∧
            ((s.ru i).state = .active → (u.ru i).onA.reach = false → (u.ru i).onB.reach = false →
              (u.ru i).state = .lost)) ∧
    (((s.ru p).view e).answering = true ∨ ((s.ru p).view e).run < 31 → exec (.positionTurnsAnswering p e) s = .next s.settle) ∧
    (((s.ru p).view e).answering = false ∨ ((s.ru p).view e).run < 7 → exec (.positionTurnsSilent p e) s = .next s.settle)

/-- The fourth part of an identity read, the parts high octet first (log entry 19), arrives on the read end of a JOINING unit
(R12, R14, R33): ACTIVE with its serving end, the interim hold and its allocation, or MISMATCH with both delays absent. A heal
timer expires (R16): the unit swings back to its preferred end, counted and marked (R15), and nothing else changes. Each event is
taken by itself, as the part of the next frame close that it names (log entry 5). -/
def Obligations.UnitsBecomeActiveAndSwingBack : Prop :=
  (∀ (s : State) (p : Fin 24) (part : Octet), s.begun = true → p.val < s.n → (s.ru p).state = .joining →
    (s.ru p).reach (s.ru p).readEnd = true → (s.ru p).parts.length = 3 → s.pbe.allocs.length = s.n →
    let r := s.ru p
    let identity := w32 (r.parts ++ [part]) 0
    ∃ u : State, exec (.identityReadComplete p part) s = .next u.settle ∧
      u.lpc =
        { s.lpc with
          rus := s.lpc.rus.set p
            (if r.configured = 0#32 ∨ r.configured = identity then
              { r with
                state := .active, learned := some identity, heal := none, parts := [], hold := some 0
                serving := some (if r.reach r.preferred then r.preferred else r.preferred.other) }
            else
              { r with
                state := .mismatch, learned := some identity, serving := none, parts := []
                onA := { r.onA with delay := none }, onB := { r.onB with delay := none } }) } ∧
      u.clp.marks.ru.getLsbD p = true ∧ (u.isActive p = true → u.allocOf p = u.computeRecord p) ∧
      (∀ i ∈ List.range s.n, i ≠ p.val → u.allocOf i = s.allocOf i) ∧
      u.sau = s.sau ∧ u.zmg = s.zmg ∧ u.channels = s.channels ∧ u.lvq = s.lvq ∧ u.apl = s.apl ∧ u.csc = s.csc ∧
      u.flash = s.flash) ∧
    (∀ (s : State) (p : Fin 24), s.begun = true → p.val < s.n → (s.ru p).state = .active →
    isDue (s.ru p).heal (s.now + 1) = true →
    exec (.healTimerExpiry p) s =
      .next (State.settle { s with
        lpc := { s.lpc with
          rus := s.lpc.rus.set p
            { s.ru p with
              serving := some (s.ru p).preferred, swings := min ((s.ru p).swings + 1) 65535, heal := none } }
        clp := { s.clp with marks := { s.clp.marks with ru := s.clp.marks.ru ||| BitVec.twoPow 24 p.val } } }))

/-- The delay survey of an epoch boundary (R17, R18): on each end that reaches a JOINING or ACTIVE unit, the deadband of 2 DU
decides; every other delay is kept. Then the alignment (R29, R30, R31), from the serving-end delays D that the survey leaves. That
an ACTIVE unit without a delay sets the continuity flag, so that the first boundary with a delay slews, is the model's reading:
log entry 48. -/
def Obligations.EpochBoundarySurveysAndAligns : Prop :=
  (∀ s : State, s.power = .on → s.epochDue = true →
    ∃ u : State, exec .epochBoundary s = .next u.settle ∧ u.n = s.n ∧ u.epochAt = s.now ∧
      u.now = s.now ∧ u.zmg = s.zmg ∧ u.pbe = s.pbe ∧ u.bands = s.bands ∧ u.bim = s.bim ∧ u.lvq = s.lvq ∧ u.apl = s.apl ∧
      u.csc = s.csc ∧ u.flash = s.flash ∧ u.lpc.rA = s.lpc.rA ∧ u.lpc.rB = s.lpc.rB ∧
      ∀ i ∈ List.range s.n,
        (u.ru i).state = (s.ru i).state ∧ (u.ru i).serving = (s.ru i).serving ∧
          ∀ e ∈ [ChainEnd.a, .b],
            ((u.ru i).view e).delay =
              (if ((s.ru i).state = .joining ∨ (s.ru i).state = .active) ∧ (s.ru i).reach e = true then
                surveyTable ((s.ru i).view e).delay ((s.ru i).view e).echo
              else ((s.ru i).view e).delay)) ∧
    (∀ s : State, s.power = .on → s.epochDue = true →
    ∃ u : State, exec .epochBoundary s = .next u.settle ∧ u.sau.guardDu = s.sau.guardDu ∧
      u.sau.continuity = (List.range s.n).any s.isActive ∧
      (u.delaysInHand = [] → u.sau.target = s.sau.target ∧ u.sau.applied = s.sau.applied) ∧
      (u.delaysInHand ≠ [] →
        (∃ least ∈ u.delaysInHand, ∃ most ∈ u.delaysInHand, (∀ d ∈ u.delaysInHand, least ≤ d ∧ d ≤ most) ∧
          u.sau.target = min (min (most + s.sau.guardDu) (least + 16383)) 32767) ∧
        u.sau.applied =
          if s.sau.continuity then
            (if u.sau.target ≤ s.sau.applied + 25 ∧ s.sau.applied ≤ u.sau.target + 25 then u.sau.target
            else if s.sau.applied < u.sau.target then s.sau.applied + 25 else s.sau.applied - 25)
          else u.sau.target) ∧
      ∀ i ∈ List.range s.n,
        ((u.ru i).hold, (u.ru i).aligned) =
          holdTable (s.isActive i) u.sau.applied ((u.ru i).serving.bind fun e => ((u.ru i).view e).delay))

/-- SET_LOOP that repeats the stored chain (R23): the guard alone is stored, clamped to 0..500. SET_LOOP that changes the length,
an identity or a preferred end re-forms the loop (R22, R36, R41, R79): the entries as R7 lists them, the depths 0, the guard, the
continuity flag clear with T_target and T_applied kept, thresholds kept up to the smaller N, splits by R41, allocations OFF, the
RU marks of exactly the new positions; declared positions that come within N put their EMERGENCY set in EMERGENCY as one set (R41
step 4). In an emergency, or with a value out of range, it is refused and changes nothing. The outputs of the loop frame in
progress stay until the next: log entry 43. -/
def Obligations.SetLoopSetsTheGuardOrReforms : Prop :=
  ∀ (s : State) (tag : Octet) (body : List Octet), s.accepts tag → body.length = 123 →
    (s.anyEmergency = true → exec (.setLoop tag body) s = .next (s.replied 0x10 tag .emergency [])) ∧
    (s.anyEmergency = false →
      (u8 body 0 < 1 ∨ 24 < u8 body 0 ∨ (∃ i ∈ List.range (u8 body 0), 2 < u8 body (7 + 5 * i)) →
        exec (.setLoop tag body) s = .next (s.replied 0x10 tag .invalid [])) ∧
      (1 ≤ u8 body 0 → u8 body 0 ≤ 24 → (∀ i ∈ List.range (u8 body 0), u8 body (7 + 5 * i) ≤ 2) →
        (s.loopRepeats body →
          exec (.setLoop tag body) s =
            .next (State.replied { s with sau := { s.sau with guardDu := min (u16 body 1) 500 } } 0x10 tag .ok [])) ∧
        (¬ s.loopRepeats body → 1 ≤ s.n → s.emergencyLaw → s.owedLaw →
          ∃ u : State, exec (.setLoop tag body) s = .next (u.replied 0x10 tag .ok []) ∧
            u.lpc =
              ⟨(List.range (u8 body 0)).map fun i =>
                  RuEntry.initial (w32 body (3 + 5 * i)) (endAsked body (u8 body 0) i),
                0, 0⟩ ∧
            u.sau = { s.sau with guardDu := min (u16 body 1) 500, continuity := false } ∧
            u.zmg.zones =
              (List.range (u8 body 0)).map (fun i =>
                ⟨if i < s.n then (s.zmg.zones.getD i ⟨0, .normal⟩).threshold else 0,
                  if emergencyTable (u8 body 0) s.zmg.plan.spread s.zmg.incident false i then .emergency else .normal⟩) ∧
            u.zmg.stored = (if s.zmg.stored = s.n + 1 ∨ u8 body 0 + 1 < s.zmg.stored then u8 body 0 + 1 else s.zmg.stored) ∧
            u.zmg.effective =
              (if s.zmg.effective = s.n + 1 ∨ u8 body 0 + 1 < s.zmg.effective then u8 body 0 + 1 else s.zmg.effective) ∧
            u.zmg.incident = s.zmg.incident ∧
            u.pbe.allocs.length = u8 body 0 ∧ (∀ a ∈ u.pbe.allocs, a.status = .off ∧ a.carriers = []) ∧
            (∀ i ∈ List.range 24, u.clp.marks.ru.getLsbD i = decide (i < u8 body 0)) ∧ u.lvq = s.lvq ∧ u.flash = s.flash ∧
            u.out = s.out ∧
            if (List.range (u8 body 0)).any s.zmg.incident.mem then
              u.zmg.changes = (s.zmg.changes + 1) % 65536 ∧ u.clp.marks.incident = true ∧ u.csc.upload = none
            else u.zmg.changes = s.zmg.changes ∧ u.apl = s.apl ∧ u.csc = s.csc)))

/-! ### Zones and power -/

/-- SET_ZONE, SET_SPLIT and SET_EVACUATION_PLAN (R40, R43, R56): the thresholds of the zone set within 1..N, clamped to 14; the
stored split alone, with the incident mark where it changes (log entry 42); the plan with its spread clamped to 3. That presence
bits 1 to 7 of SET_ZONE are ignored is the model's choice (log entry 46). A split or a head out of range is refused, and so is a
plan in an emergency. -/
def Obligations.ZoneSettingsAreWritten : Prop :=
  (∀ (s : State) (tag : Octet) (body : List Octet), s.accepts tag → body.length = 5 →
    exec (.setZone tag body) s =
      .next (State.replied { s with
        zmg := { s.zmg with
          zones := s.zmg.zones.zipIdx.map fun x =>
            if (octetAt body 3).getLsbD 0 && (zonesAt body 0).mem x.2 then { x.1 with threshold := min (u8 body 4) 14 }
            else x.1 } } 0x18 tag .ok [])) ∧
    (∀ (s : State) (tag k : Octet), s.accepts tag →
      exec (.setSplit tag [k]) s =
        .next (if 1 ≤ k.toNat ∧ k.toNat ≤ s.n + 1 then
          State.replied { s with
            zmg := { s.zmg with stored := k.toNat }
            clp := { s.clp with
              marks := { s.clp.marks with incident := s.clp.marks.incident || s.zmg.stored != k.toNat } } } 0x19 tag .ok []
        else s.replied 0x19 tag .invalid [])) ∧
    ∀ (s : State) (tag a b c : Octet), s.accepts tag →
      exec (.setEvacuationPlan tag [a, b, c]) s =
        .next (if s.anyEmergency = true then s.replied 0x1D tag .emergency []
        else if (a.toNat < 96 ∨ a = 0xFF#8) ∧ (b.toNat < 96 ∨ b = 0xFF#8) then
          State.replied { s with
            zmg := { s.zmg with
              plan :=
                ⟨if a.toNat < 96 then some a.toNat else none, if b.toNat < 96 then some b.toNat else none,
                  min c.toNat 3⟩ } } 0x1D tag .ok []
        else s.replied 0x1D tag .invalid [])

/-- DECLARE_INCIDENT (R46, R47, R48): the incident set and the WHOLE marker grow, the modes become the EMERGENCY set, the count
rises by one exactly where a zone changed mode, and the reply carries both; thresholds, splits, latch and plan are kept. Where
emergency begins with it, players 0 and 1 are taken over by the evacuation plan (R156), and an upload is aborted (R169), its
replies ahead of this one (log entry 31) and in the order of log entry 62. -/
def Obligations.DeclareIncidentPutsZonesInEmergency : Prop :=
  ∀ (s : State) (tag : Octet) (body : List Octet), s.accepts tag → body.length = 4 →
    (u8 body 3 > 1 ∨ (u8 body 3 = 0 ∧ zonesAt body 0 = 0#24) →
      exec (.declareIncident tag body) s = .next (s.replied 0x1B tag .invalid [])) ∧
    (u8 body 3 = 1 ∨ (u8 body 3 = 0 ∧ zonesAt body 0 ≠ 0#24) → s.emergencyLaw → s.owedLaw → s.apl.players.length = 4 →
      ∃ u : State,
        exec (.declareIncident tag body) s =
          .next (u.replied 0x1B tag .ok (eZones u.emergencyZones ++ e16 u.zmg.changes)) ∧
        u.zmg =
          { s.zmg with
            incident := s.zmg.incident ||| zonesAt body 0
            whole := s.zmg.whole || u8 body 3 == 1
            zones := u.zmg.zones
            changes := if s.emergencyZones = u.emergencyZones then s.zmg.changes else (s.zmg.changes + 1) % 65536 } ∧
        u.zmg.zones.map (·.threshold) = s.zmg.zones.map (·.threshold) ∧
        (∀ i ∈ List.range s.n,
          (u.modeOf i = .emergency ↔
            emergencyTable s.n s.zmg.plan.spread u.zmg.incident (u.zmg.whole || s.zmg.latch) i = true)) ∧
        u.lpc = s.lpc ∧ u.sau = s.sau ∧ u.lvq = s.lvq ∧ u.flash = s.flash ∧ u.out = s.out ∧
        u.clp = { s.clp with marks := u.clp.marks, slots := u.clp.slots, replies := u.clp.replies } ∧
        (s.csc.upload = none ∨ s.anyEmergency = true ∨ u.anyEmergency = false →
          { u.csc with port := none } = { s.csc with port := none } ∧ u.clp.slots = s.clp.slots ∧ u.clp.replies = s.clp.replies) ∧
        (s.anyEmergency = true ∨ u.anyEmergency = false → u.apl = s.apl) ∧
        (s.anyEmergency = false → u.anyEmergency = true →
          (∀ up ∈ s.csc.upload,
            u.csc.upload = none ∧ (u.dirEntry up.slot).state = .damaged ∧
              u.clp.replies = s.clp.replies ++ s.clp.statusReplies (up.owes.map (·, .aborted))) ∧
          (∀ p ∈ [2, 3], (∀ up ∈ s.csc.upload, (s.player p).clipSlot ≠ some up.slot) → u.player p = s.player p) ∧
          ∀ p ∈ [0, 1],
            (s.zmg.plan.head p = none →
              (u.player p).running = false ∧ (u.player p).missing = true ∧ u.clp.marks.player.getLsbD p = true ∧
                (u.player p).ended = if (s.player p).running then some .preEmpted else (s.player p).ended) ∧
            ∀ i ∈ s.zmg.plan.head p, ∀ x ∈ s.evacuating p i, (∀ up ∈ s.csc.upload, x.clipSlot ≠ some up.slot) →
              u.player p = x ∧ .player p ∈ u.bim.activation))

/-- CLEAR_INCIDENT (R50): refused with LOCKED while ALARM is asserted, which before its first sample it is not (log entry 40);
otherwise the incident state is emptied, every zone is NORMAL, the two evacuation players are at rest, and the reply is OK. -/
def Obligations.ClearIncidentReturnsEveryZone : Prop :=
  ∀ (s : State) (tag : Octet), s.accepts tag →
    (s.zmg.level = some true → exec (.clearIncident tag []) s = .next (s.replied 0x1C tag .locked [])) ∧
    (s.zmg.level ≠ some true → s.emergencyLaw → s.apl.players.length = 4 →
      ∃ u : State, exec (.clearIncident tag []) s = .next (u.replied 0x1C tag .ok []) ∧
        u.zmg =
          { s.zmg with
            incident := 0#24, whole := false, latch := false
            zones := s.zmg.zones.map fun z => { z with mode := .normal }
            changes := if s.anyEmergency then (s.zmg.changes + 1) % 65536 else s.zmg.changes } ∧
        (s.anyEmergency = true → (u.player 0).running = false ∧ (u.player 1).running = false) ∧
        (∀ p ∈ [2, 3], u.player p = s.player p) ∧ u.lpc = s.lpc ∧ u.sau = s.sau ∧ u.flash = s.flash ∧
        u.csc.upload = s.csc.upload ∧ u.out = s.out)

/-- SET_RU_POWER (R59, R60): the present fields, clamped, in the records of the zone set within 1..N; the records of all others,
and the allocations of the positions whose record did not change, are kept; the positions whose record changed are recomputed. A
band added to or removed from a unit moves its gate (R122): a removed band's gate is DISABLED, an added and eligible one's is
FORCED in an emergency and otherwise evaluated fresh, with the threshold in use (log entry 51) and the due boundary of log entry
13; of the other gates only OPEN and PENDING ones change places, their hold timers kept, and the places that can be filled are
filled. That bits 6 and 7 of the programme octet, bits 4 to 7 of the band octet and presence bits 9 to 15 are ignored is the
model's choice (log entry 46). -/
def Obligations.SetRuPowerWritesAndRecomputes : Prop :=
  ∀ (s : State) (tag : Octet) (body : List Octet), s.accepts tag → body.length = 21 → s.pbe.cfgs.length = s.n →
    s.pbe.allocs.length = s.n → s.n ≤ 24 →
    ∃ u : State, exec (.setRuPower tag body) s = .next (u.replied 0x20 tag .ok []) ∧
      (∀ i ∈ List.range s.n,
        (u.powerCfg i).limit =
            (if (zonesAt body 0).mem i && present16 body 3 0 then max 100 (min (u16 body 5) 20000)
            else (s.powerCfg i).limit) ∧
          (u.powerCfg i).broadcast =
            (if (zonesAt body 0).mem i && present16 body 3 1 then min (u16 body 7) 20000
            else (s.powerCfg i).broadcast) ∧
          (u.powerCfg i).rescue =
            (if (zonesAt body 0).mem i && present16 body 3 2 then min (u16 body 9) 20000
            else (s.powerCfg i).rescue) ∧
          ((zonesAt body 0).mem i = false → u.powerCfg i = s.powerCfg i) ∧
          (u.powerCfg i ≠ s.powerCfg i →
            ∀ b ∈ List.range 4,
              (u.powerCfg i).mobile.getD b 0 =
                (if present16 body 3 (3 + b) then min (u16 body (11 + 2 * b)) 20000
                else (s.powerCfg i).mobile.getD b 0)) ∧
          (u.powerCfg i).programmes =
            (if (zonesAt body 0).mem i && present16 body 3 7 then (octetAt body 19).setWidth 6
            else (s.powerCfg i).programmes) ∧
          (u.powerCfg i).bands =
            (if (zonesAt body 0).mem i && present16 body 3 8 then (octetAt body 20).setWidth 4
            else (s.powerCfg i).bands) ∧
          u.allocOf i = if u.powerCfg i = s.powerCfg i then s.allocOf i else u.computeRecord i) ∧
      (s.gateLaw → u.gateLaw ∧ (s.capacityLaw → u.capacityLaw) ∧
        ∀ b ∈ List.range 4,
          (u.band b).cfg = (s.band b).cfg ∧ (u.band b).inUse = (s.band b).inUse ∧ (u.band b).feed = (s.band b).feed ∧
            ((s.band b).cfg.capacity ≤ (s.band b).count .opened ∨ (s.band b).count .pending = 0 →
              (s.band b).cfg.capacity ≤ (u.band b).count .opened ∨ (u.band b).count .pending = 0) ∧
            ∀ i ∈ List.range s.n,
              let g := (s.band b).gate i
              let h := (u.band b).gate i
              let was := (s.powerCfg i).bands.getLsbD b
              let now := (u.powerCfg i).bands.getLsbD b
              h.latest = g.latest ∧
                if was = true ∧ now = false then h.state = .disabled ∧ h.hold = none
                else if was = false ∧ now = true ∧ u.eligible b i = true then
                  (if s.modeOf i = .emergency then h.state = .forced ∧ h.hold = none
                  else if (s.band b).inUse ≤ g.latest then
                    (h.state = .opened ∨ h.state = .pending) ∧ h.hold = some (s.now + 4 * (s.band b).cfg.hold + 1)
                  else h.state = .closed ∧ h.hold = none)
                else
                  h.hold = g.hold ∧
                    if g.state = .opened ∨ g.state = .pending then h.state = .opened ∨ h.state = .pending
                    else h.state = g.state) ∧
      u.pbe.bank0 = s.pbe.bank0 ∧ u.pbe.bank1 = s.pbe.bank1 ∧ u.lpc = s.lpc ∧ u.sau = s.sau ∧ u.zmg = s.zmg ∧
      u.channels = s.channels ∧ u.bim = s.bim ∧ u.lvq = s.lvq ∧ u.apl = s.apl ∧ u.csc = s.csc ∧ u.flash = s.flash

/-- SET_PLAN (R62, R63): the bank is written whole with its floors clamped to 256, and every ACTIVE unit that uses it is
recomputed; a bank number or a class out of range is refused. -/
def Obligations.SetPlanWritesTheBankAndRecomputes : Prop :=
  ∀ (s : State) (tag : Octet) (body : List Octet), s.accepts tag → body.length = 15 → s.budgetLaw →
    (u8 body 0 > 1 ∨ (∃ j ∈ List.range 6, u8 body (1 + j) < 1 ∨ 4 < u8 body (1 + j)) →
      exec (.setPlan tag body) s = .next (s.replied 0x21 tag .invalid [])) ∧
    (u8 body 0 ≤ 1 → (∀ j ∈ List.range 6, 1 ≤ u8 body (1 + j) ∧ u8 body (1 + j) ≤ 4) →
      ∃ u : State, exec (.setPlan tag body) s = .next (u.replied 0x21 tag .ok []) ∧
        (if u8 body 0 = 0 then u.pbe.bank0 else u.pbe.bank1) =
          ⟨u8 body 2, u8 body 1, [u8 body 3, u8 body 4, u8 body 5, u8 body 6],
            [min (u16 body 7) 256, min (u16 body 9) 256, min (u16 body 11) 256, min (u16 body 13) 256]⟩ ∧
        (if u8 body 0 = 0 then u.pbe.bank1 = s.pbe.bank1 else u.pbe.bank0 = s.pbe.bank0) ∧
        u.pbe.cfgs = s.pbe.cfgs ∧ u.budgetLaw ∧
        u = { s with pbe := u.pbe, clp := { s.clp with marks := { s.clp.marks with power := u.clp.marks.power } } })

/-- The allocation of R68 to R71 stays within the limit and within each request (R72), with scales and common factor in the Q8
range, for carriers of the classes 1..4 and floors of at most 256; the status says which branch was taken. The branches give the
values of their rules: OFF and FULL those of R68; REDUCED the floors of the classes below the one that covers the excess, and that
one's scale (R69, R70); OVERLOAD the floors and the common factor (R71). -/
def Obligations.AllocationStaysWithinTheLimit : Prop :=
  ∀ (plim bankNo : Nat) (bank : PlanBank) (cs : List Carrier),
    (∀ x ∈ cs, 1 ≤ x.cls ∧ x.cls ≤ 4) → (∀ m ∈ bank.floors, m ≤ 256) →
    let a := allocate plim bankNo bank cs
    totalAlloc a.carriers ≤ plim ∧ (∀ x ∈ a.carriers, x.alloc ≤ x.request) ∧
      a.carriers.map (fun x => { x with alloc := 0 }) = cs.map (fun x => { x with alloc := 0 }) ∧ a.plim = some plim ∧
      a.bank = some bankNo ∧ (∀ m ∈ a.sigma, m ≤ 256) ∧ a.sigma.length = 4 ∧ a.tau ≤ 256 ∧
      (a.status = .off ↔ plim = 0) ∧ (a.status = .full ↔ plim ≠ 0 ∧ totalRequest cs ≤ plim) ∧
      (a.status = .overload → a.tau < 256) ∧
      (plim = 0 → a.sigma = [0, 0, 0, 0] ∧ a.tau = 256 ∧ ∀ x ∈ a.carriers, x.alloc = 0) ∧
      (a.status = .full →
        a.sigma = [256, 256, 256, 256] ∧ a.tau = 256 ∧ a.carriers = cs.map fun x => { x with alloc := x.request }) ∧
      (plim ≠ 0 → plim < totalRequest cs →
        (∀ c ∈ [1, 2, 3, 4], Covers cs bank.floors plim c → (∀ d ∈ [1, 2, 3, 4], c < d → ¬ Covers cs bank.floors plim d) →
          a.status = .reduced ∧ a.tau = 256 ∧
            a.sigma =
              ([1, 2, 3, 4].map fun d =>
                if d < c then 256
                else if c < d then floorScale cs bank.floors d
                else 256 * (demand cs c - (walkTotal cs bank.floors c - plim)) / demand cs c) ∧
            a.carriers = cs.map fun x => { x with alloc := x.request * a.sigma.getD (x.cls - 1) 256 / 256 }) ∧
        ((∀ c ∈ [1, 2, 3, 4], ¬ Covers cs bank.floors plim c) →
          a.status = .overload ∧ a.sigma = [1, 2, 3, 4].map (floorScale cs bank.floors) ∧
            a.tau = 256 * plim / walkTotal cs bank.floors 0 ∧
            a.carriers =
              cs.map fun x => { x with alloc := x.request * a.sigma.getD (x.cls - 1) 256 / 256 * a.tau / 256 }))

/-! ### Rescue channels and the voter -/

/-- DL_ON and DL_OFF at the portal shelf (R84, R86 to R88, R92, R99): the channel by the table of its state, a disabled channel by
its level alone, an event that brings no change ignored; every ACTIVE unit where the channel begins or ceases to radiate is
recomputed, and nothing else changes. The boundary at which the turnaround is due, now + 4L + 1, rests on log entry 13. -/
def Obligations.CarrierEventsMoveTheChannel : Prop :=
  ∀ (s : State) (c : Fin 8), s.begun = true → s.channels.length = 8 → s.budgetLaw → s.n ≤ 24 →
    ((s.channel c).carrier = false →
      exec (.dlOff c) s =
        .next (State.settle { s with pins := { s.pins with carriers := s.pins.carriers &&& ~~~ BitVec.twoPow 8 c.val } }) ∧
      ∃ u : State, exec (.dlOn c) s = .next u.settle ∧
        u.channels =
          s.channels.set c
            (if (s.channel c).cfg.enabled then (s.channel c).afterDlOn else { s.channel c with carrier := true }) ∧
        u.budgetLaw ∧ u.clp.marks.channel = s.clp.marks.channel ||| BitVec.twoPow 8 c.val ∧
        u =
          { s with
            pins := { s.pins with carriers := s.pins.carriers ||| BitVec.twoPow 8 c.val }
            channels := u.channels, pbe := { s.pbe with allocs := u.pbe.allocs }
            clp := { s.clp with
              marks := { s.clp.marks with channel := u.clp.marks.channel, power := u.clp.marks.power } } }) ∧
    ((s.channel c).carrier = true →
      exec (.dlOn c) s =
        .next (State.settle { s with pins := { s.pins with carriers := s.pins.carriers ||| BitVec.twoPow 8 c.val } }) ∧
      ∃ u : State, exec (.dlOff c) s = .next u.settle ∧
        u.channels =
          s.channels.set c
            (if (s.channel c).cfg.enabled then (s.channel c).afterDlOff s.now else { s.channel c with carrier := false }) ∧
        u.budgetLaw ∧ u.clp.marks.channel = s.clp.marks.channel ||| BitVec.twoPow 8 c.val ∧
        u =
          { s with
            pins := { s.pins with carriers := s.pins.carriers &&& ~~~ BitVec.twoPow 8 c.val }
            channels := u.channels, pbe := { s.pbe with allocs := u.pbe.allocs }
            clp := { s.clp with
              marks := { s.clp.marks with channel := u.clp.marks.channel, power := u.clp.marks.power } } })

/-- A frame close from the reports on. The reports (R19): of a JOINING or ACTIVE unit the answer of R19, where there is one,
replaces the report record and the last thermal state, whose change marks the unit. An enabled channel in any state (R96): a
position leaves the lockout set as its unit leaves ACTIVE or is heard below Q_close. A channel that is UP and stays UP (R90, R95,
R105, R107): the candidates by the reports of that frame, the selection by the table of R107, the emergency call of the source that
the frame ends with; with no candidate the hang timer starts if it was stopped, and the talk timer then stops; with one the hang
timer is stopped, and where it was running the talk timer starts afresh, with the marker clear and a talk timeout. An IDLE channel,
and one in TURN whose turnaround expires, enters UP with the best candidate where there is an opening one, and is otherwise IDLE
(R86, R88, R89); in DOWN and in TURN the candidates change nothing. The band frames (R120): the record's open threshold is in use
from now on (R115), the latest activity of the ACTIVE units, and in a band with its feed every eligible gate of a NORMAL zone by
activity, threshold and hold. -/
def Obligations.FrameCloseSelectsTheSource : Prop :=
  ∀ (s : State) (f : FrameInput), s.begun = true → s.channels.length = 8 → s.n ≤ 24 →
    ∃ u : State, exec (.loopFrameClose f) s = .next u.settle ∧
      (∀ i ∈ List.range s.n,
        if (u.ru i).state = .joining ∨ (u.ru i).state = .active then
          match (u.ru i).reportAnswer f i with
          | some a =>
            (u.ru i).report = ⟨a.quality, a.calls, a.activity⟩ ∧ (u.ru i).thermal = a.thermal ∧
              (a.thermal ≠ (s.ru i).thermal → u.clp.marks.ru.getLsbD i = true)
          | none =>
            (u.ru i).thermal = (s.ru i).thermal ∧
              (u.ru i).report = if (s.ru i).state = .joining ∨ (s.ru i).state = .active then (s.ru i).report else Report.clear
        else (u.ru i).report = (s.ru i).report ∧ (u.ru i).thermal = (s.ru i).thermal) ∧
      (∀ c ∈ List.range 8, (s.channel c).cfg.enabled = true → isDue (s.channel c).talkT (s.now + 1) = false →
        ∀ i ∈ List.range 24,
          (u.channel c).lockout.mem i =
            ((s.channel c).lockout.mem i && !(s.isActive i && !u.isActive i) &&
              !(u.isActive i && decide (u.qualityOf i c < (s.channel c).cfg.qClose)))) ∧
      (∀ c ∈ List.range 8, (s.channel c).cfg.enabled = true → (s.channel c).state = .up → 0 < (s.channel c).cfg.hang →
        isDue (s.channel c).hangT (s.now + 1) = false → isDue (s.channel c).talkT (s.now + 1) = false →
        (u.channel c).state = .up ∧
          (u.channel c).cands =
            ((List.range s.n).filter fun i =>
              u.isActive i && (s.channel c).cfg.coverage.mem i && !(u.channel c).lockout.mem i &&
                decide ((s.channel c).cfg.qClose ≤ u.qualityOf i c)).map (fun i => ⟨i, u.qualityOf i c⟩) ∧
          Selects (u.channel c).cands (s.channel c).cfg.hysteresis (s.channel c).source (u.channel c).source ∧
          (u.channel c).marker = ((s.channel c).marker || (u.channel c).source.any fun i => u.callOf i c) ∧
          ((s.channel c).marker = false → (u.channel c).marker = true →
            (u.channel c).talkT = none ∧ u.clp.marks.channel.getLsbD c = true) ∧
          ((u.channel c).cands = [] →
            (u.channel c).hangT =
              (match (s.channel c).hangT with
                | some d => some d
                | none => some (s.now + 1 + 4 * (s.channel c).cfg.hang))) ∧
          ((u.channel c).cands ≠ [] → (u.channel c).hangT = none) ∧
          (u.channel c).talkT =
            if (u.channel c).cands = [] then (if (s.channel c).hangT = none then none else (s.channel c).talkT)
            else if (s.channel c).marker = false ∧ (u.channel c).marker = true then none
            else if (s.channel c).hangT ≠ none ∧ (s.channel c).marker = false ∧ (s.channel c).cfg.talk ≠ 0 then
              some (s.now + 1 + 4000 * (s.channel c).cfg.talk)
            else (s.channel c).talkT) ∧
      (∀ c ∈ List.range 8, (s.channel c).cfg.enabled = true → (s.channel c).state ≠ .up →
        let old := s.channel c
        let new := u.channel c
        let opening := new.cands.any fun x => decide (old.cfg.qOpen ≤ x.q)
        new.cands =
            ((List.range s.n).filter fun i =>
              u.isActive i && old.cfg.coverage.mem i && !new.lockout.mem i &&
                decide (old.cfg.qClose ≤ u.qualityOf i c)).map (fun i => ⟨i, u.qualityOf i c⟩) ∧
          if old.state = .idle ∨ (old.state = .turn ∧ isDue old.turnT (s.now + 1) = true) then
            if opening then
              new.state = .up ∧ new.turnT = none ∧ new.hangT = none ∧ u.clp.marks.channel.getLsbD c = true ∧
                ∃ b ∈ new.cands, b.best new.cands ∧ new.source = some b.idx ∧ new.marker = u.callOf b.idx c ∧
                  new.talkT = if new.marker || old.cfg.talk == 0 then none else some (s.now + 1 + 4000 * old.cfg.talk)
            else
              new.state = .idle ∧ (old.source = none → new.source = none) ∧
                (old.state = .turn → new.turnT = none ∧ u.clp.marks.channel.getLsbD c = true)
          else
            new.state = old.state ∧ (old.source = none → new.source = none) ∧ new.turnT = old.turnT ∧
              new.hangT = old.hangT ∧ new.talkT = old.talkT ∧ new.marker = old.marker) ∧
      ∀ b ∈ List.range 4, s.gateLaw → isDue s.zmg.alarmTimer (s.now + 1) = false →
        (u.band b).inUse = (s.band b).cfg.threshold ∧ ∀ i ∈ List.range s.n,
          let g := (s.band b).gate i
          let h := (u.band b).gate i
          h.latest = (if u.isActive i then u.activityOf i b else g.latest) ∧
            (u.eligible b i = true → u.modeOf i = .normal →
              if (s.band b).cfg.threshold ≤ h.latest then
                (h.state = .opened ∨ h.state = .pending) ∧ h.hold = some (s.now + 1 + 4 * (s.band b).cfg.hold)
              else if (g.state = .opened ∨ g.state = .pending) ∧ isDue g.hold (s.now + 1) = false then
                (h.state = .opened ∨ h.state = .pending) ∧ h.hold = g.hold
              else h.state = .closed ∧ h.hold = none)

/-- The three channel timers (R88, R89, R91, R94, R108), each taken by itself as the part of the next frame close that it names
(log entry 5): the turnaround leads to UP with the best candidate or to IDLE, the hang to DOWN or IDLE, the talk timer locks the
source out and the voter selects again. -/
def Obligations.ChannelTimersExpire : Prop :=
  ∀ (s : State) (c : Fin 8), s.power = .on → s.channels.length = 8 → (s.channel c).cfg.enabled = true →
    ((s.channel c).state = .turn → isDue (s.channel c).turnT (s.now + 1) = true →
      ∃ u : State, exec (.turnaroundExpiry c) s = .next u.settle ∧ u =
          { s with
            channels := u.channels, pbe := { s.pbe with allocs := u.pbe.allocs }
            clp := { s.clp with
              marks := { s.clp.marks with channel := u.clp.marks.channel, power := u.clp.marks.power } } } ∧
        (if (s.candidates c).any fun x => decide ((s.channel c).cfg.qOpen ≤ x.q) then
          ∃ b ∈ s.candidates c, b.best (s.candidates c) ∧
            u.channels = s.channels.set c
              { (s.channel c).changeSource (some b.idx) with
                cands := s.candidates c, state := .up, turnT := none, hangT := none, marker := s.callOf b.idx c
                talkT := if s.callOf b.idx c || (s.channel c).cfg.talk == 0 then none
                  else some (s.now + 1 + 4000 * (s.channel c).cfg.talk) }
        else
          u.channels = s.channels.set c
            { s.channel c with cands := s.candidates c, state := .idle, turnT := none })) ∧
    ((s.channel c).state = .up → isDue (s.channel c).hangT (s.now + 1) = true →
      ∃ u : State, exec (.hangExpiry c) s = .next u.settle ∧ u =
          { s with
            channels := u.channels, pbe := { s.pbe with allocs := u.pbe.allocs }
            clp := { s.clp with
              marks := { s.clp.marks with channel := u.clp.marks.channel, power := u.clp.marks.power } } } ∧
        u.channels = s.channels.set c
          ((s.channel c).leavesUp (if (s.channel c).dlPending && (s.channel c).carrier then .down else .idle))) ∧
    (∀ i ∈ (s.channel c).source, (s.channel c).state = .up → isDue (s.channel c).talkT (s.now + 1) = true →
      (s.channel c).marker = false →
      ∃ u : State, exec (.talkTimeout c) s = .next u.settle ∧ u =
          { s with
            channels := u.channels, pbe := { s.pbe with allocs := u.pbe.allocs }
            clp := { s.clp with
              marks := { s.clp.marks with channel := u.clp.marks.channel, power := u.clp.marks.power } } } ∧
        (u.channel c).lockout = (s.channel c).lockout ||| BitVec.twoPow 24 i ∧
        (u.channel c).talkouts = min ((s.channel c).talkouts + 1) 65535 ∧ (u.channel c).state = .up ∧
        (u.channel c).cands = (s.candidates c).filter (fun x => x.idx != i) ∧
        (if (u.channel c).cands = [] then
          (u.channel c).source = none ∧ (u.channel c).talkT = none ∧
            (u.channel c).hangT =
              (match (s.channel c).hangT with
                | some d => some d
                | none => some (s.now + 1 + 4 * (s.channel c).cfg.hang))
        else
          ∃ b ∈ (u.channel c).cands, b.best (u.channel c).cands ∧ (u.channel c).source = some b.idx ∧
            (u.channel c).marker = s.callOf b.idx c ∧
            (u.channel c).talkT =
              if s.callOf b.idx c || (s.channel c).cfg.talk == 0 then none
              else some (s.now + 1 + 4000 * (s.channel c).cfg.talk)) ∧
        ∀ d ∈ List.range 8, d ≠ c.val → u.channel d = s.channel d)

/-- SET_CHANNEL (R80, R82, R83): refused with INVALID on a channel number, a code or thresholds out of order; otherwise the
present fields are written, clamped. A channel that is disabled returns to IDLE, its keyed item released with it (log entry 43),
one that is enabled with its carrier on enters DOWN, and the lockout set and the source stay within the coverage. That presence
bits 10 to 15 are ignored is the model's choice (log entry 46). -/
def Obligations.SetChannelWritesTheRecord : Prop :=
  ∀ (s : State) (tag : Octet) (body : List Octet), s.accepts tag → body.length = 18 → s.channels.length = 8 →
    (u8 body 0 < 1 ∨ 8 < u8 body 0 →
      exec (.setChannel tag body) s = .next (s.replied 0x28 tag .invalid [])) ∧
    (1 ≤ u8 body 0 → u8 body 0 ≤ 8 →
      let c := u8 body 0 - 1
      let old := (s.channel c).cfg
      let qOpen := if present16 body 1 2 then u8 body 7 else old.qOpen
      let qClose := if present16 body 1 3 then u8 body 8 else old.qClose
      ((present16 body 1 0 = true ∧ 1 < u8 body 3) ∨ (present16 body 1 8 = true ∧ 1 < u8 body 16) ∨
        (present16 body 1 9 = true ∧ 1 < u8 body 17) ∨ qOpen < qClose →
        exec (.setChannel tag body) s = .next (s.replied 0x28 tag .invalid [])) ∧
      ((present16 body 1 0 = true → u8 body 3 ≤ 1) → (present16 body 1 8 = true → u8 body 16 ≤ 1) →
        (present16 body 1 9 = true → u8 body 17 ≤ 1) → qClose ≤ qOpen →
        ∃ u : State, exec (.setChannel tag body) s = .next (u.replied 0x28 tag .ok []) ∧
          (u.channel c).cfg =
            ⟨if present16 body 1 0 then u8 body 3 == 1 else old.enabled,
              if present16 body 1 1 then zonesAt body 4 else old.coverage, qOpen, qClose,
              if present16 body 1 4 then min (u8 body 9) 64 else old.hysteresis,
              if present16 body 1 5 then min (u16 body 10) 1000 else old.turnaround,
              if present16 body 1 6 then min (u16 body 12) 2000 else old.hang,
              if present16 body 1 7 then (if u16 body 14 = 0 then 0 else max 10 (min (u16 body 14) 300)) else old.talk,
              if present16 body 1 8 then (if u8 body 16 = 1 then .ulFirst else .dlFirst) else old.direction,
              if present16 body 1 9 then u8 body 17 == 1 else old.talkThrough⟩ ∧
          (u.channel c).carrier = (s.channel c).carrier ∧
          (old.enabled = true → (u.channel c).cfg.enabled = false →
            (u.channel c).state = .idle ∧ (u.channel c).source = none ∧ (u.channel c).lockout = 0#24 ∧
              (u.channel c).turnT = none ∧ (u.channel c).hangT = none ∧ (u.channel c).talkT = none ∧
              (u.channel c).keyed = false) ∧
          (old.enabled = false → (u.channel c).cfg.enabled = true → (s.channel c).carrier = true →
            (u.channel c).state = .down) ∧
          (old.enabled = (u.channel c).cfg.enabled →
            (u.channel c).state = (s.channel c).state ∧
              (u.channel c).lockout = (s.channel c).lockout &&& (u.channel c).cfg.coverage ∧
              (u.channel c).source =
                (match (s.channel c).source with
                  | some i => if (u.channel c).cfg.coverage.mem i then some i else none
                  | none => none)) ∧
          (∀ d ∈ List.range 8, d ≠ c → u.channel d = s.channel d) ∧
          u =
            { s with
              channels := u.channels, pbe := { s.pbe with allocs := u.pbe.allocs }
              clp := { s.clp with
                marks := { s.clp.marks with channel := u.clp.marks.channel, power := u.clp.marks.power } } }))

/-! ### Mobile bands -/

/-- FEED_UP and FEED_DOWN (R117, R122, R123): a feed that comes up evaluates its eligible gates fresh within the capacity, one
that is lost disables every gate and keeps its latest activity; an event that brings no change is ignored; the units with the band
enabled are recomputed. The boundary at which a hold is due, now + 4H + 1, rests on log entry 13, the threshold of a fresh
evaluation between a SET_BAND and the next band frame on log entry 51. -/
def Obligations.FeedEventsMoveTheGates : Prop :=
  ∀ (s : State) (b : Fin 4), s.begun = true → s.gateLaw → s.capacityLaw → s.budgetLaw →
    ((s.band b).feed = false →
      exec (.feedDown b) s =
        .next (State.settle { s with pins := { s.pins with feeds := s.pins.feeds &&& ~~~ BitVec.twoPow 4 b.val } }) ∧
      ∃ u : State, exec (.feedUp b) s = .next u.settle ∧ (u.band b).feed = true ∧ (u.band b).cfg = (s.band b).cfg ∧
        (u.band b).inUse = (s.band b).inUse ∧
        u.gateLaw ∧ u.capacityLaw ∧ u.budgetLaw ∧
        (∀ i ∈ List.range s.n,
          ((u.band b).gate i).latest = ((s.band b).gate i).latest ∧
            (u.eligible b i = true → s.modeOf i = .normal →
              (((s.band b).gate i).latest < (s.band b).inUse → ((u.band b).gate i).state = .closed) ∧
              ((s.band b).inUse ≤ ((s.band b).gate i).latest →
                ((u.band b).gate i).state ≠ .closed ∧
                  ((u.band b).gate i).hold = some (s.now + 4 * (s.band b).cfg.hold + 1)))) ∧
        (∀ d ∈ List.range 4, d ≠ b.val → u.band d = s.band d) ∧ u.clp.marks.band.getLsbD b = true ∧
        u =
          { s with
            pins := { s.pins with feeds := s.pins.feeds ||| BitVec.twoPow 4 b.val }
            bands := u.bands, pbe := { s.pbe with allocs := u.pbe.allocs }
            clp := { s.clp with marks := { s.clp.marks with band := u.clp.marks.band, power := u.clp.marks.power } } }) ∧
    ((s.band b).feed = true →
      exec (.feedUp b) s =
        .next (State.settle { s with pins := { s.pins with feeds := s.pins.feeds ||| BitVec.twoPow 4 b.val } }) ∧
      ∃ u : State, exec (.feedDown b) s = .next u.settle ∧ u.budgetLaw ∧
        u =
          { s with
            pins := { s.pins with feeds := s.pins.feeds &&& ~~~ BitVec.twoPow 4 b.val }
            bands := s.bands.set b
              { s.band b with
                feed := false
                gates := (s.band b).gates.map fun g => { g with state := .disabled, hold := none } }
            pbe := { s.pbe with allocs := u.pbe.allocs }
            clp := { s.clp with
              marks := { s.clp.marks with
                band := s.clp.marks.band ||| BitVec.twoPow 4 b.val, power := u.clp.marks.power } } })

/-- A gate's hold expires (R120 step 2, R121): the gate becomes CLOSED with its timer stopped; an OPEN one frees a place, which
the PENDING gate with the highest latest activity takes, the lowest position among equals. Taken by itself, the event is the part
of the next frame close that it names (log entry 5). -/
def Obligations.GateHoldExpiryClosesTheGate : Prop :=
  ∀ (s : State) (b : Fin 4) (p : Fin 24), s.power = .on → s.bands.length = 4 → (s.band b).gates.length = s.n → p.val < s.n →
    (s.band b).feed = true → isDue ((s.band b).gate p).hold (s.now + 1) = true →
    (((s.band b).gate p).state = .pending →
      exec (.gateHoldExpiry b p) s =
        .next (State.settle { s with
          bands := s.bands.set b
            { s.band b with gates := (s.band b).gates.set p { (s.band b).gate p with state := .closed, hold := none } }
          clp := { s.clp with marks := { s.clp.marks with band := s.clp.marks.band ||| BitVec.twoPow 4 b.val } } })) ∧
    (((s.band b).gate p).state = .opened →
      ∃ u : State, exec (.gateHoldExpiry b p) s = .next u.settle ∧
        (if (List.range s.n).all fun i => ((s.band b).gate i).state != .pending then
          (u.band b).gates = (s.band b).gates.set p { (s.band b).gate p with state := .closed, hold := none }
        else
          ∃ j ∈ List.range s.n,
            ((s.band b).gate j).state = .pending ∧
              (∀ i ∈ List.range s.n, ((s.band b).gate i).state = .pending →
                ((s.band b).gate i).latest < ((s.band b).gate j).latest ∨
                  (((s.band b).gate i).latest = ((s.band b).gate j).latest ∧ j ≤ i)) ∧
              (u.band b).gates =
                ((s.band b).gates.set p { (s.band b).gate p with state := .closed, hold := none }).set j
                  { (s.band b).gate j with state := .opened }) ∧
        u.bands = s.bands.set b { s.band b with gates := (u.band b).gates } ∧
        u =
          { s with
            bands := u.bands
            clp := { s.clp with marks := { s.clp.marks with band := s.clp.marks.band ||| BitVec.twoPow 4 b.val } } })

/-- SET_BAND (R114, R115, R116): the present fields are written, clamped; a new open threshold is not yet in use; a new capacity
re-balances the OPEN and PENDING gates at once and moves no other gate: the quietest OPEN gates, among equals the highest
positions, are demoted, the loudest PENDING ones, among equals the lowest, promoted, and their hold timers go on; a band number
out of range is refused. That presence bits 4 to 7 are ignored is the model's choice (log entry 46). -/
def Obligations.SetBandWritesAndRebalances : Prop :=
  ∀ (s : State) (tag : Octet) (body : List Octet), s.accepts tag → body.length = 7 → s.bands.length = 4 → s.capacityLaw →
    (u8 body 0 < 1 ∨ 4 < u8 body 0 → exec (.setBand tag body) s = .next (s.replied 0x2C tag .invalid [])) ∧
    (1 ≤ u8 body 0 → u8 body 0 ≤ 4 →
      let b := u8 body 0 - 1
      let old := (s.band b).cfg
      ∃ u : State, exec (.setBand tag body) s = .next (u.replied 0x2C tag .ok []) ∧
        (u.band b).cfg =
          ⟨if present8 body 1 0 then max 1 (min (u8 body 2) 60) else old.threshold,
            if present8 body 1 1 then max 100 (min (u16 body 3) 10000) else old.hold,
            if present8 body 1 2 then min (u8 body 5) 20 else old.hysteresis,
            if present8 body 1 3 then max 1 (min (u8 body 6) 24) else old.capacity⟩ ∧
        (u.band b).count .opened ≤ (u.band b).cfg.capacity ∧
        (u.band b).inUse = (s.band b).inUse ∧
        ((u.band b).cfg.capacity < old.capacity →
          (u.band b).count .opened = min (u.band b).cfg.capacity ((s.band b).count .opened) ∧
            ∀ i ∈ List.range (s.band b).gates.length,
              (((s.band b).gate i).state = .pending → ((u.band b).gate i).state = .pending) ∧
                (((s.band b).gate i).state = .opened →
                  ((u.band b).gate i).state = .opened ∨ ((u.band b).gate i).state = .pending) ∧
                ∀ j ∈ List.range (s.band b).gates.length,
                  ((s.band b).gate i).state = .opened → ((u.band b).gate i).state = .pending →
                  ((u.band b).gate j).state = .opened →
                  ((s.band b).gate i).latest < ((s.band b).gate j).latest ∨
                    (((s.band b).gate i).latest = ((s.band b).gate j).latest ∧ j < i)) ∧
        (old.capacity < (u.band b).cfg.capacity →
          ∀ i ∈ List.range (s.band b).gates.length,
            (((s.band b).gate i).state = .opened → ((u.band b).gate i).state = .opened) ∧
              (((s.band b).gate i).state = .pending →
                ((u.band b).gate i).state = .opened ∨ ((u.band b).gate i).state = .pending) ∧
              ∀ j ∈ List.range (s.band b).gates.length,
                ((s.band b).gate i).state = .pending → ((u.band b).gate i).state = .opened →
                ((u.band b).gate j).state = .pending →
                ((s.band b).gate j).latest < ((s.band b).gate i).latest ∨
                  (((s.band b).gate j).latest = ((s.band b).gate i).latest ∧ i < j)) ∧
        ((u.band b).cfg.capacity = old.capacity → (u.band b).gates = (s.band b).gates) ∧
        (old.capacity < (u.band b).cfg.capacity →
          (u.band b).count .opened = (u.band b).cfg.capacity ∨ (u.band b).count .pending = 0) ∧
        (u.band b).gates.map (fun g => (g.latest, g.hold)) = (s.band b).gates.map (fun g => (g.latest, g.hold)) ∧
        (∀ i ∈ List.range (s.band b).gates.length,
          ((s.band b).gate i).state ≠ .opened → ((s.band b).gate i).state ≠ .pending →
            (u.band b).gate i = (s.band b).gate i) ∧
        (u.band b).feed = (s.band b).feed ∧ (u.band b).displacements = (s.band b).displacements ∧
        (∀ d ∈ List.range 4, d ≠ b → u.band d = s.band d) ∧
        u =
          { s with bands := u.bands, clp := { s.clp with marks := { s.clp.marks with band := u.clp.marks.band } } })

/-! ### Break-in, live voice and players -/

/-- The winner of a zone (R133): no winner exactly where no offer is admitted; otherwise an admitted source of the highest
priority, LIVE before every player of that priority, and among players the one nearer the head of the activation list. -/
def Obligations.WinnerIsTheBestAdmittedOffer : Prop :=
  ∀ (offers : List Offer) (i threshold : Nat), (offers.map (·.source)).Nodup →
    (winnerOf offers i threshold = none ↔ ∀ o ∈ offers, ¬ o.admitted i threshold) ∧
      ∀ k ∈ List.range offers.length, ∀ o ∈ offers[k]?, winnerOf offers i threshold = some o.source →
        o.admitted i threshold ∧
          ∀ j ∈ List.range offers.length, ∀ x ∈ offers[j]?, x.admitted i threshold →
            x.priority ≤ o.priority ∧ (x.priority = o.priority → o.source = .live ∨ (x.source ≠ .live ∧ k ≤ j))

/-- An audio block boundary: the effective split and the thresholds in force are taken (R42, R133), each channel's block flag
follows its deferred flag (R112), and the live session handles the boundary by its state: OPENING takes no block, PLAYING and
DRAINING give the head block, an empty queue starves a PLAYING session and ends a DRAINING one, and STARVED counts up to 100 and
then ends (R141). With a lawful activation list, the sources that do not end there keep their order in it, and the winner of every
zone is the winner of their offers at the zone's threshold in force (R132, R133). With LIVE alone active that is the zones of its
target whose threshold is below its priority; with no source active no zone has a winner. -/
def Obligations.AudioBlockBoundaryServesTheBlock : Prop :=
  ∀ s : State, s.power = .on → s.blockDue = true → s.channels.length = 8 →
    ∃ u : State, exec .audioBlockBoundary s = .next u.settle ∧ u.blockAt = s.now ∧
      u.zmg = { s.zmg with effective := s.zmg.stored } ∧
      u.bim.inForce = (List.range s.n).map (fun i => (s.zmg.zones.getD i ⟨0, .normal⟩).threshold) ∧
      (∀ c ∈ List.range 8,
        (u.channel c).blockFlag = (s.channel c).deferred ∧ (u.channel c).deferred = false ∧
          (u.channel c).source = (s.channel c).source ∧ (u.channel c).state = (s.channel c).state ∧
          ((s.channel c).deferred = true → u.clp.marks.channel.getLsbD c = true)) ∧
      (s.lvq.state = .opening → u.lvq = s.lvq) ∧
      (∀ v ∈ s.lvq.queue.head?, s.lvq.state = .playing ∨ s.lvq.state = .draining →
        u.lvq =
          { s.lvq with
            queue := s.lvq.queue.tail, played := min (s.lvq.played + 1) 65535, air := .block v.gap v.data
            gaps := if v.gap then min (s.lvq.gaps + 1) 65535 else s.lvq.gaps }) ∧
      (s.lvq.state = .playing → s.lvq.queue = [] →
        u.lvq = { s.lvq with state := .starved, starve := 1, air := .silence } ∧ u.clp.marks.live = true) ∧
      (s.lvq.state = .starved → s.lvq.starve < 100 → u.lvq = { s.lvq with starve := s.lvq.starve + 1, air := .silence }) ∧
      (∀ r ∈ [LiveEndReason.drained, .starved],
        (s.lvq.state = .draining ∧ s.lvq.queue = [] ∧ r = .drained) ∨
            (s.lvq.state = .starved ∧ 100 ≤ s.lvq.starve ∧ r = .starved) →
          u.lvq.state = .none ∧ u.lvq.ended = some r ∧ u.lvq.queue = [] ∧ .live ∉ u.bim.activation ∧
            (∀ w ∈ u.bim.winners, w ≠ some .live) ∧ u.clp.marks.live = true) ∧
      (s.breakInLaw →
        u.bim.activation = s.bim.activation.filter u.runs ∧
          u.bim.winners = (List.range s.n).map fun i =>
            winnerOf (u.bim.activation.map (s.offerAt u)) i (s.zmg.zones.getD i ⟨0, .normal⟩).threshold) ∧
      (s.lvq.state = .playing → s.bim.activation = [.live] → (∀ x ∈ s.apl.players, x.state = .idle) →
        u.bim.winners = (List.range s.n).map fun i =>
          if s.lvq.target.mem i && decide ((s.zmg.zones.getD i ⟨0, .normal⟩).threshold < s.lvq.priority.getD 0) then
            some .live
          else none) ∧
      (s.lvq.state = .none → s.bim.activation = [] → (∀ x ∈ s.apl.players, x.state = .idle) →
        u.bim.winners = (List.range s.n).map fun _ => none) ∧
      u.lpc = s.lpc ∧ u.sau = s.sau ∧ u.pbe = s.pbe ∧ u.bands = s.bands ∧ u.flash = s.flash ∧ u.now = s.now

/-- A running player at an audio block boundary (R150 to R155). A pending end takes effect. A PLAYING or STOPPING player with an
item in progress offers the oldest block of its buffer, or silence for an empty buffer, which is an underrun, and for a block of a
pause; with its item's last block a STOPPING player records its end. A failed item is cut: its buffer is emptied, and a STOPPING
player ends. Where a walk starts (from a resume point, or from the next field of an item that failed or gave its last block), it
goes on past skipped clips and loops and enters an item that plays audio, finds its end, which is then pending (also where it
resumes a walk begun on a PLAY: log entry 60), or halts before a 17th item. -/
def Obligations.PlayersOfferTheirBlocks : Prop :=
  ∀ (s : State) (p : Nat), s.power = .on → s.blockDue = true → p < 4 → s.apl.players.length = 4 →
    (s.player p).running = true →
    ∃ u : State, exec .audioBlockBoundary s = .next u.settle ∧ u.apl.pool = s.apl.pool ∧
      (∀ r ∈ (s.player p).pendingEnd,
        (u.player p).state = .idle ∧ (u.player p).ended = some r ∧ (u.player p).item = none ∧ (u.player p).buffer = [] ∧
          (u.player p).target = 0#24 ∧ .player p ∉ u.bim.activation ∧ u.clp.marks.player.getLsbD p = true) ∧
      ((s.player p).pendingEnd = none → (s.player p).resume = none →
        ((s.player p).failed = true →
          (u.player p).buffer = [] ∧
            ((s.player p).state = .stopping → (u.player p).state = .idle ∧ (u.player p).ended = some .stopped) ∧
            ((s.player p).state = .playing → (u.player p).air = .silence ∧ (u.player p).state = .playing)) ∧
        ((s.player p).failed = false → (s.player p).state = .playing ∨ (s.player p).state = .stopping →
          (∀ slot length offered fetched : Nat, (s.player p).progress = .clip slot length offered fetched →
            ((s.player p).buffer = [] →
              (u.player p).progress = (s.player p).progress ∧ (u.player p).air = .silence ∧
                (u.player p).underruns = min ((s.player p).underruns + 1) 65535 ∧ (u.player p).state = (s.player p).state ∧
                u.clp.marks.player.getLsbD p = true) ∧
            (∀ d ∈ (s.player p).buffer.head?,
              (u.player p).air = .block false d ∧
                (offered + 1 < length →
                  (u.player p).progress = .clip slot length (offered + 1) fetched ∧
                    (u.player p).buffer = (s.player p).buffer.tail ∧ (u.player p).state = (s.player p).state ∧
                    (u.player p).pendingEnd = none) ∧
                (length ≤ offered + 1 → (s.player p).state = .stopping →
                  (u.player p).state = .stopping ∧ (u.player p).pendingEnd = some .stopped))) ∧
          ∀ n : Nat, (s.player p).progress = .pause n →
            (u.player p).air = .silence ∧
              (1 < n →
                (u.player p).progress = .pause (n - 1) ∧ (u.player p).item = (s.player p).item ∧
                  (u.player p).state = (s.player p).state ∧ (u.player p).pendingEnd = none) ∧
              (n ≤ 1 → (s.player p).state = .stopping →
                (u.player p).state = .stopping ∧ (u.player p).pendingEnd = some .stopped))) ∧
      ((s.player p).resume.isSome = true → (s.player p).pendingEnd = none → (u.player p).air = .silence) ∧
      ∀ start ∈ s.walkStart p, ∀ k ∈ List.range 17, ∀ w ∈ s.examinedTimes k start,
        (w.next = none →
          (u.player p).pendingEnd = some .completed ∧ (u.player p).counters = w.counters ∧ (u.player p).skips = w.skips) ∧
        ∀ i ∈ w.next,
          (k = 16 →
            (u.player p).resume = some i ∧ (u.player p).item = none ∧ (u.player p).progress = .none ∧
              (u.player p).counters = w.counters ∧ (u.player p).skips = w.skips ∧ (u.player p).state = (s.player p).state) ∧
          (k < 16 → s.examined w = none →
            (u.player p).counters = w.counters ∧ (u.player p).skips = w.skips ∧
              if s.progressAt i = .none then (u.player p).pendingEnd = some .loopDepth
              else
                (u.player p).item = some i ∧ (u.player p).progress = s.progressAt i ∧ (u.player p).buffer = [] ∧
                  (u.player p).resume = none ∧ (u.player p).pendingEnd = none)

/-- LIVE_START and VOICE_BLOCK (R138, R139, R140): the session opens with its clamped priority, 15 only in an emergency; a block
joins a queue of fewer than 16 with its gap mark and completes the prefill at 3, and is otherwise an overflow or discarded. -/
def Obligations.LiveSessionOpensAndTakesBlocks : Prop :=
  (∀ (s : State) (tag : Octet) (body : List Octet), s.accepts tag → body.length = 4 →
    (zonesAt body 1 = 0#24 → exec (.liveStart tag body) s = .next (s.replied 0x30 tag .invalid [])) ∧
    (zonesAt body 1 ≠ 0#24 → s.lvq.state ≠ .none →
      exec (.liveStart tag body) s = .next (s.replied 0x30 tag .busy [])) ∧
    (zonesAt body 1 ≠ 0#24 → s.lvq.state = .none →
      let p := max 1 (min (u8 body 0) (if s.anyEmergency then 15 else 14))
      exec (.liveStart tag body) s =
        .next (State.replied { s with
          lvq := ⟨.opening, some p, zonesAt body 1, [], none, false, 0, 0, 0, 0, none, none, .silence⟩
          bim := { s.bim with activation := s.bim.activation ++ [.live] }
          clp := { s.clp with marks := { s.clp.marks with live := true } } } 0x30 tag .ok (e8 p)))) ∧
    ∀ (s : State) (tag : Octet) (body : List Octet), s.power = .on → body.length = 129 →
      let gap := s.lvq.gapPending || (s.lvq.lastSeq.any fun n => octetAt body 0 != n + 1#8)
      (s.lvq.state = .none ∨ s.lvq.state = .draining →
        exec (.voiceBlock tag body) s =
          .next (State.settle { s with clp := { s.clp with receiver := .hunting } })) ∧
      (s.lvq.state = .opening ∨ s.lvq.state = .playing ∨ s.lvq.state = .starved →
        (s.lvq.queue.length < 16 →
          exec (.voiceBlock tag body) s =
            .next (State.settle { s with
              lvq := { s.lvq with
                queue := s.lvq.queue ++ [⟨octetAt body 0, body.drop 1, gap⟩]
                lastSeq := some (octetAt body 0), gapPending := false
                state := if s.lvq.queue.length = 2 then .playing else s.lvq.state
                starve := if s.lvq.queue.length = 2 ∧ s.lvq.state = .starved then 0 else s.lvq.starve }
              clp := { s.clp with
                receiver := .hunting
                marks := { s.clp.marks with
                  live := s.clp.marks.live || (s.lvq.queue.length == 2 && s.lvq.state != .playing) } } })) ∧
        (16 ≤ s.lvq.queue.length →
          exec (.voiceBlock tag body) s =
            .next (State.settle { s with
              lvq := { s.lvq with overflows := min (s.lvq.overflows + 1) 65535, gapPending := true }
              clp := { s.clp with receiver := .hunting } })))

/-- LIVE_END by the table of R142, and the starve limit of R141: a session that ends empties its queue, leaves the activation list
and every zone it won, and records the reason (its target set becomes the empty set: log entry 54); a normal end with blocks to
play drains first, its reply waiting. A DRAINING session refuses another normal end with BUSY; an immediate end answers the
waiting LIVE_END and then itself (the order: log entry 59); the boundary that finds the queue empty ends it and answers the
waiting LIVE_END. The starve limit taken by itself is the part of the block boundary that is due; where it is not due it has no
effect (log entry 5). -/
def Obligations.LiveSessionEnds : Prop :=
  (∀ (s : State) (tag m : Octet), s.accepts tag →
    (1 < m.toNat ∨ s.lvq.state = .none → exec (.liveEnd tag [m]) s = .next (s.replied 0x31 tag .invalid [])) ∧
    (m = 0#8 → s.lvq.state = .draining → exec (.liveEnd tag [m]) s = .next (s.replied 0x31 tag .busy [])) ∧
    (m = 0#8 → s.lvq.state = .playing ∨ (s.lvq.state = .opening ∧ s.lvq.queue ≠ []) →
      exec (.liveEnd tag [m]) s =
        .next (State.outstanding { s with
          lvq := { s.lvq with state := .draining, waitingEnd := some tag }
          clp := { s.clp with marks := { s.clp.marks with live := true } } } 0x31 tag)) ∧
    (s.lvq.state ≠ .none →
      m = 1#8 ∨ (m = 0#8 ∧ (s.lvq.state = .starved ∨ (s.lvq.state = .opening ∧ s.lvq.queue = []))) →
      let reason : LiveEndReason := if m = 1#8 then .immediate else .drained
      let fields : List Octet :=
        [if m = 1#8 then 0x01#8 else 0x00#8] ++ e16 s.lvq.gaps ++ e16 s.lvq.overflows ++ e16 s.lvq.played
      let ended : State :=
        { s with
          lvq := { s.lvq with
            state := .none, priority := none, target := 0#24, queue := [], waitingEnd := none, ended := some reason
            air := .silence }
          bim := { s.bim with
            activation := s.bim.activation.filter (· != .live)
            winners := s.bim.winners.map fun w => if w = some .live then none else w }
          clp := { s.clp with marks := { s.clp.marks with live := true } } }
      (s.lvq.waitingEnd = none → exec (.liveEnd tag [m]) s = .next (ended.replied 0x31 tag .ok fields)) ∧
      ∀ t ∈ s.lvq.waitingEnd, ∀ x ∈ s.clp.slots.find? (Slot.waits t),
        exec (.liveEnd tag [m]) s =
          .next (State.replied { ended with
            clp := { ended.clp with
              slots := s.clp.slots.map fun y => if y.waits t then { y with phase := .queued } else y
              replies := s.clp.replies ++ [⟨x.kind + 0x80#8, t, [0x00#8] ++ fields, false⟩] } } 0x31 tag .ok fields))) ∧
    (∀ s : State, s.power = .on →
      (s.blockDue = true → s.lvq.state = .starved → 100 ≤ s.lvq.starve → s.lvq.waitingEnd = none →
        exec .liveStarveLimit s =
          .next (State.settle { s with
            lvq := { s.lvq with
              state := .none, priority := none, target := 0#24, queue := [], ended := some .starved, air := .silence }
            bim := { s.bim with
              activation := s.bim.activation.filter (· != .live)
              winners := s.bim.winners.map fun w => if w = some .live then none else w }
            clp := { s.clp with marks := { s.clp.marks with live := true } } })) ∧
      (s.blockDue = false ∨ s.lvq.state ≠ .starved ∨ s.lvq.starve < 100 → exec .liveStarveLimit s = .next s.settle)) ∧
    ∀ (s : State) (t : Octet) (x : Slot), s.power = .on → s.blockDue = true → s.lvq.state = .draining → s.lvq.queue = [] →
      s.lvq.waitingEnd = some t → s.clp.slots.find? (Slot.waits t) = some x →
      ∃ u : State, exec .audioBlockBoundary s = .next u.settle ∧ u.lvq.state = .none ∧ u.lvq.ended = some .drained ∧
        u.lvq.waitingEnd = none ∧ .live ∉ u.bim.activation ∧
        u.clp.replies = s.clp.replies ++
          [⟨x.kind + 0x80#8, t, [0x00#8, 0x00#8] ++ e16 s.lvq.gaps ++ e16 s.lvq.overflows ++ e16 s.lvq.played, false⟩]

/-- SET_ITEMS (R146, R147, R183): a body of another length than 2 + 6 × count is refused by the port; a start or a count out of
range and an item that is not within its ranges are refused with INVALID; an index that is the current item of a running player is
BUSY; otherwise every item is written from the start index upward, a pause clamped to 1..1500, and the loop counters of the
indices are removed. -/
def Obligations.SetItemsWritesThePool : Prop :=
  ∀ (s : State) (tag : Octet) (body : List Octet), s.accepts tag →
    let start := u8 body 0
    let count := u8 body 1
    (body.length ≠ 2 + 6 * count → exec (.setItems tag body) s = .next (s.refused 0x38 tag .invalid)) ∧
    (body.length = 2 + 6 * count →
      (95 < start ∨ count < 1 ∨ 32 < count ∨ 96 < start + count ∨ (∃ j ∈ List.range count, ¬ ItemValid body j) →
        exec (.setItems tag body) s = .next (s.replied 0x38 tag .invalid [])) ∧
      (start ≤ 95 → 1 ≤ count → count ≤ 32 → start + count ≤ 96 → (∀ j ∈ List.range count, ItemValid body j) →
        ((∃ x ∈ s.apl.players, x.state ≠ .idle ∧ ∃ i ∈ x.item, start ≤ i ∧ i < start + count) →
          exec (.setItems tag body) s = .next (s.replied 0x38 tag .busy [])) ∧
        ((∀ x ∈ s.apl.players, x.state ≠ .idle → ∀ i ∈ x.item, i < start ∨ start + count ≤ i) →
          exec (.setItems tag body) s =
            .next (State.replied { s with
              apl :=
                ⟨s.apl.players.map fun x =>
                    { x with counters := x.counters.filter fun c => decide (c.item < start ∨ start + count ≤ c.item) },
                  s.apl.pool.zipIdx.map fun x =>
                    if start ≤ x.2 ∧ x.2 < start + count then itemAsked body (x.2 - start) else x.1⟩ } 0x38 tag .ok []))))

/-- PLAY of a READY clip (R149, R150, R151, R160) starts the player: STARTING at the clip, its counts cleared, its source at the
tail of the activation list, the priority clamped to 1..14. Refused requests change nothing. The last octet of the reply, all ones
where the record holds no end reason, rests on log entry 23; that a read of the run before goes on without an owner, on log entry
36. -/
def Obligations.PlayStartsThePlayer : Prop :=
  ∀ (s : State) (tag : Octet) (body : List Octet), s.accepts tag → body.length = 7 → s.apl.players.length = 4 →
    (3 < u8 body 0 ∨ 95 < u8 body 1 ∨ 3 < u8 body 3 ∨ (u8 body 3 = 0 ∧ zonesAt body 4 = 0#24) →
      exec (.play tag body) s = .next (s.replied 0x39 tag .invalid [])) ∧
    (u8 body 0 ≤ 3 → u8 body 1 ≤ 95 → u8 body 3 ≤ 3 → (u8 body 3 = 0 → zonesAt body 4 ≠ 0#24) →
      (u8 body 0 ≤ 1 → s.anyEmergency = true →
        exec (.play tag body) s = .next (s.replied 0x39 tag .emergency [])) ∧
      ((u8 body 0 ≤ 1 → s.anyEmergency = false) →
        ((s.player (u8 body 0)).running = true →
          exec (.play tag body) s = .next (s.replied 0x39 tag .busy [])) ∧
        ((s.player (u8 body 0)).running = false →
          ∀ slot ∈ List.range 63, (s.item (u8 body 1)).kind = .clip slot → (s.dirEntry slot).state = .ready →
          let prio := max 1 (min (u8 body 2) 14)
          ∃ u : State,
            exec (.play tag body) s =
              .next (u.replied 0x39 tag .ok (e8 prio ++ [0x01#8] ++ e8 (u8 body 1) ++ [0xFF#8])) ∧
            u.apl =
              { s.apl with
                players := s.apl.players.set (u8 body 0)
                  { Player.initial with
                    state := .starting, priority := some prio, item := some (u8 body 1)
                    progress := .clip slot (s.dirEntry slot).length 0 0
                    binding := some (if u8 body 3 = 0 then .explicit (zonesAt body 4) else if u8 body 3 = 1 then .regionA
                      else if u8 body 3 = 2 then .regionB else .all)
                    target := if u8 body 3 = 0 then zonesAt body 4 else if u8 body 3 = 1 then s.regionZones true
                      else if u8 body 3 = 2 then s.regionZones false else s.allZones } } ∧
            u.bim = { s.bim with activation := s.bim.activation ++ [.player (u8 body 0)] } ∧
            u =
              { s with
                apl := u.apl, bim := u.bim
                csc := { s.csc with
                  port := s.csc.port.map fun o =>
                    if o.owner = .player (u8 body 0) then { o with owner := .nobody } else o }
                clp := { s.clp with
                  marks := { s.clp.marks with
                    player := s.clp.marks.player ||| BitVec.twoPow 4 (u8 body 0) } } })))

/-- STOP by the table of R155: a player out of range or an undefined mode is refused, players 0 and 1 are kept in an emergency, a
STARTING player and an immediate stop end the run at once, a PLAYING one told to stop at item end enters STOPPING. -/
def Obligations.StopEndsThePlayer : Prop :=
  ∀ (s : State) (tag p m : Octet), s.accepts tag → s.apl.players.length = 4 →
    (3 < p.toNat ∨ 1 < m.toNat → exec (.stop tag [p, m]) s = .next (s.replied 0x3A tag .invalid [])) ∧
    (p.toNat ≤ 1 → m.toNat ≤ 1 → s.anyEmergency = true →
      exec (.stop tag [p, m]) s = .next (s.replied 0x3A tag .emergency [])) ∧
    (p.toNat ≤ 3 → m.toNat ≤ 1 → (p.toNat ≤ 1 → s.anyEmergency = false) →
      let x := s.player p.toNat
      (x.state = .idle ∨ (x.state = .stopping ∧ m = 0#8) →
        exec (.stop tag [p, m]) s =
          .next (s.replied 0x3A tag .ok (e8 x.state.code ++ eOpt8 (x.ended.map (·.code))))) ∧
      (x.state = .starting ∨ (x.state ≠ .idle ∧ m = 1#8) →
        ∃ u : State, exec (.stop tag [p, m]) s = .next (u.replied 0x3A tag .ok [0x00#8, 0x01#8]) ∧
          u.apl =
            { s.apl with
              players := s.apl.players.set p.toNat
                { x with
                  state := .idle, item := none, resume := none, progress := .none, target := 0#24, buffer := []
                  counters := [], pendingEnd := none, ended := some .stopped, failed := false, air := .silence } } ∧
          u.bim =
            { s.bim with
              activation := s.bim.activation.filter (· != .player p.toNat)
              winners := s.bim.winners.map fun w => if w = some (.player p.toNat) then none else w } ∧
          u.clp.marks.player.getLsbD p.toNat = true ∧ u.lvq = s.lvq ∧ u.flash = s.flash ∧ u.zmg = s.zmg) ∧
      (x.state = .playing → m = 0#8 → x.pendingEnd = none → x.resume = none →
        exec (.stop tag [p, m]) s =
          .next (State.replied { s with
            apl := { s.apl with players := s.apl.players.set p.toNat { x with state := .stopping } }
            clp := { s.clp with
              marks := { s.clp.marks with
                player := s.clp.marks.player ||| BitVec.twoPow 4 p.toNat } } } 0x3A tag .ok
            ([0x03#8] ++ eOpt8 (x.ended.map (·.code))))))

/-! ### The clip store -/

/-- The start-up read (R161, R171, R26, R179). The settings read loads the copy of the settings area or defaults every block, starts
the loop and begins the header scan (the threshold in use before a band frame: log entry 65); each header read sets the entry of its
slot; after the last the part is RUNNING. -/
def Obligations.StartUpReadsTheFlash : Prop :=
  (∀ (s : State) (start : Nat), s.power = .on → s.csc.absent = false →
    s.csc.port = some ⟨.readSettings, .startup, start⟩ →
    ∃ u : State, exec .settingsReadComplete s = .next u.settle ∧ u.loopOn = true ∧
      u.csc.port = some ⟨.readHeader 0, .startup, s.now⟩ ∧ u.clp.part = s.clp.part ∧ u.flash = s.flash ∧
      u.csc.directory = s.csc.directory ∧ (∀ b ∈ u.bands, b.inUse = b.cfg.threshold) ∧
      (∀ c : Settings, s.flash.area = .copy c →
        c.preferred.length = c.configured.length → c.thresholds.length = c.configured.length →
        c.power.length = c.configured.length → c.channels.length = 8 → c.bands.length = 4 → c.pool.length = 96 →
        1 ≤ c.split → c.split ≤ c.configured.length + 1 →
        u.snapshot = c ∧ u.zmg.effective = c.split ∧ u.clp.defaulted = false ∧ u.csc.copyValid = true) ∧
      (s.flash.area = .erased ∨ s.flash.area = .invalid →
        u.snapshot = Settings.default ∧ u.clp.defaulted = true ∧ u.csc.copyValid = false)) ∧
    ∀ (s : State) (slot start : Nat), s.power = .on → s.csc.absent = false → s.csc.upload = none →
      s.csc.directory.length = 63 → slot < 63 →
      s.csc.port = some ⟨.readHeader slot, .startup, start⟩ →
      ∃ u : State, exec .headerReadComplete s = .next u.settle ∧
        u.flash = s.flash ∧
        (u.dirEntry slot).state = headerTable (s.flash.header slot) ∧ (u.dirEntry slot).verified = false ∧
        ((u.dirEntry slot).state = .ready →
          (u.dirEntry slot).length = (s.flash.header slot).length.toNat ∧
            (u.dirEntry slot).label = (s.flash.header slot).label ∧ (u.dirEntry slot).crc = (s.flash.header slot).crc) ∧
        (∀ k ∈ List.range 63, k ≠ slot → u.dirEntry k = s.dirEntry k) ∧
        (slot < 62 → u.csc.port = some ⟨.readHeader (slot + 1), .startup, s.now⟩ ∧ u.clp.part = s.clp.part) ∧
        (slot = 62 → u.csc.port = none ∧ u.clp.part = .running ∧ u.clp.marks.part = true)

/-- A block read arrives (R153, R162): at its player, whose buffer takes it and which leaves STARTING with its reserve; or at the
verify, which ends after the clip's last block with the slot verified or DAMAGED by the clip CRC (a DAMAGED slot's verified flag
is clear: log entry 34). -/
def Obligations.BlockReadsArrive : Prop :=
  (∀ (s : State) (p slot index start length offered fetched : Nat), s.power = .on → s.csc.absent = false → p < 4 →
    s.apl.players.length = 4 → s.csc.port = some ⟨.readBlock slot index, .player p, start⟩ →
    (s.player p).progress = .clip slot length offered fetched → (s.player p).failed = false →
    ∃ u : State, exec .playerReadComplete s = .next u.settle ∧
      u.apl =
        { s.apl with
          players := s.apl.players.set p
            { s.player p with
              buffer := (s.player p).buffer ++ [readBlock s.flash slot index]
              progress := .clip slot length offered (fetched + 1)
              state :=
                if (s.player p).state = .starting ∧
                  (4 ≤ (s.player p).buffer.length + 1 ∨ length ≤ (s.player p).buffer.length + 1) then .playing
                else (s.player p).state } } ∧
      u = { s with apl := u.apl, csc := { s.csc with port := none }, clp := { s.clp with marks := u.clp.marks } }) ∧
    ∀ (s : State) (v : Verify) (start : Nat), s.power = .on → s.csc.absent = false → v.slot < 63 →
      s.csc.directory.length = 63 → s.csc.verify = some v →
      s.csc.port = some ⟨.readBlock v.slot v.next, .verify, start⟩ →
      let crc := crc32More v.crc (readBlock s.flash v.slot v.next)
      (v.next < (s.dirEntry v.slot).length →
        exec .verifyReadComplete s =
          .next (State.settle { s with csc := { s.csc with port := none, verify := some ⟨v.slot, v.next + 1, crc⟩ } })) ∧
      ((s.dirEntry v.slot).length ≤ v.next →
        ∃ u : State, exec .verifyReadComplete s = .next u.settle ∧ u.csc.port = none ∧ u.csc.verify = none ∧
          u.dirEntry v.slot =
            (if crc32Result crc = (s.dirEntry v.slot).crc then { s.dirEntry v.slot with verified := true }
            else { s.dirEntry v.slot with state := .damaged, verified := false }) ∧
          (∀ k ∈ List.range 63, k ≠ v.slot → u.dirEntry k = s.dirEntry k) ∧ u.flash = s.flash)

/-- A program completes (R159, R166 to R168, R171): bits of the flash turn only from one to zero, in the one or two blocks of its
page alone; the begun header answers UPLOAD_BEGIN and opens RECEIVING; the complete marker makes the slot READY and verified and
answers UPLOAD_END; the last page of a settings write makes the copy valid, brings a new level into force and answers OK. As a
page program frees places, the CLIP_DATA that wait are taken in the order of their arrival and answered OK. An erase completes
(R159, R166, R170, R171): the 64 KiB of its unit read as all ones and every other octet is kept; the upload or the erase job moves
on, and with its fourth unit an ERASE_SLOT leaves its slot EMPTY and is answered OK. An upload whose UPLOAD_END failed while
PREPARING ends with the operation that ran, its slot then DAMAGED. What ends so, and the order of the replies, rests on log
entries 53 and 62, the answer of a begun program to a SEQUENCE_FAILED upload on log entry 27. -/
def Obligations.ProgramsAndErasesComplete : Prop :=
  ((∀ (s : State) (o : PortOp) (slot : Nat) (bs : List IndexedBlock), s.power = .on → s.csc.absent = false → s.flash.wf →
    s.protectionLaw → s.csc.port = some o → o.op = .programBlocks slot bs → (bs.map (·.index)).Nodup →
    (∀ b ∈ bs, b.data.length ≤ 128) →
    ∃ u : State, exec .programComplete s = .next u.settle ∧ u.csc.port = none ∧ u.flash.wf ∧
      u.flash.headers = s.flash.headers ∧ u.flash.area = s.flash.area ∧
      (∀ b ∈ bs, ∀ k ∈ List.range b.data.length,
        cellAt u.flash.cells (slot * 262144 + b.index * 128 + k) =
          cellAt s.flash.cells (slot * 262144 + b.index * 128 + k) &&& b.data.getD k 0#8) ∧
      ∀ a : Nat,
        (∀ b ∈ bs, a < slot * 262144 + b.index * 128 ∨ slot * 262144 + b.index * 128 + b.data.length ≤ a) →
        cellAt u.flash.cells a = cellAt s.flash.cells a) ∧
    (∀ (s : State) (up : Upload) (bs : List IndexedBlock) (start : Nat), s.power = .on → s.csc.absent = false →
      s.csc.upload = some up → up.failed = none → s.csc.port = some ⟨.programBlocks up.slot bs, .upload, start⟩ →
      up.waiting = [] ∨ s.owedLaw →
      let kept := up.buffer.filter fun b => !(bs.any fun x => x.index == b.index)
      let taken := up.waiting.take (8 - kept.length)
      ∃ u : State, exec .programComplete s = .next u.settle ∧ u.csc.port = none ∧
        u.clp.replies = s.clp.replies ++ s.clp.statusReplies (taken.map fun w => (w.tag, .ok)) ∧
        u.csc.upload =
          some { up with
            buffer := kept ++ taken.map (·.block), crc := taken.foldl (fun c w => crc32More c w.block.data) up.crc
            received := up.received + taken.length, waiting := up.waiting.drop taken.length }) ∧
    (∀ (s : State) (up : Upload) (start : Nat), s.power = .on → s.csc.absent = false → s.csc.upload = some up →
      up.failed = none → s.csc.port = some ⟨.programBegun up.slot up.length up.label, .upload, start⟩ →
      ∃ u : State, exec .programComplete s = .next u.settle ∧ u.csc.port = none ∧
        u.csc.upload =
          some { up with
            begun := true, beginTag := none, state := if up.state = .preparing then .receiving else up.state } ∧
        u.flash = { s.flash with headers := s.flash.headers.modify up.slot (fun h => h.programBegun up.length up.label) } ∧
        ∀ t ∈ up.beginTag, ∀ x ∈ s.clp.slots.find? (Slot.waits t),
          u.clp.replies = s.clp.replies ++ [⟨x.kind + 0x80#8, t, [0x00#8], false⟩]) ∧
    (∀ (s : State) (up : Upload) (crc : BitVec 32) (start : Nat), s.power = .on → s.csc.absent = false →
      up.slot < 63 → s.csc.directory.length = 63 → s.csc.upload = some up → up.failed = none →
      s.csc.port = some ⟨.programComplete up.slot crc, .upload, start⟩ →
      ∃ u : State, exec .programComplete s = .next u.settle ∧ u.csc.port = none ∧ u.csc.upload = none ∧
        u.flash = { s.flash with headers := s.flash.headers.modify up.slot (fun h => h.programComplete crc) } ∧
        u.dirEntry up.slot = ⟨.ready, true, up.length, up.label, crc⟩ ∧
        (∀ k ∈ List.range 63, k ≠ up.slot → u.dirEntry k = s.dirEntry k) ∧
        ∀ t ∈ up.endTag, ∀ x ∈ s.clp.slots.find? (Slot.waits t),
          u.clp.replies = s.clp.replies ++ [⟨x.kind + 0x80#8, t, [0x00#8], false⟩]) ∧
    (∀ (s : State) (up : Upload) (o : PortOp) (st : Status), s.power = .on → s.csc.absent = false → s.owedLaw →
      s.csc.upload = some up → up.failed = some st → s.csc.port = some o → o.owner = .upload →
      up.slot < 63 → s.csc.directory.length = 63 →
      ∀ c ∈ [Instr.eraseComplete, .programComplete], (if c = .eraseComplete then o.op.isErase else o.op.isProgram) = true →
        ∃ u : State, exec c s = .next u.settle ∧ u.csc.port = none ∧ u.csc.upload = none ∧
          (u.dirEntry up.slot).state = .damaged ∧ (∀ k ∈ List.range 63, k ≠ up.slot → u.dirEntry k = s.dirEntry k) ∧
          u.clp.replies = s.clp.replies ++ up.endReplies s.clp st) ∧
    ∀ (s : State) (x : SettingsJob) (start : Nat), s.power = .on → s.csc.absent = false → s.csc.settings = some x →
      s.csc.port = some ⟨.programSettings, .settings, start⟩ →
      ∃ u : State, exec .programComplete s = .next u.settle ∧ u.csc.port = none ∧
        (1 < x.pagesLeft → u.csc.settings = some { x with pagesLeft := x.pagesLeft - 1 } ∧ u.csc.level = s.csc.level) ∧
        (x.pagesLeft ≤ 1 →
          u.csc.settings = none ∧ u.flash = { s.flash with area := .copy x.copy } ∧ u.csc.copyValid = true ∧
            u.csc.level = x.level.getD s.csc.level ∧
            ∀ t ∈ x.tag, ∀ y ∈ s.clp.slots.find? (Slot.waits t),
              u.clp.replies = s.clp.replies ++ [⟨y.kind + 0x80#8, t, [0x00#8], false⟩])) ∧
    (∀ (s : State) (o : PortOp), s.power = .on → s.csc.absent = false → s.csc.port = some o →
    (∀ slot unit : Nat, o.op = .eraseUnit slot unit →
      ∃ u : State, exec .eraseComplete s = .next u.settle ∧ u.csc.port = none ∧
        (∀ a : Nat,
          cellAt u.flash.cells a =
            if slot * 262144 + unit * 65536 ≤ a ∧ a < slot * 262144 + (unit + 1) * 65536 then 0xFF#8
            else cellAt s.flash.cells a) ∧
        u.flash.area = s.flash.area ∧ (∀ k ∈ List.range s.flash.headers.length,
          u.flash.header k = if k = slot ∧ unit = 0 then Header.erased else s.flash.header k) ∧
        (∀ up ∈ s.csc.upload, o.owner = .upload → up.failed = none →
          u.csc.upload = some { up with units := up.units + 1 }) ∧
        ∀ e ∈ s.csc.erase, o.owner = .eraseSlot → s.csc.directory.length = 63 → e.slot < 63 →
          (e.units < 3 → u.csc.erase = some { e with units := e.units + 1 } ∧ u.clp.replies = s.clp.replies) ∧
          (3 ≤ e.units →
            u.csc.erase = none ∧ (u.dirEntry e.slot).state = .empty ∧ (u.dirEntry e.slot).verified = false ∧
              ∀ t ∈ e.tag, ∀ x ∈ s.clp.slots.find? (Slot.waits t),
                u.clp.replies = s.clp.replies ++ [⟨x.kind + 0x80#8, t, [0x00#8], false⟩])) ∧
    (o.op = .eraseSettings → o.owner = .settings →
      exec .eraseComplete s =
        .next (State.settle { s with
          flash := { s.flash with area := .erased }
          csc := { s.csc with
            port := none, settings := s.csc.settings.map fun x => { x with erased := true } } })))

/-- A flash operation fails, or has not finished 2 s after its start, by the table of R165: the port is free, and its owner takes
the failure as its own rule says; a header scan read makes its slot DAMAGED, and the scan goes on (R161); an upload that owes an
UPLOAD_END ends with that reply, FLASH_FAULT, behind the others (R168). The limit of 8000 loop frames, from start + 8000 to now +
1, rests on log entry 39, what a failed operation leaves on the flash on log entry 10, the end of a FINISHING upload on log entry
25, the order of its replies on log entry 62, the verified flag of a DAMAGED slot on log entry 34. -/
def Obligations.FlashFailuresFollowTheirOwners : Prop :=
  ∀ (s : State) (o : PortOp), s.power = .on → s.csc.port = some o →
    (o.start + 8000 ≤ s.now + 1 → exec .flashOpTimeout s = exec .flashOpFail s) ∧
    (s.now + 1 < o.start + 8000 → exec .flashOpTimeout s = .next s.settle) ∧
    (∀ p : Nat, p < 4 → s.apl.players.length = 4 → o.owner = .player p →
      exec .flashOpFail s =
        .next (State.settle { s with
          flash := s.flash.cutOp o.op
          apl := { s.apl with players := s.apl.players.set p { s.player p with failed := true } }
          csc := { s.csc with port := none } })) ∧
    (∀ v ∈ s.csc.verify, o.owner = .verify →
      exec .flashOpFail s =
        .next (State.settle { s with
          flash := s.flash.cutOp o.op
          csc := { s.csc with port := none, verify := none, cursor := (v.slot + 1) % 63 } })) ∧
    (∀ up ∈ s.csc.upload, o.owner = .upload → up.endTag = none → up.slot < 63 → s.csc.directory.length = 63 →
      ∃ u : State, exec .flashOpFail s = .next u.settle ∧ u.csc.port = none ∧ u.flash = s.flash.cutOp o.op ∧
        u.csc.upload = some { up with state := .faulted, beginTag := none, waiting := [] } ∧
        (u.dirEntry up.slot).state = .damaged ∧ u.csc.order = s.csc.order.filter (· != .upload) ∧
        ∀ t ∈ up.beginTag.toList ++ up.waiting.map (·.tag), ∀ x ∈ s.clp.slots.find? (Slot.waits t),
          (⟨x.kind + 0x80#8, t, [0x0D#8], false⟩ : Reply) ∈ u.clp.replies) ∧
    (∀ up ∈ s.csc.upload, o.owner = .upload → up.endTag.isSome = true → s.owedLaw →
      ∃ u : State, exec .flashOpFail s = .next u.settle ∧ u.csc.port = none ∧ u.flash = s.flash.cutOp o.op ∧
        u.csc.upload = none ∧ (u.dirEntry up.slot).state = .damaged ∧ u.csc.order = s.csc.order.filter (· != .upload) ∧
        u.clp.replies = s.clp.replies ++ s.clp.statusReplies (up.owes.map (·, .flashFault))) ∧
    (∀ slot : Nat, o.owner = .startup → o.op = .readHeader slot → slot < 63 → s.csc.directory.length = 63 →
      s.csc.upload = none →
      ∃ u : State, exec .flashOpFail s = .next u.settle ∧ u.flash = s.flash ∧ (u.dirEntry slot).state = .damaged ∧
        (u.dirEntry slot).verified = false ∧ (∀ k ∈ List.range 63, k ≠ slot → u.dirEntry k = s.dirEntry k) ∧
        (slot < 62 → u.csc.port = some ⟨.readHeader (slot + 1), .startup, s.now⟩ ∧ u.clp.part = s.clp.part) ∧
        (slot = 62 → u.csc.port = none ∧ u.clp.part = .running ∧ u.clp.marks.part = true)) ∧
    (∀ e ∈ s.csc.erase, o.owner = .eraseSlot →
      ∃ u : State, exec .flashOpFail s = .next u.settle ∧ u.csc.port = none ∧ u.csc.erase = none ∧
        u.flash = s.flash.cutOp o.op ∧ u.csc.directory = s.csc.directory ∧
        ∀ t ∈ e.tag, ∀ x ∈ s.clp.slots.find? (Slot.waits t),
          u.clp.replies = s.clp.replies ++ [⟨x.kind + 0x80#8, t, [0x0D#8], false⟩]) ∧
    (∀ x ∈ s.csc.settings, o.owner = .settings →
      ∃ u : State, exec .flashOpFail s = .next u.settle ∧ u.csc.port = none ∧ u.csc.settings = none ∧
        u.flash = s.flash.cutOp o.op ∧ u.csc.level = s.csc.level ∧ u.csc.copyValid = s.csc.copyValid ∧
        ∀ t ∈ x.tag, ∀ y ∈ s.clp.slots.find? (Slot.waits t),
          u.clp.replies = s.clp.replies ++ [⟨y.kind + 0x80#8, t, [0x0D#8], false⟩]) ∧
    (o.owner = .startup → o.op = .readSettings → s.csc.directory.length = 63 →
      ∃ u : State, exec .flashOpFail s = .next u.settle ∧ u.csc.port = none ∧ u.csc.absent = true ∧ u.clp.part = .running ∧
        u.flash = s.flash ∧ u.loopOn = true ∧ u.clp.defaulted = true ∧ ∀ e ∈ u.csc.directory, e.state = .damaged)

/-- UPLOAD_BEGIN and CLIP_DATA (R166, R167): an upload starts with its slot WRITING, its verified flag clear and the rest of its
entry kept (log entry 34), and its reply waiting; the next block in sequence is taken into the buffer and the running CRC, waits
while the buffer is full, and a block out of sequence fails the upload and is answered SEQUENCE after the CLIP_DATA that wait (the
order: log entry 61); without an upload, in an emergency and in the other states of the upload the replies are those of the
tables. -/
def Obligations.UploadTakesItsBlocks : Prop :=
  (∀ (s : State) (tag : Octet) (body : List Octet), s.accepts tag → body.length = 19 →
    (62 < u8 body 0 ∨ u16 body 1 < 1 ∨ 2047 < u16 body 1 →
      exec (.uploadBegin tag body) s = .next (s.replied 0x40 tag .invalid [])) ∧
    (u8 body 0 ≤ 62 → 1 ≤ u16 body 1 → u16 body 1 ≤ 2047 →
      (s.anyEmergency = true → exec (.uploadBegin tag body) s = .next (s.replied 0x40 tag .emergency [])) ∧
      (s.anyEmergency = false → u8 body 0 < protectedCount s.csc.level →
        exec (.uploadBegin tag body) s = .next (s.replied 0x40 tag .protectedSlot [])) ∧
      (s.anyEmergency = false → protectedCount s.csc.level ≤ u8 body 0 →
        s.csc.upload ≠ none ∨ (∃ x ∈ s.csc.settings, x.level ≠ none) ∨ (∃ e ∈ s.csc.erase, e.slot = u8 body 0) ∨
          s.slotInPlay (u8 body 0) = true →
        exec (.uploadBegin tag body) s = .next (s.replied 0x40 tag .busy [])) ∧
      (s.anyEmergency = false → protectedCount s.csc.level ≤ u8 body 0 → s.csc.upload = none →
        (∀ x ∈ s.csc.settings, x.level = none) → (∀ e ∈ s.csc.erase, e.slot ≠ u8 body 0) →
        s.slotInPlay (u8 body 0) = false → s.csc.verify = none →
        s.csc.directory.length = 63 →
        exec (.uploadBegin tag body) s =
          .next (State.outstanding { s with
            csc := { s.csc with
              directory := s.csc.directory.set (u8 body 0)
                { s.dirEntry (u8 body 0) with state := .writing, verified := false }
              upload := some ⟨u8 body 0, u16 body 1, body.drop 3, .preparing, 0, 0xFFFFFFFF#32, [], 0, false, some tag,
                [], none, none⟩
              order := s.csc.order ++ [.upload] }
            clp := { s.clp with marks := { s.clp.marks with directory := true } } } 0x40 tag)))) ∧
    (∀ (s : State) (tag : Octet) (body : List Octet), s.accepts tag → body.length = 130 →
      (s.anyEmergency = true → exec (.clipData tag body) s = .next (s.replied 0x41 tag .emergency [])) ∧
      (s.anyEmergency = false → s.csc.upload = none → exec (.clipData tag body) s = .next (s.replied 0x41 tag .invalid [])) ∧
      (s.anyEmergency = false → ∀ up ∈ s.csc.upload,
        (up.state = .sequenceFailed → exec (.clipData tag body) s = .next (s.replied 0x41 tag .sequence [])) ∧
          (up.state = .faulted → exec (.clipData tag body) s = .next (s.replied 0x41 tag .flashFault [])) ∧
          (up.state = .finishing → exec (.clipData tag body) s = .next (s.replied 0x41 tag .busy [])))) ∧
    ∀ (s : State) (tag : Octet) (body : List Octet) (up : Upload), s.accepts tag → body.length = 130 →
      s.anyEmergency = false → s.csc.upload = some up → up.state = .preparing ∨ up.state = .receiving →
      (u16 body 0 = up.received + 1 → u16 body 0 ≤ up.length → up.waiting = [] → up.buffer.length < 8 →
        exec (.clipData tag body) s =
          .next (State.replied { s with
            csc := { s.csc with
              upload := some { up with
                buffer := up.buffer ++ [⟨u16 body 0, body.drop 2⟩], crc := crc32More up.crc (body.drop 2)
                received := up.received + 1 } } } 0x41 tag .ok [])) ∧
      (u16 body 0 = up.received + up.waiting.length + 1 → u16 body 0 ≤ up.length → 8 ≤ up.buffer.length →
        exec (.clipData tag body) s =
          .next (State.outstanding { s with
            csc := { s.csc with
              upload := some { up with waiting := up.waiting ++ [⟨tag, ⟨u16 body 0, body.drop 2⟩⟩] } } } 0x41 tag)) ∧
      (u16 body 0 ≠ up.received + up.waiting.length + 1 ∨ up.length < u16 body 0 → up.waiting = [] ∨ s.owedLaw →
        exec (.clipData tag body) s =
          .next (State.replied { s with
            csc := { s.csc with upload := some { up with state := .sequenceFailed, waiting := [] } }
            clp := { s.clp with
              marks := { s.clp.marks with directory := true }
              slots := s.clp.slots.map fun y =>
                if up.waiting.any fun w => y.waits w.tag then { y with phase := .queued } else y
              replies := s.clp.replies ++ s.clp.statusReplies (up.waiting.map fun w => (w.tag, .sequence)) } } 0x41 tag
            .sequence []))

/-- UPLOAD_END, UPLOAD_ABORT and ERASE_SLOT (R168, R169, R170) with no other request waiting on the upload: a whole clip with its
CRC goes to write completion with the reply waiting; otherwise the status of R168, the slot DAMAGED and the upload ended; of a
PREPARING upload whose operation runs nothing more is started, the slot stays WRITING (R166), and the replies wait for that
operation, those of UPLOAD_BEGIN and CLIP_DATA with them. An erase makes its slot DAMAGED at once and owes its reply, and an EMPTY
slot is answered at once. Which uploads wait for an operation, and what is answered then, rests on log entry 53; that a FAULTED
upload leaves its slot DAMAGED whatever an ERASE_SLOT has made of it, on log entry 55. In an emergency, and where R168 and R170
say BUSY, they are refused. -/
def Obligations.UploadsEndAndSlotsAreErased : Prop :=
  (∀ (s : State) (tag : Octet) (body : List Octet) (up : Upload), s.accepts tag → s.anyEmergency = false →
    s.csc.upload = some up → up.beginTag = none → up.waiting = [] → up.endTag = none → up.slot < 63 →
    s.csc.directory.length = 63 →
    (body.length = 4 → up.state = .receiving → up.received = up.length → crc32Result up.crc = w32 body 0 →
      exec (.uploadEnd tag body) s =
        .next (State.outstanding { s with
          csc := { s.csc with upload := some { up with state := .finishing, endTag := some tag } }
          clp := { s.clp with marks := { s.clp.marks with directory := true } } } 0x42 tag)) ∧
    (body.length = 4 → up.state ≠ .finishing → up.state ≠ .preparing ∨ (∀ o ∈ s.csc.port, o.owner ≠ .upload) →
      ∀ st : Status,
        (st = .flashFault ∧ up.state = .faulted) ∨ (st = .sequence ∧ up.state = .sequenceFailed) ∨
          (st = .short ∧ up.state ≠ .faulted ∧ up.state ≠ .sequenceFailed ∧ up.received < up.length) ∨
          (st = .crcMismatch ∧ up.state ≠ .faulted ∧ up.state ≠ .sequenceFailed ∧ up.length ≤ up.received ∧
            crc32Result up.crc ≠ w32 body 0) →
        ∃ u : State, exec (.uploadEnd tag body) s = .next (u.replied 0x42 tag st []) ∧ u.csc.upload = none ∧
          (u.dirEntry up.slot).state = .damaged ∧ u.csc.order = s.csc.order.filter (· != .upload) ∧
          u.flash = s.flash ∧ ∀ k ∈ List.range 63, k ≠ up.slot → u.dirEntry k = s.dirEntry k) ∧
    ∃ u : State, exec (.uploadAbort tag []) s = .next (u.replied 0x43 tag .ok []) ∧ u.csc.upload = none ∧
      (u.dirEntry up.slot).state = .damaged ∧ u.csc.order = s.csc.order.filter (· != .upload) ∧ u.flash = s.flash ∧
      ∀ k ∈ List.range 63, k ≠ up.slot → u.dirEntry k = s.dirEntry k) ∧
    (∀ (s : State) (tag : Octet) (body : List Octet) (up : Upload), s.accepts tag → s.anyEmergency = false →
      s.csc.upload = some up → up.state = .preparing → (∃ o ∈ s.csc.port, o.owner = .upload) → body.length = 4 →
      ∀ st : Status,
        (st = .short ∧ up.received < up.length) ∨
          (st = .crcMismatch ∧ up.length ≤ up.received ∧ crc32Result up.crc ≠ w32 body 0) →
        ∃ u : State, exec (.uploadEnd tag body) s = .next (u.outstanding 0x42 tag) ∧
          u.csc.upload = some { up with state := .finishing, endTag := some tag, failed := some st } ∧
          u.csc.port = s.csc.port ∧ u.csc.order = s.csc.order.filter (· != .upload) ∧ u.flash = s.flash ∧
          u.csc.directory = s.csc.directory ∧ u.clp = { s.clp with marks := { s.clp.marks with directory := true } }) ∧
    (∀ (s : State) (tag : Octet), s.accepts tag → s.anyEmergency = false → s.csc.upload = none →
      exec (.uploadAbort tag []) s = .next (s.replied 0x43 tag .invalid []) ∧
        ∀ body : List Octet, body.length = 4 → exec (.uploadEnd tag body) s = .next (s.replied 0x42 tag .invalid [])) ∧
    (∀ (s : State) (tag : Octet) (body : List Octet), s.accepts tag →
      (s.anyEmergency = true →
        exec (.uploadAbort tag []) s = .next (s.replied 0x43 tag .emergency []) ∧
          (body.length = 4 → exec (.uploadEnd tag body) s = .next (s.replied 0x42 tag .emergency [])) ∧
          ∀ slot : Octet, slot.toNat ≤ 62 → exec (.eraseSlot tag [slot]) s = .next (s.replied 0x44 tag .emergency [])) ∧
      (s.anyEmergency = false → body.length = 4 → (∃ up ∈ s.csc.upload, up.state = .finishing) →
        exec (.uploadEnd tag body) s = .next (s.replied 0x42 tag .busy []))) ∧
    ∀ (s : State) (tag slot : Octet), s.accepts tag → s.anyEmergency = false → s.csc.directory.length = 63 →
      (62 < slot.toNat → exec (.eraseSlot tag [slot]) s = .next (s.replied 0x44 tag .invalid [])) ∧
      (slot.toNat ≤ 62 → slot.toNat < protectedCount s.csc.level →
        exec (.eraseSlot tag [slot]) s = .next (s.replied 0x44 tag .protectedSlot [])) ∧
      (slot.toNat ≤ 62 → protectedCount s.csc.level ≤ slot.toNat →
        (s.dirEntry slot.toNat).state = .writing ∨ s.slotInPlay slot.toNat = true ∨ s.csc.erase ≠ none ∨
          (∃ x ∈ s.csc.settings, x.level ≠ none) →
        exec (.eraseSlot tag [slot]) s = .next (s.replied 0x44 tag .busy [])) ∧
      (slot.toNat ≤ 62 → protectedCount s.csc.level ≤ slot.toNat → s.slotInPlay slot.toNat = false → s.csc.erase = none →
        (∀ x ∈ s.csc.settings, x.level = none) →
        ((s.dirEntry slot.toNat).state = .empty →
          exec (.eraseSlot tag [slot]) s = .next (s.replied 0x44 tag .ok [])) ∧
        ((s.dirEntry slot.toNat).state = .ready ∨ (s.dirEntry slot.toNat).state = .damaged →
          ∃ u : State, exec (.eraseSlot tag [slot]) s = .next (u.outstanding 0x44 tag) ∧
            u.csc.erase = some ⟨slot.toNat, 0, some tag⟩ ∧ (u.dirEntry slot.toNat).state = .damaged ∧
            u.csc.order = s.csc.order ++ [.eraseSlot] ∧ u.flash = s.flash ∧
            ∀ k ∈ List.range 63, k ≠ slot.toNat → u.dirEntry k = s.dirEntry k))

/-- SAVE_SETTINGS and SET_PROTECTION (R163, R171): a settings write starts with a snapshot of the configuration as it stands, the
copy-valid flag is cleared, and the reply waits (the number of its pages: log entry 9); protection changes only with MAINT
asserted and no upload, erase or settings write, and a level in force is answered at once. -/
def Obligations.SettingsWritesStart : Prop :=
  ∀ (s : State) (tag : Octet), s.accepts tag →
    (s.csc.upload ≠ none ∨ s.csc.settings ≠ none →
      exec (.saveSettings tag []) s = .next (s.replied 0x04 tag .busy [])) ∧
    (s.csc.upload = none → s.csc.settings = none →
      exec (.saveSettings tag []) s =
        .next (State.outstanding { s with
          csc := { s.csc with
            settings := some ⟨s.snapshot, false, Config.settingsPagesLessOne + 1, none, some tag⟩, copyValid := false
            order := s.csc.order ++ [.settings] }
          clp := { s.clp with
            marks := { s.clp.marks with directory := s.clp.marks.directory || s.csc.copyValid } } } 0x04 tag)) ∧
    ∀ k : Octet,
      (7 < k.toNat → exec (.setProtection tag [k]) s = .next (s.replied 0x46 tag .invalid [])) ∧
      (k.toNat ≤ 7 → s.pins.maint = false →
        exec (.setProtection tag [k]) s = .next (s.replied 0x46 tag .locked [])) ∧
      (k.toNat ≤ 7 → s.pins.maint = true → s.csc.upload ≠ none ∨ s.csc.erase ≠ none ∨ s.csc.settings ≠ none →
        exec (.setProtection tag [k]) s = .next (s.replied 0x46 tag .busy [])) ∧
      (k.toNat ≤ 7 → s.pins.maint = true → s.csc.upload = none → s.csc.erase = none → s.csc.settings = none →
        (k.toNat = s.csc.level → exec (.setProtection tag [k]) s = .next (s.replied 0x46 tag .ok [])) ∧
        (k.toNat ≠ s.csc.level →
          exec (.setProtection tag [k]) s =
            .next (State.outstanding { s with
              csc := { s.csc with
                settings := some ⟨{ s.snapshot with level := k.toNat }, false, Config.settingsPagesLessOne + 1,
                  some k.toNat, some tag⟩
                copyValid := false, order := s.csc.order ++ [.settings] }
              clp := { s.clp with
                marks := { s.clp.marks with directory := s.clp.marks.directory || s.csc.copyValid } } } 0x46 tag)))

/-! ### Reading -/

/-- The seven requests that read (R24, R45, R77, R101, R127, R158, R172) are answered OK with a snapshot that begins as stated,
and change nothing; a number out of range is refused with INVALID. -/
def Obligations.ReadRequestsChangeNothing : Prop :=
  ∀ (s : State) (tag k : Octet), s.accepts tag → s.n ≤ 24 →
    (k.toNat < 1 ∨ s.n < k.toNat →
      exec (.getRu tag [k]) s = .next (s.replied 0x11 tag .invalid []) ∧
        exec (.getZone tag [k]) s = .next (s.replied 0x1A tag .invalid []) ∧
        exec (.getBudget tag [k]) s = .next (s.replied 0x22 tag .invalid [])) ∧
    (1 ≤ k.toNat → k.toNat ≤ s.n →
      (∃ fields, exec (.getRu tag [k]) s = .next (s.replied 0x11 tag .ok fields) ∧
        fields.take 8 = e8 s.n ++ e8 s.lpc.rA ++ e8 s.lpc.rB ++ [k] ++ eWord (s.ru (k.toNat - 1)).configured) ∧
      (∃ fields, exec (.getZone tag [k]) s = .next (s.replied 0x1A tag .ok fields) ∧
        fields.take 10 =
          e8 (s.zmg.zones.getD (k.toNat - 1) ⟨0, .normal⟩).threshold ++
            [if s.modeOf (k.toNat - 1) = .emergency then 0x01 else 0x00,
              if s.zmg.incident.mem (k.toNat - 1) then 0x01 else 0x00,
              if k.toNat < s.zmg.effective then 0x00 else 0x01] ++
            e8 s.n ++ e8 s.zmg.stored ++ e8 s.zmg.effective ++ eZones s.zmg.incident) ∧
      (∃ fields, exec (.getBudget tag [k]) s = .next (s.replied 0x22 tag .ok fields) ∧
        fields.take 6 =
          e16 (s.powerCfg (k.toNat - 1)).limit ++ e16 (s.powerCfg (k.toNat - 1)).broadcast ++
            e16 (s.powerCfg (k.toNat - 1)).rescue)) ∧
    (k.toNat < 1 ∨ 8 < k.toNat → exec (.getChannel tag [k]) s = .next (s.replied 0x29 tag .invalid [])) ∧
    (1 ≤ k.toNat → k.toNat ≤ 8 →
      ∃ fields, exec (.getChannel tag [k]) s = .next (s.replied 0x29 tag .ok fields) ∧
        fields.take 7 =
          [if (s.channel (k.toNat - 1)).cfg.enabled then 0x01 else 0x00] ++
            eZones (s.channel (k.toNat - 1)).cfg.coverage ++ e8 (s.channel (k.toNat - 1)).cfg.qOpen ++
            e8 (s.channel (k.toNat - 1)).cfg.qClose ++ e8 (s.channel (k.toNat - 1)).cfg.hysteresis) ∧
    (k.toNat < 1 ∨ 4 < k.toNat → exec (.getBand tag [k]) s = .next (s.replied 0x2D tag .invalid [])) ∧
    (1 ≤ k.toNat → k.toNat ≤ 4 →
      ∃ fields, exec (.getBand tag [k]) s = .next (s.replied 0x2D tag .ok fields) ∧
        fields.take 6 =
          e8 (s.band (k.toNat - 1)).cfg.threshold ++ e16 (s.band (k.toNat - 1)).cfg.hold ++
            e8 (s.band (k.toNat - 1)).cfg.hysteresis ++ e8 (s.band (k.toNat - 1)).cfg.capacity ++
            [if (s.band (k.toNat - 1)).feed then 0x00 else 0x01]) ∧
    ∀ a n : Octet,
      (3 < k.toNat ∨ 95 < a.toNat ∨ 32 < n.toNat ∨ 96 < a.toNat + n.toNat →
        exec (.getPlayer tag [k, a, n]) s = .next (s.replied 0x3B tag .invalid [])) ∧
      (k.toNat ≤ 3 → a.toNat ≤ 95 → n.toNat ≤ 32 → a.toNat + n.toNat ≤ 96 →
        ∃ fields, exec (.getPlayer tag [k, a, n]) s = .next (s.replied 0x3B tag .ok fields) ∧
          fields.take 2 = [k] ++ e8 (s.player k.toNat).state.code) ∧
      (62 < a.toNat ∨ n.toNat < 1 ∨ 16 < n.toNat ∨ 63 < a.toNat + n.toNat →
        exec (.getDirectory tag [a, n]) s = .next (s.replied 0x45 tag .invalid [])) ∧
      (1 ≤ n.toNat → n.toNat ≤ 16 → a.toNat + n.toNat ≤ 63 →
        ∃ fields, exec (.getDirectory tag [a, n]) s = .next (s.replied 0x45 tag .ok fields) ∧
          fields.take (2 * s.csc.directory.length) =
            s.csc.directory.flatMap fun e => e8 e.state.code ++ [if e.verified then 0x01 else 0x00])

/-! ### The laws that every step keeps -/

/-- Every step keeps the external flash in canonical form. The form is the model's own (log entry 37): an unlisted octet is all
ones. -/
def Obligations.EveryStepKeepsTheFlashCanonical : Prop :=
  ∀ s t : State, s.flash.wf → step s = .next t → t.flash.wf

/-- The law of the control link (R175): at most 4 requests are outstanding, no two share a tag, and a request that has been
answered has exactly one reply until that reply is sent; at most 8 refusal replies wait (R177); the line carries the octets of the
frame in sending (R173). -/
def Obligations.EveryStepKeepsTheLinkLaw : Prop :=
  ∀ s t : State, s.clp.linkLaw → step s = .next t → t.clp.linkLaw

/-- The other half of R175: a request that is outstanding without a reply is owed its reply by exactly one block, and no block
owes a reply to any other, so none is lost and none is answered twice. -/
def Obligations.EveryWaitingRequestIsOwedItsReply : Prop :=
  ∀ s t : State, s.owedLaw → step s = .next t → t.owedLaw

/-- The law of the serving end (R14); the law of the applied alignment (R30) with the holds of R28. -/
def Obligations.EveryStepKeepsTheLoopLaws : Prop :=
  (∀ s t : State, s.servingLaw → step s = .next t → t.servingLaw) ∧
    (∀ s t : State, s.alignmentLaw → step s = .next t → t.alignmentLaw)

/-- The modes are the EMERGENCY set (R46, R48); with it the law of the alarm latch (R52). -/
def Obligations.EveryStepKeepsTheEmergencyLaw : Prop :=
  (∀ s t : State, s.emergencyLaw → step s = .next t → t.emergencyLaw) ∧
    ∀ s : State, s.emergencyLaw → s.clp.part = .running → s.zmg.latch = true →
      ∀ i ∈ List.range s.n, s.modeOf i = .emergency

/-- Every allocation record is the one of the inputs as they stand (R73), hence the law of the emergency bank for the power side
(R64). -/
def Obligations.EveryStepKeepsTheBudgetLaw : Prop :=
  (∀ s t : State, s.budgetLaw → step s = .next t → t.budgetLaw) ∧
    ∀ s : State, s.budgetLaw → ∀ i ∈ List.range s.n, s.isActive i = true → s.modeOf i = .emergency →
      (s.allocOf i).bank = some 1

/-- The law of the voter's source (R110), of the eight channels (R80). -/
def Obligations.EveryStepKeepsTheVoterLaw : Prop :=
  ∀ s t : State, s.voterLaw → step s = .next t → t.voterLaw

/-- The law of gate capacity (R119); the gate table (R118) with the law of the emergency bank for the gate side (R123). -/
def Obligations.EveryStepKeepsTheGateLaws : Prop :=
  (∀ s t : State, s.capacityLaw → step s = .next t → t.capacityLaw) ∧
    (∀ s t : State, s.gateLaw → step s = .next t → t.gateLaw)

/-- The law of priority 15 (R131); the activation list (R129, R130) with the law of the zone's break-in (R133) within a block; an
IDLE player is at rest (R148, R155). -/
def Obligations.EveryStepKeepsTheBreakInLaws : Prop :=
  (∀ s t : State, s.priorityLaw → step s = .next t → t.priorityLaw) ∧
    (∀ s t : State, s.breakInLaw → step s = .next t → t.breakInLaw) ∧
    (∀ s t : State, s.restLaw → step s = .next t → t.restLaw)

/-- The law of protection (R163): no slot below the protected count is ever erased or programmed. -/
def Obligations.ProtectedSlotsAreNeverWritten : Prop :=
  ∀ s t : State, s.protectionLaw → step s = .next t →
    t.protectionLaw ∧ ∀ slot : Nat, slot < protectedCount s.csc.level → s.flash.sameSlot t.flash slot

/-- The law of the writing slot (R166). -/
def Obligations.EveryStepKeepsTheWritingLaw : Prop :=
  ∀ s t : State, s.writingLaw → step s = .next t → t.writingLaw

/-- The laws hold right after reset. -/
def Obligations.ResetMeetsEveryLaw : Prop :=
  State.reset.flash.wf ∧ State.reset.clp.linkLaw ∧ State.reset.owedLaw ∧ State.reset.servingLaw ∧
    State.reset.alignmentLaw ∧ State.reset.emergencyLaw ∧ State.reset.budgetLaw ∧ State.reset.voterLaw ∧
    State.reset.capacityLaw ∧ State.reset.gateLaw ∧ State.reset.priorityLaw ∧ State.reset.breakInLaw ∧ State.reset.restLaw ∧
    State.reset.protectionLaw ∧ State.reset.writingLaw
end

