-- ==== Sys2Proof/Laws/Flash.lean ====
section
/-! SUPPORT. The external flash: every operation keeps the canonical form, and what an octet reads as after each (R159). -/

namespace Sys2Proof.Machine

/-! ### The canonical form in two parts: what is listed, and where -/

/-- Every address of a list lies at or above a bound. -/
def Above (a : Nat) (l : List Host.Cell) : Prop := ∀ x ∈ l, a ≤ x.1

theorem cellsWf_cons {a : Nat} {v : Octet} {l : List Host.Cell} :
    cellsWf ((a, v) :: l) = true ↔ v ≠ 0xFF#8 ∧ Above (a + 1) l ∧ cellsWf l = true := by
  induction l generalizing a v with
  | nil => simp [cellsWf, Above]
  | cons y l ih =>
    obtain ⟨b, w⟩ := y
    constructor
    · intro h
      simp only [cellsWf, Bool.and_eq_true, bne_iff_ne, ne_eq, decide_eq_true_eq] at h
      obtain ⟨⟨hv, hl⟩, hb⟩ := h
      refine ⟨hv, ?_, by simpa only [cellsWf, Bool.and_eq_true, bne_iff_ne, ne_eq] using hl⟩
      have hl' : cellsWf ((b, w) :: l) = true := by
        simpa only [cellsWf, Bool.and_eq_true, bne_iff_ne, ne_eq] using hl
      have h2 := (ih.1 hl').2.1
      intro x hx
      rcases List.mem_cons.1 hx with rfl | hx
      · exact hb
      · have := h2 x hx; omega
    · rintro ⟨hv, ha, hl⟩
      have := ha (b, w) (by simp)
      simp only [cellsWf, Bool.and_eq_true, bne_iff_ne, ne_eq, decide_eq_true_eq] at hl ⊢
      exact ⟨⟨hv, hl⟩, this⟩

theorem cellAt_eq_of_above {l : List Host.Cell} {a b : Nat} (h : Above b l) (hab : a < b) : cellAt l a = 0xFF#8 := by
  induction l with
  | nil => rfl
  | cons y l ih =>
    obtain ⟨c, w⟩ := y
    have hc := h (c, w) (by simp)
    have hne : a ≠ c := by simp only at hc; omega
    simp only [cellAt, if_neg hne]
    exact ih fun x hx => h x (by simp [hx])

/-! ### One octet written -/

theorem putCell_above {l : List Host.Cell} {a b : Nat} {v : Octet} (h : Above b l) (hab : b ≤ a) : Above b (putCell l a v) := by
  induction l with
  | nil =>
    intro x hx
    simp only [putCell] at hx
    split at hx
    · cases hx
    · simp only [List.mem_singleton] at hx; subst hx; exact hab
  | cons y l ih =>
    obtain ⟨c, w⟩ := y
    have hl : Above b l := fun x hx => h x (by simp [hx])
    have hc : b ≤ c := h (c, w) (by simp)
    intro x hx
    simp only [putCell] at hx
    split at hx
    · split at hx
      · exact h x hx
      · rcases List.mem_cons.1 hx with rfl | hx
        · exact hab
        · exact h x hx
    · split at hx
      · split at hx
        · exact hl x hx
        · rcases List.mem_cons.1 hx with rfl | hx
          · exact hab
          · exact hl x hx
      · rcases List.mem_cons.1 hx with rfl | hx
        · exact hc
        · exact ih hl x hx

/-- A write keeps the canonical form. -/
theorem putCell_wf {l : List Host.Cell} {a : Nat} {v : Octet} (h : cellsWf l = true) : cellsWf (putCell l a v) = true := by
  induction l with
  | nil => simp only [putCell]; split <;> simp_all [cellsWf]
  | cons y l ih =>
    obtain ⟨c, w⟩ := y
    obtain ⟨hw, hc, hl⟩ := cellsWf_cons.1 h
    simp only [putCell]
    split
    · rename_i hac
      split
      · exact h
      · rename_i hv
        refine cellsWf_cons.2 ⟨hv, ?_, h⟩
        intro x hx
        rcases List.mem_cons.1 hx with rfl | hx
        · exact hac
        · have := hc x hx; omega
    · split
      · rename_i hac
        split
        · exact hl
        · rename_i hv
          subst hac
          exact cellsWf_cons.2 ⟨hv, hc, hl⟩
      · exact cellsWf_cons.2 ⟨hw, putCell_above hc (by omega), ih hl⟩

/-- What an octet reads as after a write: the value written at its address, and what it was everywhere else. -/
theorem cellAt_putCell {l : List Host.Cell} {a b : Nat} {v : Octet} (h : cellsWf l = true) :
    cellAt (putCell l a v) b = if b = a then v else cellAt l b := by
  induction l with
  | nil =>
    simp only [putCell]
    split
    · rename_i hv; subst hv; simp [cellAt]
    · simp [cellAt]
  | cons y l ih =>
    obtain ⟨c, w⟩ := y
    obtain ⟨-, hc, hl⟩ := cellsWf_cons.1 h
    simp only [putCell]
    split
    · rename_i hac
      split
      · rename_i hv
        subst hv
        by_cases hb : b = a
        · subst hb
          have hne : b ≠ c := by omega
          simp only [cellAt, if_neg hne, if_true]
          exact cellAt_eq_of_above hc (by omega)
        · simp [hb]
      · simp [cellAt]
    · split
      · rename_i hac
        subst hac
        split
        · rename_i hv
          subst hv
          by_cases hb : b = a
          · subst hb
            simp only [if_true]
            exact cellAt_eq_of_above hc (by omega)
          · simp [cellAt, hb]
        · by_cases hb : b = a <;> simp [cellAt, hb]
      · rename_i h1 h2
        by_cases hbc : b = c
        · subst hbc
          have : b ≠ a := by omega
          simp [cellAt, this]
        · simp [cellAt, hbc, ih hl]

/-! ### Programs -/

theorem programCells_wf {l : List Host.Cell} {a : Nat} {vs : List Octet} (h : cellsWf l = true) :
    cellsWf (programCells l a vs) = true := by
  induction vs generalizing l a with
  | nil => exact h
  | cons v vs ih => exact ih (putCell_wf h)

/-- A program turns bits from one to zero in the octets it covers, and leaves every other octet. -/
theorem cellAt_programCells {l : List Host.Cell} {a b : Nat} {vs : List Octet} (h : cellsWf l = true) :
    cellAt (programCells l a vs) b =
      if a ≤ b ∧ b < a + vs.length then cellAt l b &&& vs.getD (b - a) 0#8 else cellAt l b := by
  induction vs generalizing l a with
  | nil =>
    have : ¬ (a ≤ b ∧ b < a + ([] : List Octet).length) := by simp only [List.length_nil]; omega
    rw [if_neg this, programCells]
  | cons v vs ih =>
    rw [programCells, ih (putCell_wf h), cellAt_putCell h]
    simp only [List.length_cons]
    by_cases hb : b = a
    · subst hb
      have h1 : ¬ (b + 1 ≤ b ∧ b < b + 1 + vs.length) := by omega
      have h2 : b ≤ b ∧ b < b + (vs.length + 1) := by omega
      simp only [if_neg h1, if_pos h2, if_true, Nat.sub_self, List.getD_cons_zero]
    · rw [if_neg hb]
      by_cases hin : a + 1 ≤ b ∧ b < a + 1 + vs.length
      · have e : b - a = b - (a + 1) + 1 := by omega
        rw [if_pos hin, if_pos (by omega), e, List.getD_cons_succ]
      · rw [if_neg hin, if_neg (by omega)]

theorem programCellsCut_wf {k : Nat} {l : List Host.Cell} {a : Nat} {vs : List Octet} (h : cellsWf l = true) :
    cellsWf (programCellsCut k l a vs) = true := by
  induction vs generalizing l a with
  | nil => exact h
  | cons v vs ih => exact ih (putCell_wf h)

/-- A program that was cut leaves every octet outside the octets given. -/
theorem cellAt_programCellsCut_outside {k : Nat} {l : List Host.Cell} {a b : Nat} {vs : List Octet} (h : cellsWf l = true)
    (hb : b < a ∨ a + vs.length ≤ b) : cellAt (programCellsCut k l a vs) b = cellAt l b := by
  induction vs generalizing l a with
  | nil => rfl
  | cons v vs ih =>
    simp only [List.length_cons] at hb
    rw [programCellsCut, ih (putCell_wf h) (by omega), cellAt_putCell h, if_neg (by omega)]

/-! ### Erases -/

theorem eraseCells_wf {l : List Host.Cell} {lo hi : Nat} (h : cellsWf l = true) : cellsWf (eraseCells l lo hi) = true := by
  induction l with
  | nil => rfl
  | cons y l ih =>
    obtain ⟨c, w⟩ := y
    obtain ⟨hw, hc, hl⟩ := cellsWf_cons.1 h
    have ih := ih hl
    simp only [eraseCells, List.filter_cons] at ih ⊢
    split
    · exact cellsWf_cons.2 ⟨hw, fun x hx => hc x (List.mem_filter.1 hx).1, ih⟩
    · exact ih

/-- After an erase every octet from `lo` up to `hi` is all ones, and every other octet is what it was. -/
theorem cellAt_eraseCells {l : List Host.Cell} {lo hi a : Nat} (h : cellsWf l = true) :
    cellAt (eraseCells l lo hi) a = if lo ≤ a ∧ a < hi then 0xFF#8 else cellAt l a := by
  induction l with
  | nil => simp [eraseCells, cellAt]
  | cons y l ih =>
    obtain ⟨c, w⟩ := y
    obtain ⟨-, hc, hl⟩ := cellsWf_cons.1 h
    have ih := ih hl
    simp only [eraseCells, List.filter_cons] at ih ⊢
    by_cases hin : lo ≤ c ∧ c < hi
    · rw [if_neg (by simp [hin]), ih]
      by_cases hac : a = c
      · subst hac; rw [if_pos hin, if_pos hin]
      · simp only [cellAt, if_neg hac]
    · have hb : (!(decide (lo ≤ c) && decide (c < hi))) = true := by
        rw [← Bool.decide_and, Bool.not_eq_true', decide_eq_false_iff_not]; exact hin
      rw [if_pos hb]
      by_cases hac : a = c
      · subst hac; simp only [cellAt, if_true, if_neg hin]
      · simp only [cellAt, if_neg hac]; exact ih

theorem eraseCellsCut_wf {k : Nat} {l : List Host.Cell} {lo hi : Nat} (h : cellsWf l = true) :
    cellsWf (eraseCellsCut k l lo hi) = true := by
  have above : ∀ (l : List Host.Cell) (a : Nat), Above a l → Above a (eraseCellsCut k l lo hi) := by
    intro l a ha x hx
    obtain ⟨y, hy, hyx⟩ := List.mem_filterMap.1 hx
    have := ha y hy
    split at hyx
    · simp only at hyx
      split at hyx
      · cases hyx
      · cases hyx; exact this
    · cases hyx; exact this
  induction l with
  | nil => rfl
  | cons y l ih =>
    obtain ⟨c, w⟩ := y
    obtain ⟨hw, hc, hl⟩ := cellsWf_cons.1 h
    have ih := ih hl
    have ha := above l (c + 1) hc
    simp only [eraseCellsCut] at ih ha ⊢
    rw [List.filterMap_cons]
    by_cases hin : lo ≤ c ∧ c < hi
    · by_cases hv : w ||| Config.tornOctet k c = 0xFF#8
      · simpa [hin, hv] using ih
      · simp only [hin, hv, and_self, if_true, if_false]
        exact cellsWf_cons.2 ⟨hv, ha, ih⟩
    · simp only [hin, if_false]
      exact cellsWf_cons.2 ⟨hw, ha, ih⟩

/-! ### Operations -/

theorem writeBlocks_wf {write : List Host.Cell → Nat → List Octet → List Host.Cell}
    (hw : ∀ l a vs, cellsWf l = true → cellsWf (write l a vs) = true) {l : List Host.Cell} {slot : Nat} {bs : List IndexedBlock}
    (h : cellsWf l = true) : cellsWf (writeBlocks write l slot bs) = true := by
  unfold writeBlocks
  induction bs generalizing l with
  | nil => exact h
  | cons b bs ih => exact ih (hw _ _ _ h)

/-- Every operation that finishes keeps the canonical form. -/
theorem Flash.finish_wf {f : Flash} {op : FlashOp} (h : cellsWf f.cells = true) : cellsWf (f.finish op).cells = true := by
  cases op <;> simp only [Flash.finish] <;> first
    | exact h
    | exact eraseCells_wf h
    | exact writeBlocks_wf (fun _ _ _ => programCells_wf) h

/-- Every operation that is cut keeps the canonical form. -/
theorem Flash.cutOp_wf {f : Flash} {op : FlashOp} (h : cellsWf f.cells = true) : cellsWf (f.cutOp op).cells = true := by
  cases op <;> simp only [Flash.cutOp] <;> first
    | exact h
    | exact eraseCellsCut_wf h
    | exact writeBlocks_wf (fun _ _ _ => programCellsCut_wf) h

/-- The flash right after reset is in canonical form. -/
theorem reset_flash_wf : cellsWf State.reset.flash.cells = true := rfl

end Sys2Proof.Machine
end

