-- ==== Sys2Proof/Laws/State.lean ====
section
/-! SUPPORT. One lemma per field per block update, true by definition, so that no proof unfolds a record update. -/

namespace Sys2Proof.Machine

variable (s : State)

/-! ### `State.modClp` -/

@[simp] theorem State.modClp_power (g : Clp → Clp) : (s.modClp g).power = s.power := rfl
@[simp] theorem State.modClp_now (g : Clp → Clp) : (s.modClp g).now = s.now := rfl
@[simp] theorem State.modClp_epochAt (g : Clp → Clp) : (s.modClp g).epochAt = s.epochAt := rfl
@[simp] theorem State.modClp_blockAt (g : Clp → Clp) : (s.modClp g).blockAt = s.blockAt := rfl
@[simp] theorem State.modClp_loopOn (g : Clp → Clp) : (s.modClp g).loopOn = s.loopOn := rfl
@[simp] theorem State.modClp_pins (g : Clp → Clp) : (s.modClp g).pins = s.pins := rfl
@[simp] theorem State.modClp_clp (g : Clp → Clp) : (s.modClp g).clp = g s.clp := rfl
@[simp] theorem State.modClp_lpc (g : Clp → Clp) : (s.modClp g).lpc = s.lpc := rfl
@[simp] theorem State.modClp_sau (g : Clp → Clp) : (s.modClp g).sau = s.sau := rfl
@[simp] theorem State.modClp_zmg (g : Clp → Clp) : (s.modClp g).zmg = s.zmg := rfl
@[simp] theorem State.modClp_pbe (g : Clp → Clp) : (s.modClp g).pbe = s.pbe := rfl
@[simp] theorem State.modClp_channels (g : Clp → Clp) : (s.modClp g).channels = s.channels := rfl
@[simp] theorem State.modClp_bands (g : Clp → Clp) : (s.modClp g).bands = s.bands := rfl
@[simp] theorem State.modClp_bim (g : Clp → Clp) : (s.modClp g).bim = s.bim := rfl
@[simp] theorem State.modClp_lvq (g : Clp → Clp) : (s.modClp g).lvq = s.lvq := rfl
@[simp] theorem State.modClp_apl (g : Clp → Clp) : (s.modClp g).apl = s.apl := rfl
@[simp] theorem State.modClp_csc (g : Clp → Clp) : (s.modClp g).csc = s.csc := rfl
@[simp] theorem State.modClp_flash (g : Clp → Clp) : (s.modClp g).flash = s.flash := rfl
@[simp] theorem State.modClp_out (g : Clp → Clp) : (s.modClp g).out = s.out := rfl
@[simp] theorem State.modClp_pending (g : Clp → Clp) : (s.modClp g).pending = s.pending := rfl

/-! ### `State.modLpc` -/

@[simp] theorem State.modLpc_power (g : Lpc → Lpc) : (s.modLpc g).power = s.power := rfl
@[simp] theorem State.modLpc_now (g : Lpc → Lpc) : (s.modLpc g).now = s.now := rfl
@[simp] theorem State.modLpc_epochAt (g : Lpc → Lpc) : (s.modLpc g).epochAt = s.epochAt := rfl
@[simp] theorem State.modLpc_blockAt (g : Lpc → Lpc) : (s.modLpc g).blockAt = s.blockAt := rfl
@[simp] theorem State.modLpc_loopOn (g : Lpc → Lpc) : (s.modLpc g).loopOn = s.loopOn := rfl
@[simp] theorem State.modLpc_pins (g : Lpc → Lpc) : (s.modLpc g).pins = s.pins := rfl
@[simp] theorem State.modLpc_clp (g : Lpc → Lpc) : (s.modLpc g).clp = s.clp := rfl
@[simp] theorem State.modLpc_lpc (g : Lpc → Lpc) : (s.modLpc g).lpc = g s.lpc := rfl
@[simp] theorem State.modLpc_sau (g : Lpc → Lpc) : (s.modLpc g).sau = s.sau := rfl
@[simp] theorem State.modLpc_zmg (g : Lpc → Lpc) : (s.modLpc g).zmg = s.zmg := rfl
@[simp] theorem State.modLpc_pbe (g : Lpc → Lpc) : (s.modLpc g).pbe = s.pbe := rfl
@[simp] theorem State.modLpc_channels (g : Lpc → Lpc) : (s.modLpc g).channels = s.channels := rfl
@[simp] theorem State.modLpc_bands (g : Lpc → Lpc) : (s.modLpc g).bands = s.bands := rfl
@[simp] theorem State.modLpc_bim (g : Lpc → Lpc) : (s.modLpc g).bim = s.bim := rfl
@[simp] theorem State.modLpc_lvq (g : Lpc → Lpc) : (s.modLpc g).lvq = s.lvq := rfl
@[simp] theorem State.modLpc_apl (g : Lpc → Lpc) : (s.modLpc g).apl = s.apl := rfl
@[simp] theorem State.modLpc_csc (g : Lpc → Lpc) : (s.modLpc g).csc = s.csc := rfl
@[simp] theorem State.modLpc_flash (g : Lpc → Lpc) : (s.modLpc g).flash = s.flash := rfl
@[simp] theorem State.modLpc_out (g : Lpc → Lpc) : (s.modLpc g).out = s.out := rfl
@[simp] theorem State.modLpc_pending (g : Lpc → Lpc) : (s.modLpc g).pending = s.pending := rfl

/-! ### `State.modSau` -/

@[simp] theorem State.modSau_power (g : Sau → Sau) : (s.modSau g).power = s.power := rfl
@[simp] theorem State.modSau_now (g : Sau → Sau) : (s.modSau g).now = s.now := rfl
@[simp] theorem State.modSau_epochAt (g : Sau → Sau) : (s.modSau g).epochAt = s.epochAt := rfl
@[simp] theorem State.modSau_blockAt (g : Sau → Sau) : (s.modSau g).blockAt = s.blockAt := rfl
@[simp] theorem State.modSau_loopOn (g : Sau → Sau) : (s.modSau g).loopOn = s.loopOn := rfl
@[simp] theorem State.modSau_pins (g : Sau → Sau) : (s.modSau g).pins = s.pins := rfl
@[simp] theorem State.modSau_clp (g : Sau → Sau) : (s.modSau g).clp = s.clp := rfl
@[simp] theorem State.modSau_lpc (g : Sau → Sau) : (s.modSau g).lpc = s.lpc := rfl
@[simp] theorem State.modSau_sau (g : Sau → Sau) : (s.modSau g).sau = g s.sau := rfl
@[simp] theorem State.modSau_zmg (g : Sau → Sau) : (s.modSau g).zmg = s.zmg := rfl
@[simp] theorem State.modSau_pbe (g : Sau → Sau) : (s.modSau g).pbe = s.pbe := rfl
@[simp] theorem State.modSau_channels (g : Sau → Sau) : (s.modSau g).channels = s.channels := rfl
@[simp] theorem State.modSau_bands (g : Sau → Sau) : (s.modSau g).bands = s.bands := rfl
@[simp] theorem State.modSau_bim (g : Sau → Sau) : (s.modSau g).bim = s.bim := rfl
@[simp] theorem State.modSau_lvq (g : Sau → Sau) : (s.modSau g).lvq = s.lvq := rfl
@[simp] theorem State.modSau_apl (g : Sau → Sau) : (s.modSau g).apl = s.apl := rfl
@[simp] theorem State.modSau_csc (g : Sau → Sau) : (s.modSau g).csc = s.csc := rfl
@[simp] theorem State.modSau_flash (g : Sau → Sau) : (s.modSau g).flash = s.flash := rfl
@[simp] theorem State.modSau_out (g : Sau → Sau) : (s.modSau g).out = s.out := rfl
@[simp] theorem State.modSau_pending (g : Sau → Sau) : (s.modSau g).pending = s.pending := rfl

/-! ### `State.modZmg` -/

@[simp] theorem State.modZmg_power (g : Zmg → Zmg) : (s.modZmg g).power = s.power := rfl
@[simp] theorem State.modZmg_now (g : Zmg → Zmg) : (s.modZmg g).now = s.now := rfl
@[simp] theorem State.modZmg_epochAt (g : Zmg → Zmg) : (s.modZmg g).epochAt = s.epochAt := rfl
@[simp] theorem State.modZmg_blockAt (g : Zmg → Zmg) : (s.modZmg g).blockAt = s.blockAt := rfl
@[simp] theorem State.modZmg_loopOn (g : Zmg → Zmg) : (s.modZmg g).loopOn = s.loopOn := rfl
@[simp] theorem State.modZmg_pins (g : Zmg → Zmg) : (s.modZmg g).pins = s.pins := rfl
@[simp] theorem State.modZmg_clp (g : Zmg → Zmg) : (s.modZmg g).clp = s.clp := rfl
@[simp] theorem State.modZmg_lpc (g : Zmg → Zmg) : (s.modZmg g).lpc = s.lpc := rfl
@[simp] theorem State.modZmg_sau (g : Zmg → Zmg) : (s.modZmg g).sau = s.sau := rfl
@[simp] theorem State.modZmg_zmg (g : Zmg → Zmg) : (s.modZmg g).zmg = g s.zmg := rfl
@[simp] theorem State.modZmg_pbe (g : Zmg → Zmg) : (s.modZmg g).pbe = s.pbe := rfl
@[simp] theorem State.modZmg_channels (g : Zmg → Zmg) : (s.modZmg g).channels = s.channels := rfl
@[simp] theorem State.modZmg_bands (g : Zmg → Zmg) : (s.modZmg g).bands = s.bands := rfl
@[simp] theorem State.modZmg_bim (g : Zmg → Zmg) : (s.modZmg g).bim = s.bim := rfl
@[simp] theorem State.modZmg_lvq (g : Zmg → Zmg) : (s.modZmg g).lvq = s.lvq := rfl
@[simp] theorem State.modZmg_apl (g : Zmg → Zmg) : (s.modZmg g).apl = s.apl := rfl
@[simp] theorem State.modZmg_csc (g : Zmg → Zmg) : (s.modZmg g).csc = s.csc := rfl
@[simp] theorem State.modZmg_flash (g : Zmg → Zmg) : (s.modZmg g).flash = s.flash := rfl
@[simp] theorem State.modZmg_out (g : Zmg → Zmg) : (s.modZmg g).out = s.out := rfl
@[simp] theorem State.modZmg_pending (g : Zmg → Zmg) : (s.modZmg g).pending = s.pending := rfl

/-! ### `State.modPbe` -/

@[simp] theorem State.modPbe_power (g : Pbe → Pbe) : (s.modPbe g).power = s.power := rfl
@[simp] theorem State.modPbe_now (g : Pbe → Pbe) : (s.modPbe g).now = s.now := rfl
@[simp] theorem State.modPbe_epochAt (g : Pbe → Pbe) : (s.modPbe g).epochAt = s.epochAt := rfl
@[simp] theorem State.modPbe_blockAt (g : Pbe → Pbe) : (s.modPbe g).blockAt = s.blockAt := rfl
@[simp] theorem State.modPbe_loopOn (g : Pbe → Pbe) : (s.modPbe g).loopOn = s.loopOn := rfl
@[simp] theorem State.modPbe_pins (g : Pbe → Pbe) : (s.modPbe g).pins = s.pins := rfl
@[simp] theorem State.modPbe_clp (g : Pbe → Pbe) : (s.modPbe g).clp = s.clp := rfl
@[simp] theorem State.modPbe_lpc (g : Pbe → Pbe) : (s.modPbe g).lpc = s.lpc := rfl
@[simp] theorem State.modPbe_sau (g : Pbe → Pbe) : (s.modPbe g).sau = s.sau := rfl
@[simp] theorem State.modPbe_zmg (g : Pbe → Pbe) : (s.modPbe g).zmg = s.zmg := rfl
@[simp] theorem State.modPbe_pbe (g : Pbe → Pbe) : (s.modPbe g).pbe = g s.pbe := rfl
@[simp] theorem State.modPbe_channels (g : Pbe → Pbe) : (s.modPbe g).channels = s.channels := rfl
@[simp] theorem State.modPbe_bands (g : Pbe → Pbe) : (s.modPbe g).bands = s.bands := rfl
@[simp] theorem State.modPbe_bim (g : Pbe → Pbe) : (s.modPbe g).bim = s.bim := rfl
@[simp] theorem State.modPbe_lvq (g : Pbe → Pbe) : (s.modPbe g).lvq = s.lvq := rfl
@[simp] theorem State.modPbe_apl (g : Pbe → Pbe) : (s.modPbe g).apl = s.apl := rfl
@[simp] theorem State.modPbe_csc (g : Pbe → Pbe) : (s.modPbe g).csc = s.csc := rfl
@[simp] theorem State.modPbe_flash (g : Pbe → Pbe) : (s.modPbe g).flash = s.flash := rfl
@[simp] theorem State.modPbe_out (g : Pbe → Pbe) : (s.modPbe g).out = s.out := rfl
@[simp] theorem State.modPbe_pending (g : Pbe → Pbe) : (s.modPbe g).pending = s.pending := rfl

/-! ### `State.modChannels` -/

@[simp] theorem State.modChannels_power (g : List Channel → List Channel) : (s.modChannels g).power = s.power := rfl
@[simp] theorem State.modChannels_now (g : List Channel → List Channel) : (s.modChannels g).now = s.now := rfl
@[simp] theorem State.modChannels_epochAt (g : List Channel → List Channel) : (s.modChannels g).epochAt = s.epochAt := rfl
@[simp] theorem State.modChannels_blockAt (g : List Channel → List Channel) : (s.modChannels g).blockAt = s.blockAt := rfl
@[simp] theorem State.modChannels_loopOn (g : List Channel → List Channel) : (s.modChannels g).loopOn = s.loopOn := rfl
@[simp] theorem State.modChannels_pins (g : List Channel → List Channel) : (s.modChannels g).pins = s.pins := rfl
@[simp] theorem State.modChannels_clp (g : List Channel → List Channel) : (s.modChannels g).clp = s.clp := rfl
@[simp] theorem State.modChannels_lpc (g : List Channel → List Channel) : (s.modChannels g).lpc = s.lpc := rfl
@[simp] theorem State.modChannels_sau (g : List Channel → List Channel) : (s.modChannels g).sau = s.sau := rfl
@[simp] theorem State.modChannels_zmg (g : List Channel → List Channel) : (s.modChannels g).zmg = s.zmg := rfl
@[simp] theorem State.modChannels_pbe (g : List Channel → List Channel) : (s.modChannels g).pbe = s.pbe := rfl
@[simp] theorem State.modChannels_channels (g : List Channel → List Channel) : (s.modChannels g).channels = g s.channels := rfl
@[simp] theorem State.modChannels_bands (g : List Channel → List Channel) : (s.modChannels g).bands = s.bands := rfl
@[simp] theorem State.modChannels_bim (g : List Channel → List Channel) : (s.modChannels g).bim = s.bim := rfl
@[simp] theorem State.modChannels_lvq (g : List Channel → List Channel) : (s.modChannels g).lvq = s.lvq := rfl
@[simp] theorem State.modChannels_apl (g : List Channel → List Channel) : (s.modChannels g).apl = s.apl := rfl
@[simp] theorem State.modChannels_csc (g : List Channel → List Channel) : (s.modChannels g).csc = s.csc := rfl
@[simp] theorem State.modChannels_flash (g : List Channel → List Channel) : (s.modChannels g).flash = s.flash := rfl
@[simp] theorem State.modChannels_out (g : List Channel → List Channel) : (s.modChannels g).out = s.out := rfl
@[simp] theorem State.modChannels_pending (g : List Channel → List Channel) : (s.modChannels g).pending = s.pending := rfl

/-! ### `State.modBands` -/

@[simp] theorem State.modBands_power (g : List Band → List Band) : (s.modBands g).power = s.power := rfl
@[simp] theorem State.modBands_now (g : List Band → List Band) : (s.modBands g).now = s.now := rfl
@[simp] theorem State.modBands_epochAt (g : List Band → List Band) : (s.modBands g).epochAt = s.epochAt := rfl
@[simp] theorem State.modBands_blockAt (g : List Band → List Band) : (s.modBands g).blockAt = s.blockAt := rfl
@[simp] theorem State.modBands_loopOn (g : List Band → List Band) : (s.modBands g).loopOn = s.loopOn := rfl
@[simp] theorem State.modBands_pins (g : List Band → List Band) : (s.modBands g).pins = s.pins := rfl
@[simp] theorem State.modBands_clp (g : List Band → List Band) : (s.modBands g).clp = s.clp := rfl
@[simp] theorem State.modBands_lpc (g : List Band → List Band) : (s.modBands g).lpc = s.lpc := rfl
@[simp] theorem State.modBands_sau (g : List Band → List Band) : (s.modBands g).sau = s.sau := rfl
@[simp] theorem State.modBands_zmg (g : List Band → List Band) : (s.modBands g).zmg = s.zmg := rfl
@[simp] theorem State.modBands_pbe (g : List Band → List Band) : (s.modBands g).pbe = s.pbe := rfl
@[simp] theorem State.modBands_channels (g : List Band → List Band) : (s.modBands g).channels = s.channels := rfl
@[simp] theorem State.modBands_bands (g : List Band → List Band) : (s.modBands g).bands = g s.bands := rfl
@[simp] theorem State.modBands_bim (g : List Band → List Band) : (s.modBands g).bim = s.bim := rfl
@[simp] theorem State.modBands_lvq (g : List Band → List Band) : (s.modBands g).lvq = s.lvq := rfl
@[simp] theorem State.modBands_apl (g : List Band → List Band) : (s.modBands g).apl = s.apl := rfl
@[simp] theorem State.modBands_csc (g : List Band → List Band) : (s.modBands g).csc = s.csc := rfl
@[simp] theorem State.modBands_flash (g : List Band → List Band) : (s.modBands g).flash = s.flash := rfl
@[simp] theorem State.modBands_out (g : List Band → List Band) : (s.modBands g).out = s.out := rfl
@[simp] theorem State.modBands_pending (g : List Band → List Band) : (s.modBands g).pending = s.pending := rfl

/-! ### `State.modBim` -/

@[simp] theorem State.modBim_power (g : Bim → Bim) : (s.modBim g).power = s.power := rfl
@[simp] theorem State.modBim_now (g : Bim → Bim) : (s.modBim g).now = s.now := rfl
@[simp] theorem State.modBim_epochAt (g : Bim → Bim) : (s.modBim g).epochAt = s.epochAt := rfl
@[simp] theorem State.modBim_blockAt (g : Bim → Bim) : (s.modBim g).blockAt = s.blockAt := rfl
@[simp] theorem State.modBim_loopOn (g : Bim → Bim) : (s.modBim g).loopOn = s.loopOn := rfl
@[simp] theorem State.modBim_pins (g : Bim → Bim) : (s.modBim g).pins = s.pins := rfl
@[simp] theorem State.modBim_clp (g : Bim → Bim) : (s.modBim g).clp = s.clp := rfl
@[simp] theorem State.modBim_lpc (g : Bim → Bim) : (s.modBim g).lpc = s.lpc := rfl
@[simp] theorem State.modBim_sau (g : Bim → Bim) : (s.modBim g).sau = s.sau := rfl
@[simp] theorem State.modBim_zmg (g : Bim → Bim) : (s.modBim g).zmg = s.zmg := rfl
@[simp] theorem State.modBim_pbe (g : Bim → Bim) : (s.modBim g).pbe = s.pbe := rfl
@[simp] theorem State.modBim_channels (g : Bim → Bim) : (s.modBim g).channels = s.channels := rfl
@[simp] theorem State.modBim_bands (g : Bim → Bim) : (s.modBim g).bands = s.bands := rfl
@[simp] theorem State.modBim_bim (g : Bim → Bim) : (s.modBim g).bim = g s.bim := rfl
@[simp] theorem State.modBim_lvq (g : Bim → Bim) : (s.modBim g).lvq = s.lvq := rfl
@[simp] theorem State.modBim_apl (g : Bim → Bim) : (s.modBim g).apl = s.apl := rfl
@[simp] theorem State.modBim_csc (g : Bim → Bim) : (s.modBim g).csc = s.csc := rfl
@[simp] theorem State.modBim_flash (g : Bim → Bim) : (s.modBim g).flash = s.flash := rfl
@[simp] theorem State.modBim_out (g : Bim → Bim) : (s.modBim g).out = s.out := rfl
@[simp] theorem State.modBim_pending (g : Bim → Bim) : (s.modBim g).pending = s.pending := rfl

/-! ### `State.modLvq` -/

@[simp] theorem State.modLvq_power (g : Lvq → Lvq) : (s.modLvq g).power = s.power := rfl
@[simp] theorem State.modLvq_now (g : Lvq → Lvq) : (s.modLvq g).now = s.now := rfl
@[simp] theorem State.modLvq_epochAt (g : Lvq → Lvq) : (s.modLvq g).epochAt = s.epochAt := rfl
@[simp] theorem State.modLvq_blockAt (g : Lvq → Lvq) : (s.modLvq g).blockAt = s.blockAt := rfl
@[simp] theorem State.modLvq_loopOn (g : Lvq → Lvq) : (s.modLvq g).loopOn = s.loopOn := rfl
@[simp] theorem State.modLvq_pins (g : Lvq → Lvq) : (s.modLvq g).pins = s.pins := rfl
@[simp] theorem State.modLvq_clp (g : Lvq → Lvq) : (s.modLvq g).clp = s.clp := rfl
@[simp] theorem State.modLvq_lpc (g : Lvq → Lvq) : (s.modLvq g).lpc = s.lpc := rfl
@[simp] theorem State.modLvq_sau (g : Lvq → Lvq) : (s.modLvq g).sau = s.sau := rfl
@[simp] theorem State.modLvq_zmg (g : Lvq → Lvq) : (s.modLvq g).zmg = s.zmg := rfl
@[simp] theorem State.modLvq_pbe (g : Lvq → Lvq) : (s.modLvq g).pbe = s.pbe := rfl
@[simp] theorem State.modLvq_channels (g : Lvq → Lvq) : (s.modLvq g).channels = s.channels := rfl
@[simp] theorem State.modLvq_bands (g : Lvq → Lvq) : (s.modLvq g).bands = s.bands := rfl
@[simp] theorem State.modLvq_bim (g : Lvq → Lvq) : (s.modLvq g).bim = s.bim := rfl
@[simp] theorem State.modLvq_lvq (g : Lvq → Lvq) : (s.modLvq g).lvq = g s.lvq := rfl
@[simp] theorem State.modLvq_apl (g : Lvq → Lvq) : (s.modLvq g).apl = s.apl := rfl
@[simp] theorem State.modLvq_csc (g : Lvq → Lvq) : (s.modLvq g).csc = s.csc := rfl
@[simp] theorem State.modLvq_flash (g : Lvq → Lvq) : (s.modLvq g).flash = s.flash := rfl
@[simp] theorem State.modLvq_out (g : Lvq → Lvq) : (s.modLvq g).out = s.out := rfl
@[simp] theorem State.modLvq_pending (g : Lvq → Lvq) : (s.modLvq g).pending = s.pending := rfl

/-! ### `State.modApl` -/

@[simp] theorem State.modApl_power (g : Apl → Apl) : (s.modApl g).power = s.power := rfl
@[simp] theorem State.modApl_now (g : Apl → Apl) : (s.modApl g).now = s.now := rfl
@[simp] theorem State.modApl_epochAt (g : Apl → Apl) : (s.modApl g).epochAt = s.epochAt := rfl
@[simp] theorem State.modApl_blockAt (g : Apl → Apl) : (s.modApl g).blockAt = s.blockAt := rfl
@[simp] theorem State.modApl_loopOn (g : Apl → Apl) : (s.modApl g).loopOn = s.loopOn := rfl
@[simp] theorem State.modApl_pins (g : Apl → Apl) : (s.modApl g).pins = s.pins := rfl
@[simp] theorem State.modApl_clp (g : Apl → Apl) : (s.modApl g).clp = s.clp := rfl
@[simp] theorem State.modApl_lpc (g : Apl → Apl) : (s.modApl g).lpc = s.lpc := rfl
@[simp] theorem State.modApl_sau (g : Apl → Apl) : (s.modApl g).sau = s.sau := rfl
@[simp] theorem State.modApl_zmg (g : Apl → Apl) : (s.modApl g).zmg = s.zmg := rfl
@[simp] theorem State.modApl_pbe (g : Apl → Apl) : (s.modApl g).pbe = s.pbe := rfl
@[simp] theorem State.modApl_channels (g : Apl → Apl) : (s.modApl g).channels = s.channels := rfl
@[simp] theorem State.modApl_bands (g : Apl → Apl) : (s.modApl g).bands = s.bands := rfl
@[simp] theorem State.modApl_bim (g : Apl → Apl) : (s.modApl g).bim = s.bim := rfl
@[simp] theorem State.modApl_lvq (g : Apl → Apl) : (s.modApl g).lvq = s.lvq := rfl
@[simp] theorem State.modApl_apl (g : Apl → Apl) : (s.modApl g).apl = g s.apl := rfl
@[simp] theorem State.modApl_csc (g : Apl → Apl) : (s.modApl g).csc = s.csc := rfl
@[simp] theorem State.modApl_flash (g : Apl → Apl) : (s.modApl g).flash = s.flash := rfl
@[simp] theorem State.modApl_out (g : Apl → Apl) : (s.modApl g).out = s.out := rfl
@[simp] theorem State.modApl_pending (g : Apl → Apl) : (s.modApl g).pending = s.pending := rfl

/-! ### `State.modCsc` -/

@[simp] theorem State.modCsc_power (g : Csc → Csc) : (s.modCsc g).power = s.power := rfl
@[simp] theorem State.modCsc_now (g : Csc → Csc) : (s.modCsc g).now = s.now := rfl
@[simp] theorem State.modCsc_epochAt (g : Csc → Csc) : (s.modCsc g).epochAt = s.epochAt := rfl
@[simp] theorem State.modCsc_blockAt (g : Csc → Csc) : (s.modCsc g).blockAt = s.blockAt := rfl
@[simp] theorem State.modCsc_loopOn (g : Csc → Csc) : (s.modCsc g).loopOn = s.loopOn := rfl
@[simp] theorem State.modCsc_pins (g : Csc → Csc) : (s.modCsc g).pins = s.pins := rfl
@[simp] theorem State.modCsc_clp (g : Csc → Csc) : (s.modCsc g).clp = s.clp := rfl
@[simp] theorem State.modCsc_lpc (g : Csc → Csc) : (s.modCsc g).lpc = s.lpc := rfl
@[simp] theorem State.modCsc_sau (g : Csc → Csc) : (s.modCsc g).sau = s.sau := rfl
@[simp] theorem State.modCsc_zmg (g : Csc → Csc) : (s.modCsc g).zmg = s.zmg := rfl
@[simp] theorem State.modCsc_pbe (g : Csc → Csc) : (s.modCsc g).pbe = s.pbe := rfl
@[simp] theorem State.modCsc_channels (g : Csc → Csc) : (s.modCsc g).channels = s.channels := rfl
@[simp] theorem State.modCsc_bands (g : Csc → Csc) : (s.modCsc g).bands = s.bands := rfl
@[simp] theorem State.modCsc_bim (g : Csc → Csc) : (s.modCsc g).bim = s.bim := rfl
@[simp] theorem State.modCsc_lvq (g : Csc → Csc) : (s.modCsc g).lvq = s.lvq := rfl
@[simp] theorem State.modCsc_apl (g : Csc → Csc) : (s.modCsc g).apl = s.apl := rfl
@[simp] theorem State.modCsc_csc (g : Csc → Csc) : (s.modCsc g).csc = g s.csc := rfl
@[simp] theorem State.modCsc_flash (g : Csc → Csc) : (s.modCsc g).flash = s.flash := rfl
@[simp] theorem State.modCsc_out (g : Csc → Csc) : (s.modCsc g).out = s.out := rfl
@[simp] theorem State.modCsc_pending (g : Csc → Csc) : (s.modCsc g).pending = s.pending := rfl

/-! ### `State.modFlash` -/

@[simp] theorem State.modFlash_power (g : Flash → Flash) : (s.modFlash g).power = s.power := rfl
@[simp] theorem State.modFlash_now (g : Flash → Flash) : (s.modFlash g).now = s.now := rfl
@[simp] theorem State.modFlash_epochAt (g : Flash → Flash) : (s.modFlash g).epochAt = s.epochAt := rfl
@[simp] theorem State.modFlash_blockAt (g : Flash → Flash) : (s.modFlash g).blockAt = s.blockAt := rfl
@[simp] theorem State.modFlash_loopOn (g : Flash → Flash) : (s.modFlash g).loopOn = s.loopOn := rfl
@[simp] theorem State.modFlash_pins (g : Flash → Flash) : (s.modFlash g).pins = s.pins := rfl
@[simp] theorem State.modFlash_clp (g : Flash → Flash) : (s.modFlash g).clp = s.clp := rfl
@[simp] theorem State.modFlash_lpc (g : Flash → Flash) : (s.modFlash g).lpc = s.lpc := rfl
@[simp] theorem State.modFlash_sau (g : Flash → Flash) : (s.modFlash g).sau = s.sau := rfl
@[simp] theorem State.modFlash_zmg (g : Flash → Flash) : (s.modFlash g).zmg = s.zmg := rfl
@[simp] theorem State.modFlash_pbe (g : Flash → Flash) : (s.modFlash g).pbe = s.pbe := rfl
@[simp] theorem State.modFlash_channels (g : Flash → Flash) : (s.modFlash g).channels = s.channels := rfl
@[simp] theorem State.modFlash_bands (g : Flash → Flash) : (s.modFlash g).bands = s.bands := rfl
@[simp] theorem State.modFlash_bim (g : Flash → Flash) : (s.modFlash g).bim = s.bim := rfl
@[simp] theorem State.modFlash_lvq (g : Flash → Flash) : (s.modFlash g).lvq = s.lvq := rfl
@[simp] theorem State.modFlash_apl (g : Flash → Flash) : (s.modFlash g).apl = s.apl := rfl
@[simp] theorem State.modFlash_csc (g : Flash → Flash) : (s.modFlash g).csc = s.csc := rfl
@[simp] theorem State.modFlash_flash (g : Flash → Flash) : (s.modFlash g).flash = g s.flash := rfl
@[simp] theorem State.modFlash_out (g : Flash → Flash) : (s.modFlash g).out = s.out := rfl
@[simp] theorem State.modFlash_pending (g : Flash → Flash) : (s.modFlash g).pending = s.pending := rfl

/-! ### `State.modMarks`: the marks alone -/

@[simp] theorem State.modMarks_power (g : Marks → Marks) : (s.modMarks g).power = s.power := rfl
@[simp] theorem State.modMarks_now (g : Marks → Marks) : (s.modMarks g).now = s.now := rfl
@[simp] theorem State.modMarks_epochAt (g : Marks → Marks) : (s.modMarks g).epochAt = s.epochAt := rfl
@[simp] theorem State.modMarks_blockAt (g : Marks → Marks) : (s.modMarks g).blockAt = s.blockAt := rfl
@[simp] theorem State.modMarks_loopOn (g : Marks → Marks) : (s.modMarks g).loopOn = s.loopOn := rfl
@[simp] theorem State.modMarks_pins (g : Marks → Marks) : (s.modMarks g).pins = s.pins := rfl
@[simp] theorem State.modMarks_lpc (g : Marks → Marks) : (s.modMarks g).lpc = s.lpc := rfl
@[simp] theorem State.modMarks_sau (g : Marks → Marks) : (s.modMarks g).sau = s.sau := rfl
@[simp] theorem State.modMarks_zmg (g : Marks → Marks) : (s.modMarks g).zmg = s.zmg := rfl
@[simp] theorem State.modMarks_pbe (g : Marks → Marks) : (s.modMarks g).pbe = s.pbe := rfl
@[simp] theorem State.modMarks_channels (g : Marks → Marks) : (s.modMarks g).channels = s.channels := rfl
@[simp] theorem State.modMarks_bands (g : Marks → Marks) : (s.modMarks g).bands = s.bands := rfl
@[simp] theorem State.modMarks_bim (g : Marks → Marks) : (s.modMarks g).bim = s.bim := rfl
@[simp] theorem State.modMarks_lvq (g : Marks → Marks) : (s.modMarks g).lvq = s.lvq := rfl
@[simp] theorem State.modMarks_apl (g : Marks → Marks) : (s.modMarks g).apl = s.apl := rfl
@[simp] theorem State.modMarks_csc (g : Marks → Marks) : (s.modMarks g).csc = s.csc := rfl
@[simp] theorem State.modMarks_flash (g : Marks → Marks) : (s.modMarks g).flash = s.flash := rfl
@[simp] theorem State.modMarks_out (g : Marks → Marks) : (s.modMarks g).out = s.out := rfl
@[simp] theorem State.modMarks_pending (g : Marks → Marks) : (s.modMarks g).pending = s.pending := rfl
@[simp] theorem State.modMarks_clp (g : Marks → Marks) :
    (s.modMarks g).clp = { s.clp with marks := g s.clp.marks } := rfl

end Sys2Proof.Machine
end

