-- ==== Sys2Proof/Laws/Ops.lean ====
section
/-! SUPPORT. The shared operations over the blocks: for each one lemma that says once everything it does. -/

namespace Sys2Proof.Machine

/-! ### Folding an operation over a list of numbers -/

@[simp] theorem State.each_nil (s : State) (f : State → Nat → State) : s.each [] f = s := rfl

@[simp] theorem State.each_cons (s : State) (f : State → Nat → State) (i : Nat) (l : List Nat) :
    s.each (i :: l) f = (f s i).each l f := rfl

/-- What one application keeps, all of them keep. -/
theorem State.each_keeps {P : State → Prop} {f : State → Nat → State} {l : List Nat} {s : State}
    (hf : ∀ t, ∀ i ∈ l, P t → P (f t i)) (hs : P s) : P (s.each l f) := by
  induction l generalizing s with
  | nil => exact hs
  | cons i l ih => exact ih (fun t j hj => hf t j (List.mem_cons_of_mem i hj)) (hf s i List.mem_cons_self hs)

/-- What one application leaves unchanged, all of them leave unchanged. -/
theorem State.each_frame {α : Type} (p : State → α) {f : State → Nat → State} {l : List Nat} {s : State}
    (hf : ∀ t, ∀ i ∈ l, p (f t i) = p t) : p (s.each l f) = p s :=
  State.each_keeps (P := fun t => p t = p s) (fun t i hi h => (hf t i hi).trans h) rfl

theorem State.each_append (s : State) (f : State → Nat → State) (l m : List Nat) :
    s.each (l ++ m) f = (s.each l f).each m f := List.foldl_append ..

/-! ### Marks -/

@[simp] theorem State.markIf_true (s : State) (f : State → State) : s.markIf true f = f s := rfl

@[simp] theorem State.markIf_false (s : State) (f : State → State) : s.markIf false f = s := rfl

/-- What setting a mark leaves unchanged, setting it under a condition leaves unchanged. -/
theorem State.markIf_frame {α : Type} (p : State → α) {s : State} {b : Bool} {f : State → State} (hf : p (f s) = p s) :
    p (s.markIf b f) = p s := by
  cases b
  · rfl
  · exact hf

/-- The mark of a unit: of a position above N nothing, else its own bit alone. -/
theorem State.markRu_eq (s : State) (i : Nat) :
    s.markRu i = s.modMarks fun m => { m with ru := if i < s.n then m.ru ||| ZoneSet.one i else m.ru } := by
  unfold State.markRu; split <;> rfl

/-- The power-status mark: of a position above N nothing, else its own bit alone. -/
theorem State.markPower_eq (s : State) (i : Nat) :
    s.markPower i = s.modMarks fun m => { m with power := if i < s.n then m.power ||| ZoneSet.one i else m.power } := by
  unfold State.markPower; split <;> rfl

/-! ### Replies (R175, R176) -/

/-- A request that waits is answered: its slot's phase and the reply queue's end, nothing else. -/
theorem Clp.answer_of_waiting {c : Clp} {tag : Octet} {x : Slot} (st : Status) (fields : List Octet)
    (h : c.slots.find? (Slot.waits tag) = some x) :
    c.answer tag st fields =
      { c with
        slots := c.slots.map fun y => if y.waits tag then { y with phase := .queued } else y
        replies := c.replies ++ [⟨x.kind + 0x80#8, tag, replyBody st fields, false⟩] } := by
  simp only [Clp.answer, h]

/-- A request that does not wait takes no reply. -/
theorem Clp.answer_of_not_waiting {c : Clp} {tag : Octet} (st : Status) (fields : List Octet)
    (h : c.slots.find? (Slot.waits tag) = none) : c.answer tag st fields = c := by
  simp only [Clp.answer, h]

/-- A reply changes the slots and the reply queue of the port and nothing else. -/
theorem Clp.answer_eq (c : Clp) (tag : Octet) (st : Status) (fields : List Octet) :
    c.answer tag st fields =
      { c with slots := (c.answer tag st fields).slots, replies := (c.answer tag st fields).replies } := by
  cases h : c.slots.find? (Slot.waits tag) with
  | none => rw [Clp.answer_of_not_waiting st fields h]
  | some x => rw [Clp.answer_of_waiting st fields h]

theorem State.answer_eq (s : State) (tag : Octet) (st : Status) (fields : List Octet) :
    s.answer tag st fields =
      { s with
        clp := { s.clp with
          slots := (s.clp.answer tag st fields).slots, replies := (s.clp.answer tag st fields).replies } } :=
  congrArg (fun c => { s with clp := c }) (Clp.answer_eq s.clp tag st fields)

/-- The tags of the slots stand through a reply. -/
@[simp] theorem Clp.answer_tags (c : Clp) (tag : Octet) (st : Status) (fields : List Octet) :
    (c.answer tag st fields).slots.map (·.tag) = c.slots.map (·.tag) := by
  unfold Clp.answer
  split
  · rfl
  · rw [List.map_map]
    refine List.map_congr_left fun y _ => ?_
    simp only [Function.comp]
    split <;> rfl

/-! ### The Power Budget Engine (R73, R76) -/

/-- A new record changes the record of its position and, where the status changes, the power mark; nothing else. -/
theorem State.holdRecord_eq (s : State) (i : Nat) (r : AllocRecord) :
    s.holdRecord i r =
      { s with
        pbe := { s.pbe with allocs := s.pbe.allocs.set i r }
        clp := { s.clp with
          marks := { s.clp.marks with
            power := if (s.allocOf i).status ≠ r.status ∧ i < s.n then s.clp.marks.power ||| ZoneSet.one i
              else s.clp.marks.power } } } := by
  unfold State.holdRecord
  by_cases h : (s.allocOf i).status = r.status
  · simp [h, State.modPbe]
  · have hb : ((s.allocOf i).status != r.status) = true := by simp [h]
    simp only [hb, State.markIf_true, State.markPower_eq]
    by_cases hi : i < s.lpc.rus.length <;> simp [h, hi, State.modPbe, State.modMarks, State.modClp, State.n]

/-- A recomputation holds the record of the inputs as they stand. -/
theorem State.recompute_eq (s : State) (i : Nat) :
    s.recompute i =
      { s with
        pbe := { s.pbe with allocs := s.pbe.allocs.set i (s.computeRecord i) }
        clp := { s.clp with
          marks := { s.clp.marks with
            power := if (s.allocOf i).status ≠ (s.computeRecord i).status ∧ i < s.n then s.clp.marks.power ||| ZoneSet.one i
              else s.clp.marks.power } } } :=
  s.holdRecord_eq i _

/-- The inputs of a record other than the rescue carriers: two states that agree in them compute one record from one relay. -/
theorem State.computeRecordFrom_congr {s t : State} (relay : State) (i : Nat) (hl : s.lpc = t.lpc) (hz : s.zmg.zones = t.zmg.zones)
    (hp : s.pbe = t.pbe) (hb : s.bands = t.bands) : s.computeRecordFrom relay i = t.computeRecordFrom relay i := by
  obtain ⟨_, _, _, _, _, _, _, _, _, ⟨_, _, _, _, _, _, _, _, _, _⟩, _, _, _, _, _, _, _, _, _, _⟩ := s
  obtain ⟨_, _, _, _, _, _, _, _, _, ⟨_, _, _, _, _, _, _, _, _, _⟩, _, _, _, _, _, _, _, _, _, _⟩ := t
  subst hl hz hp hb
  rfl

/-- The record of the inputs as they stand is the one from the relay as it stands. -/
theorem State.computeRecord_eq (s : State) (i : Nat) : s.computeRecord i = s.computeRecordFrom s i := rfl

/-- What the record of a position is computed from: two states that agree in it compute one record. -/
theorem State.computeRecord_congr {s t : State} (i : Nat) (hl : s.lpc = t.lpc) (hz : s.zmg.zones = t.zmg.zones)
    (hp : s.pbe = t.pbe) (hc : s.channels = t.channels) (hb : s.bands = t.bands) : s.computeRecord i = t.computeRecord i := by
  obtain ⟨_, _, _, _, _, _, _, _, _, ⟨_, _, _, _, _, _, _, _, _, _⟩, _, _, _, _, _, _, _, _, _, _⟩ := s
  obtain ⟨_, _, _, _, _, _, _, _, _, ⟨_, _, _, _, _, _, _, _, _, _⟩, _, _, _, _, _, _, _, _, _, _⟩ := t
  subst hl hz hp hc hb
  rfl

/-! ### Work on a band, a player, an RU entry -/

/-- Work on a band changes that band and, where a gate state changed, its mark; nothing else. -/
theorem State.workBand_eq (s : State) (b : Nat) (f : BandWork → BandWork) :
    s.workBand b f =
      { s with
        bands := s.bands.set b (f ⟨s.band b, false⟩).band
        clp := { s.clp with
          marks := { s.clp.marks with
            band := if (f ⟨s.band b, false⟩).changed then s.clp.marks.band ||| BitVec.twoPow 4 b
              else s.clp.marks.band } } } := by
  unfold State.workBand
  cases h : (f ⟨s.band b, false⟩).changed <;> simp only [h, State.markIf_true, State.markIf_false] <;> rfl

/-- A band frame that takes the record's threshold into use changes the threshold in use alone (R115). -/
@[simp] theorem Band.takeThreshold_inUse (b : Band) : b.takeThreshold.inUse = b.cfg.threshold := rfl
@[simp] theorem Band.takeThreshold_cfg (b : Band) : b.takeThreshold.cfg = b.cfg := rfl
@[simp] theorem Band.takeThreshold_feed (b : Band) : b.takeThreshold.feed = b.feed := rfl
@[simp] theorem Band.takeThreshold_gates (b : Band) : b.takeThreshold.gates = b.gates := rfl
@[simp] theorem Band.takeThreshold_displacements (b : Band) : b.takeThreshold.displacements = b.displacements := rfl

/-- Work on a player changes that player and, where its notice changed, its mark; nothing else. -/
theorem State.workPlayer_eq (s : State) (p : Nat) (f : Player → Player) :
    s.workPlayer p f =
      { s with
        apl := { s.apl with players := s.apl.players.set p (f (s.player p)) }
        clp := { s.clp with
          marks := { s.clp.marks with
            player := if (s.player p).noticeChange (f (s.player p)) then s.clp.marks.player ||| BitVec.twoPow 4 p
              else s.clp.marks.player } } } := by
  unfold State.workPlayer
  cases h : (s.player p).noticeChange (f (s.player p)) <;> simp only [h, State.markIf_true, State.markIf_false] <;> rfl

/-- A change of an RU entry changes the RU table at its place alone. -/
@[simp] theorem State.modRu_eq (s : State) (i : Nat) (f : RuEntry → RuEntry) :
    s.modRu i f = { s with lpc := { s.lpc with rus := s.lpc.rus.modify i f } } := rfl

/-- N is the length of the RU table, which a change of an entry keeps. -/
theorem State.modRu_n (s : State) (i : Nat) (f : RuEntry → RuEntry) : (s.modRu i f).n = s.n := by
  simp [State.n]

/-- A source that joins the activation list changes that list alone. -/
@[simp] theorem State.activate_eq (s : State) (src : Source) :
    s.activate src = { s with bim := { s.bim with activation := s.bim.activation ++ [src] } } := rfl

/-! ### Zone sets (R1) -/

/-- The members of the set of the indices below `k` that satisfy `p`. -/
theorem ZoneSet.below_mem (p : Nat → Bool) (k i : Nat) (hk : k ≤ 24) :
    (ZoneSet.below p k).mem i = (decide (i < k) && p i) := by
  induction k with
  | zero => simp [ZoneSet.below, ZoneSet.mem]
  | succ k ih =>
    have ih := ih (by omega)
    simp only [ZoneSet.mem] at ih
    simp only [ZoneSet.below, ZoneSet.mem]
    by_cases hp : p k = true
    · rw [if_pos hp, BitVec.getLsbD_or, ih, ZoneSet.one, BitVec.getLsbD_twoPow]
      by_cases hik : i = k
      · subst hik
        have h24 : i < 24 := by omega
        simp [hp, h24]
      · have : decide (i < k + 1) = decide (i < k) := by
          rw [decide_eq_decide]; omega
        have hki : ¬ k = i := fun h => hik h.symm
        rw [this]; simp [hki]
    · rw [if_neg hp, ih]
      by_cases hik : i = k
      · subst hik
        simp at hp
        simp [hp]
      · have : decide (i < k + 1) = decide (i < k) := by
          rw [decide_eq_decide]; omega
        rw [this]

end Sys2Proof.Machine
end

