-- ==== Sys2Proof/Laws/Link.lean ====
section
/-! SUPPORT. The control link: what a request that is accepted leaves behind, and what the two arbiters take (R164, R175, R177);
the two ways in which an operation of an upload ends (R168). -/

namespace Sys2Proof.Machine

/-! ### The flash port arbiter -/

/-- The flash port arbiter changes the port, the verify in hand and its cursor, and nothing else (R164). -/
theorem State.arbitrate_eq (s : State) :
    s.arbitrate =
      { s with
        csc := { s.csc with port := s.arbitrate.csc.port, verify := s.arbitrate.csc.verify, cursor := s.arbitrate.csc.cursor } } := by
  have take : ∀ c : Csc, c.takeVerify = { c with verify := c.takeVerify.verify, cursor := c.takeVerify.cursor } := by
    intro c
    unfold Csc.takeVerify
    split
    · rfl
    · split <;> rfl
  unfold State.arbitrate
  split
  · split
    · rfl
    · split
      · rfl
      · simp only [State.modCsc]
        generalize h : s.csc.takeVerify = c
        have hc := take s.csc
        rw [h] at hc
        cases hv : c.verify with
        | none => simp only; rw [hc]
        | some v => simp only [State.startOp, State.modCsc]; rw [hc]
  · rfl

/-- The arbiter does nothing before RUNNING, nor while the port is taken. -/
theorem State.arbitrate_of_busy {s : State} (h : s.clp.part = .starting ∨ s.csc.port ≠ none) : s.arbitrate = s := by
  unfold State.arbitrate
  rw [if_neg]
  rintro ⟨h1, h2⟩
  rcases h with h | h
  · rw [h1] at h; cases h
  · exact h h2

/-- The arbiter reads of the control link only the part state. -/
theorem State.arbitrate_setClp (s : State) (c : Clp) (h : c.part = s.clp.part) :
    ({ s with clp := c } : State).arbitrate = { s.arbitrate with clp := c } := by
  have hp : ({ s with clp := c } : State).playerRead = s.playerRead := rfl
  have hw : ({ s with clp := c } : State).writeWork = s.writeWork := rfl
  unfold State.arbitrate
  rw [hp, hw]
  by_cases hr : s.clp.part = .running ∧ s.csc.port = none
  · rw [if_pos hr, if_pos (show c.part = .running ∧ s.csc.port = none from ⟨h.trans hr.1, hr.2⟩)]
    cases s.playerRead with
    | some x => rfl
    | none =>
      cases s.writeWork with
      | some x => rfl
      | none =>
        simp only [State.modCsc]
        cases s.csc.takeVerify.verify <;> rfl
  · rw [if_neg hr, if_neg (show ¬ (c.part = .running ∧ s.csc.port = none) from fun h' => hr ⟨h.symm.trans h'.1, h'.2⟩)]

/-! ### The transmit arbiter -/

/-- A frame that begins to be sent takes the line with its octets; nothing else changes. -/
@[simp] theorem Clp.send_eq (c : Clp) (x : Outgoing) : c.send x = { c with sending := some x, line := x.octets } := rfl

/-- A line that is free again holds no frame; nothing else changes. -/
@[simp] theorem Clp.lineFree_eq (c : Clp) : c.lineFree = { c with sending := none, line := [] } := rfl

/-- The octets of a reply (R173, R183). -/
@[simp] theorem Outgoing.octets_reply (r : Reply) : (Outgoing.reply r).octets = frameOctets r.kind r.tag r.body := rfl

/-- The octets of a notice (R173, R178): its tag is 0. -/
@[simp] theorem Outgoing.octets_notice (kind : Octet) (body : List Octet) :
    (Outgoing.notice kind body).octets = frameOctets kind 0#8 body := rfl

/-- A busy line is left alone (R177). -/
theorem State.pump_of_busy {s : State} (h : s.clp.sending ≠ none) : s.pump = s := by
  unfold State.pump
  cases hs : s.clp.sending with
  | none => exact absurd hs h
  | some _ => rfl

/-- With a reply waiting the transmit arbiter takes the oldest if the line is idle, and nothing otherwise. -/
theorem State.pump_of_replies {s : State} (h : s.clp.replies ≠ []) : s.pump = { s with clp := s.clp.lineTakes } := by
  unfold State.pump Clp.lineTakes
  cases hs : s.clp.sending with
  | some _ => rfl
  | none =>
    cases hr : s.clp.replies with
    | nil => exact absurd hr h
    | cons r rest => rfl

/-- What the transmit arbiter changes: the reply queue with its slots, the line and the marks. -/
theorem State.pump_eq (s : State) :
    s.pump =
      { s with
        clp := { s.clp with
          slots := s.pump.clp.slots, replies := s.pump.clp.replies, sending := s.pump.clp.sending, line := s.pump.clp.line
          marks := s.pump.clp.marks } } := by
  unfold State.pump
  cases s.clp.sending with
  | some _ => rfl
  | none =>
    cases s.clp.replies with
    | cons r rest => rfl
    | nil =>
      simp only
      split
      · cases s.nextNotice <;> rfl
      · rfl

/-! ### Requests that are accepted (R175) and answered (R176) -/

/-- A request with a slot to take and a body that fits passes every check, unless the part is STARTING and the kind waits for
RUNNING. -/
theorem State.refusal_none {s : State} {kind tag : Octet} (h : s.hasSlotFor tag)
    (hk : s.clp.part = .running ∨ kind = 0x01#8 ∨ kind = 0x02#8) : s.refusal true kind tag = none := by
  obtain ⟨-, ht, hu, hl⟩ := h
  have hany : (s.clp.slots.any fun x => x.tag == tag) = false := by
    rw [List.any_eq_false]
    intro x hx
    simpa using hu x hx
  have h3 : ¬ (s.clp.part = .starting ∧ kind ≠ 0x01#8 ∧ kind ≠ 0x02#8) := by
    rintro ⟨h1, h2, h3⟩
    rcases hk with h | h | h
    · rw [h1] at h; cases h
    · exact h2 h
    · exact h3 h
  have h4 : ¬ 4 ≤ s.clp.slots.length := by omega
  simp only [State.refusal, if_neg ht, Bool.not_true, Bool.false_eq_true, if_false, if_neg h3, hany, if_neg h4]

/-- A port that has just taken a request and is handed its reply: the slot at the end is queued, the reply stands behind the
others. -/
theorem Clp.answer_withSlot {c : Clp} {kind tag : Octet} (st : Status) (fields : List Octet) (h : ∀ x ∈ c.slots, x.tag ≠ tag) :
    ({ c with receiver := .hunting, slots := c.slots ++ [⟨kind, tag, .waiting⟩] } : Clp).answer tag st fields =
      c.withReply kind tag st fields := by
  have hw : ∀ x ∈ c.slots, Slot.waits tag x = false := fun x hx => by simp [Slot.waits, h x hx]
  have hf : (c.slots ++ [(⟨kind, tag, .waiting⟩ : Slot)]).find? (Slot.waits tag) = some ⟨kind, tag, .waiting⟩ := by
    rw [List.find?_append, List.find?_eq_none.2 fun x hx => by simp [hw x hx]]
    simp [Slot.waits]
  have hm : ((c.slots ++ [(⟨kind, tag, .waiting⟩ : Slot)]).map
      fun y => if y.waits tag then { y with phase := .queued } else y) = c.slots ++ [⟨kind, tag, .queued⟩] := by
    rw [List.map_append]
    congr 1
    · conv_rhs => rw [← List.map_id c.slots]
      refine List.map_congr_left fun y hy => ?_
      rw [if_neg (by simp [hw y hy])]
      rfl
    · simp [Slot.waits]
  rw [Clp.answer_of_waiting (x := ⟨kind, tag, .waiting⟩) st fields hf, hm]
  rfl

/-- What the two arbiters make of a state whose port holds a finished reply. -/
theorem State.settle_withReply (u : State) (kind tag : Octet) (st : Status) (fields : List Octet) :
    ({ u with clp := u.clp.withReply kind tag st fields } : State).settle = u.replied kind tag st fields := by
  unfold State.settle State.replied
  have hp : (u.clp.withReply kind tag st fields).part = u.clp.part := rfl
  rw [State.arbitrate_setClp u _ hp, State.pump_of_replies]
  simp [Clp.withReply]

/-- A request that is accepted and whose handling from `t`, the state that has taken its slot, ends with an answer: the command
answers with the state `replied`. `u` is what the handling makes of the state without the slot. -/
theorem State.request_replied {s u : State} {kind tag : Octet} {handle : State → State} {st : Status} {fields : List Octet}
    (h : s.hasSlotFor tag) (hk : s.clp.part = .running ∨ kind = 0x01#8 ∨ kind = 0x02#8)
    (hu : handle (s.hunt.takeSlot kind tag) =
      ({ u with clp := { u.clp with receiver := .hunting, slots := u.clp.slots ++ [⟨kind, tag, .waiting⟩] } } : State).answer
        tag st fields)
    (hs : ∀ x ∈ u.clp.slots, x.tag ≠ tag) :
    (s.hunt.request kind tag true handle).settle = u.replied kind tag st fields := by
  have hr : s.hunt.refusal true kind tag = none := State.refusal_none (s := s.hunt) h hk
  unfold State.request
  rw [hr]
  simp only
  rw [hu, ← State.settle_withReply]
  unfold State.answer State.modClp
  simp only
  rw [Clp.answer_withSlot st fields hs]

/-! ### An operation of the upload that has ended (R168) -/

/-- The upload whose UPLOAD_END has failed ends with the operation that ran. -/
theorem State.uploadOpDone_failed {s : State} {u : Upload} {st : Status} {t : Octet} (work : State → State)
    (h : s.csc.upload = some u) (hf : u.failed = some st) (ht : u.endTag = some t) :
    s.uploadOpDone work = s.closeUpload u t st := by
  simp only [State.uploadOpDone, h, hf, ht]

/-- Any other upload goes on with its work. -/
theorem State.uploadOpDone_work {s : State} {u : Upload} (work : State → State) (h : s.csc.upload = some u)
    (hf : u.failed = none) : s.uploadOpDone work = work s := by
  simp only [State.uploadOpDone, h, hf]

end Sys2Proof.Machine
end

