-- ==== Sys2Proof/Tests/Slice0.lean ====
section
/-! SUPPORT. The model's own tests: well-formed commands, the manual's worked figures, and for every statement with hypotheses a state and
operands that meet them, clause by clause and at the ends of their ranges. Expected values come from the manual's text and tables. -/

open Sys2Proof Sys2Proof.Machine

namespace Sys2Proof.Tests

/-! ### Well-formed commands: each check refuses an ill-formed term -/

/-- An answer with eight quality values and four activities. -/
def answer : Answer := ⟨List.replicate 8 50#8, 0#8, [0, 5, 12, 60], .normal, 50, 2050, 0#8⟩

theorem test_wf_answer : answer.wf = true := by decide
theorem test_ill_quality : ({ answer with quality := List.replicate 7 0#8 } : Answer).wf = false := by decide
theorem test_ill_activity_count : ({ answer with activity := [0, 0, 0] } : Answer).wf = false := by decide
theorem test_ill_activity_value : ({ answer with activity := [0, 0, 0, 61] } : Answer).wf = false := by decide
theorem test_ill_answers : answersWf (List.replicate 25 none) = false := by decide
theorem test_ill_frame_a : (Instr.loopFrameClose ⟨List.replicate 25 none, [], false, false⟩).wf = false := by decide
theorem test_ill_frame_b : (Instr.loopFrameClose ⟨[], [some { answer with activity := [] }], false, false⟩).wf = false := by decide
theorem test_ill_overlength : (Instr.overlengthFrame 600#16).wf = false := by decide
theorem test_ill_crc_short : (Instr.crcErrorFrame [0#8, 0#8, 1#8, 1#8, 0#8]).wf = false := by decide
set_option maxRecDepth 10000 in
theorem test_ill_crc_long : (Instr.crcErrorFrame (List.replicate 607 0#8)).wf = false := by decide
theorem test_ill_unknown_kind : (Instr.unknownKindFrame 0x10#8 1#8 []).wf = false := by decide
set_option maxRecDepth 10000 in
theorem test_ill_unknown_body : (Instr.unknownKindFrame 0x77#8 1#8 (List.replicate 601 0#8)).wf = false := by decide
set_option maxRecDepth 10000 in
theorem test_ill_request_body :
    ([Instr.identify, .status, .restart, .saveSettings, .setLoop, .getRu, .setZone, .setSplit, .getZone, .declareIncident,
      .clearIncident, .setEvacuationPlan, .setRuPower, .setPlan, .getBudget, .setChannel, .getChannel, .setBand, .getBand,
      .liveStart, .liveEnd, .voiceBlock, .setItems, .play, .stop, .getPlayer, .uploadBegin, .clipData, .uploadEnd,
      .uploadAbort, .eraseSlot, .getDirectory, .setProtection].all
      fun c => !(c 1#8 (List.replicate 601 0#8)).wf && (c 1#8 []).wf) = true := by decide

/-! ### Figures of the manual -/

set_option maxRecDepth 10000 in
/-- R173: the CRC-16 of the nine octets "123456789" is 0x29B1. -/
theorem test_crc16 : crc16 [0x31, 0x32, 0x33, 0x34, 0x35, 0x36, 0x37, 0x38, 0x39] = 0x29B1#16 := by decide

/-- R42: the split of a part at its defaults, 25, puts position 24 in region A. -/
theorem test_region : State.reset.inRegionA 23 = true := by decide

/-- R8: 32 present answers turn a silent position ANSWERING, 31 do not. -/
theorem test_answering : (⟨false, 31, false, none, none⟩ : EndView).hear true = ⟨true, 0, false, none, none⟩ := by decide
theorem test_not_answering : (⟨false, 30, false, none, none⟩ : EndView).hear true = ⟨false, 31, false, none, none⟩ := by decide
theorem test_silent : (⟨true, 7, false, none, none⟩ : EndView).hear false = ⟨false, 0, false, none, none⟩ := by decide

/-- R17, R18: an odd round trip is rounded up, and a move of 2 DU is kept back. -/
theorem test_estimate : estimate ⟨2453, 50⟩ = 1202 := by decide
theorem test_estimate_floor : estimate ⟨10, 50⟩ = 0 := by decide
theorem test_deadband : adopt (some 1200) 1202 = some 1200 := by decide
theorem test_beyond_deadband : adopt (some 1200) 1203 = some 1203 := by decide

/-- R29: T_target is the longest delay plus the guard. R30: a slew moves by 25 DU. -/
theorem test_target : targetOf [1200, 2600, 2400, 1000] 50 = 2650 := by decide
theorem test_target_span : targetOf [0, 20000] 50 = 16383 := by decide
theorem test_slew_up : slew 1000 1026 = 1025 := by decide
theorem test_slew_down : slew 1000 900 = 975 := by decide

/-- R61: the derated limits of 1000 units. -/
theorem test_derating : [Thermal.normal, .warm, .hot, .shutdown].map (deratedLimit 1000) = [1000, 500, 250, 0] := by decide

/-- Chapter 04, the worked cases: six programmes, two rescue carriers, bands 1 and 2. -/
def workedCarriers (rescue broadcast band : Nat) : List Carrier :=
  (List.range 6).map (fun p => ⟨.broadcast, p + 1, broadcast, 100, 0⟩) ++
    [⟨.rescue, 1, rescue, 200, 0⟩, ⟨.rescue, 2, rescue, 200, 0⟩, ⟨.mobile, 1, band, 500, 0⟩, ⟨.mobile, 2, band, 300, 0⟩]

theorem test_reduced :
    let a := allocate (deratedLimit 2000 .warm) 0 PlanBank.default0 (workedCarriers 1 2 3)
    (a.status, a.sigma, a.tau, a.carriers.map (·.alloc)) =
      (.reduced, [256, 213, 32, 256], 256, [83, 83, 83, 83, 83, 83, 200, 200, 62, 37]) := by decide
theorem test_overload :
    let a := allocate (deratedLimit 2000 .hot) 0 PlanBank.default0 (workedCarriers 1 2 3)
    (a.status, a.sigma, a.tau, totalAlloc a.carriers) = (.overload, [256, 128, 32, 256], 160, 497) := by decide
theorem test_emergency_bank :
    let a := allocate (deratedLimit 2000 .warm) 1 PlanBank.default1 (workedCarriers 1 1 2)
    (a.tau, a.carriers.map (·.alloc)) = (182, [71, 71, 71, 71, 71, 71, 142, 142, 177, 106]) := by decide

/-- R107: equal candidates go to the lowest position, and a challenger needs the hysteresis. -/
theorem test_voter_tie : selectSource [⟨2, 50⟩, ⟨4, 50⟩] 8 none = some 2 := by decide
theorem test_voter_keeps : selectSource [⟨2, 50⟩, ⟨4, 57⟩] 8 (some 2) = some 2 := by decide
theorem test_voter_moves : selectSource [⟨2, 50⟩, ⟨4, 58⟩] 8 (some 2) = some 4 := by decide

/-- R133: the priority must exceed the threshold; LIVE wins a tie; among players the earlier wins. -/
theorem test_winner_threshold : winnerOf [⟨.live, true, 9, 1#24, .silence⟩] 0 9 = none := by decide
theorem test_winner_live :
    winnerOf [⟨.player 0, true, 9, 1#24, .silence⟩, ⟨.live, true, 9, 1#24, .silence⟩] 0 8 = some .live := by decide
theorem test_winner_first :
    winnerOf [⟨.player 3, true, 9, 1#24, .silence⟩, ⟨.player 0, true, 9, 1#24, .silence⟩] 0 8 = some (.player 3) := by decide

/-- R131, R138, R149: priority 15 outside an emergency becomes 14. -/
theorem test_priority : [livePriority 15 false, livePriority 15 true, livePriority 0 false, playPriority 15] = [14, 15, 1, 14] := by
  decide

/-- R163: the protected counts of the eight levels. -/
theorem test_protected : (List.range 8).map protectedCount = [0, 1, 2, 4, 8, 16, 32, 63] := by decide

/-- R159: a program turns ones to zeros and never back. -/
theorem test_program : cellAt (programCells (programCells [] 7 [0x0F#8]) 7 [0xF5#8]) 7 = 0x05#8 := by decide

/-- R174: an octet in hunting is lost, the sync octet is not. -/
theorem test_sync : (State.reset.octetArrives 0xC3#8).clp.receiver = .inFrame [] := by decide
theorem test_no_sync : (State.reset.octetArrives 0x55#8).clp.receiver = .hunting := by decide

/-! ### States for the witnesses -/

/-- A part that is RUNNING with a chain of two ABSENT units, everything else at its default, the flash port free. -/
def part : State :=
  State.configure
    { State.reset with
      loopOn := true, clp := { State.reset.clp with part := .running }, csc := { State.reset.csc with port := none } }
    { Settings.default with
      configured := [0#32, 0#32], preferred := [.a, .b], thresholds := [0, 0], split := 3
      power := List.replicate 2 PowerCfg.default }

/-- An ACTIVE unit served from end A, which prefers `e`. -/
def unit (e : ChainEnd) : RuEntry :=
  { RuEntry.initial 0#32 e with
    state := .active, serving := some .a, hold := some 0
    onA := ⟨true, 0, true, some 1000, some ⟨2050, 50⟩⟩, onB := ⟨true, 0, true, some 1010, none⟩ }

/-- A JOINING unit that lacks one part of its identity. -/
def joining : RuEntry :=
  { RuEntry.initial 0#32 .a with
    state := .joining, onA := ⟨true, 0, true, none, none⟩, onB := ⟨false, 31, false, none, none⟩, parts := [1#8, 2#8, 3#8] }

/-- The part with both units ACTIVE. -/
def active : State := (({ part with lpc := ⟨[unit .a, unit .b], 2, 2⟩ } : State).recompute 0).recompute 1

/-- The part with zone 1 in EMERGENCY by a declaration with spread 0. -/
def emergency : State :=
  { part with
    zmg := { part.zmg with
      zones := [⟨0, .emergency⟩, ⟨0, .normal⟩], incident := 1#24, plan := ⟨none, none, 0⟩ } }

/-- The part with its Control Link Port changed. -/
def withClp (f : Clp → Clp) : State := part.modClp f

/-- The part with its clip store changed. -/
def withCsc (f : Csc → Csc) : State := part.modCsc f

/-- The part with an operation on the flash port. -/
def withPort (op : FlashOp) (owner : FlashOwner) : State := withCsc fun c => { c with port := some ⟨op, owner, 0⟩ }

/-- The active part with channel 1 changed from its default. -/
def withChannel (f : Channel → Channel) : State := active.modChannels fun l => l.modify 0 f

/-- The part with player 1 (the second) changed from rest. -/
def withPlayer (f : Player → Player) : State := part.modApl fun a => { a with players := a.players.modify 1 f }

/-- The part with its live session changed. -/
def withLive (f : Lvq → Lvq) : State := part.modLvq f

/-- A state at an audio block boundary that is due. -/
def atBlock (s : State) : State := { s with now := 80 }

/-- A body of `n` octets of zero. -/
def zeros (n : Nat) : List Octet := List.replicate n 0#8

/-- A SET_LOOP body of two positions at the part's own configuration. -/
def loopBody (n : Octet) : List Octet := [n, 0#8, 50#8] ++ [0, 0, 0, 0, 0, 0, 0, 0, 0, 1] ++ zeros 110

/-- An upload of 3 blocks to slot 62, all received and none in the buffer. -/
def upload : Upload := ⟨62, 3, zeros 16, .receiving, 3, 0#32, [], 4, true, none, [], none, none⟩

/-- The part with an upload. -/
def withUpload (f : Upload → Upload) : State := withCsc fun c => { c with upload := some (f upload), order := [.upload] }

/-! ### Witnesses. The supply, the link -/

/-- Of `EveryCommandAnswersAndKeepsTheQueue`. -/
theorem witness_queue : part.pending = [] := by decide

/-- Of `SupplyAndResetStartThePartAfresh`. -/
theorem witness_supply_on : part.power = .on := by decide

/-- Of `SupplyAndResetStartThePartAfresh`. -/
theorem witness_supply_held : part.holdReset.power = .held := by decide

/-- Of `SupplyAndResetStartThePartAfresh`. -/
theorem witness_supply_off : part.powerDown.power ≠ .on := by decide

/-- Of `ReceiverCollectsAndRecordsErrors`. -/
theorem witness_hunting : part.power = .on ∧ part.clp.receiver = .hunting := by decide

/-- Of `ReceiverCollectsAndRecordsErrors`. -/
theorem witness_first_octet :
    let s := withClp fun c => { c with receiver := .inFrame [] }
    s.power = .on ∧ s.clp.receiver = .inFrame [] ∧ (([] : List Octet) = [] ∨ (u16 [0#8] 0 ≤ 600 ∧ 0 + 1 < u16 [0#8] 0 + 6)) :=
  by decide

set_option maxRecDepth 10000 in
/-- Of `ReceiverCollectsAndRecordsErrors`. -/
theorem witness_longest_frame :
    let s := withClp fun c => { c with receiver := .inFrame [0x02#8] }
    s.power = .on ∧ s.clp.receiver = .inFrame [0x02#8] ∧
      (([0x02#8] : List Octet) = [] ∨ (u16 ([0x02#8] ++ [0x58#8]) 0 ≤ 600 ∧ 1 + 1 < u16 ([0x02#8] ++ [0x58#8]) 0 + 6)) :=
  by decide

set_option maxRecDepth 10000 in
/-- Of `ReceiverCollectsAndRecordsErrors`. -/
theorem witness_too_long :
    let s := withClp fun c => { c with receiver := .inFrame [0x02#8] }
    s.power = .on ∧ s.clp.receiver = .inFrame [0x02#8] ∧ 600 < u16 [0x02#8, 0x59#8] 0 := by decide

set_option maxRecDepth 10000 in
/-- Of `ReceiverCollectsAndRecordsErrors`. -/
theorem witness_bad_crc :
    let os : List Octet := [0#8, 0#8, 1#8, 1#8, 0#8]
    let s := withClp fun c => { c with receiver := .inFrame os }
    s.power = .on ∧ s.clp.receiver = .inFrame os ∧ 2 ≤ os.length ∧ u16 os 0 ≤ 600 ∧ os.length + 1 = u16 os 0 + 6 ∧
      crc16 (os.take (u16 os 0 + 4)) ≠ octetAt (os ++ [0#8]) (u16 os 0 + 4) ++ octetAt (os ++ [0#8]) (u16 os 0 + 5) := by decide

/-- Of `ReceiverCollectsAndRecordsErrors`. -/
theorem witness_octet_timeout :
    let s := withClp fun c => { c with receiver := .inFrame [] }
    s.power = .on ∧ s.clp.receiver ≠ .hunting := by decide

/-- Of `ReceiverCollectsAndRecordsErrors`. -/
theorem witness_overlength : part.power = .on ∧ 600 < (601#16 : BitVec 16).toNat := by decide

set_option maxRecDepth 10000 in
/-- Of `ReceiverCollectsAndRecordsErrors`. -/
theorem witness_crc_frame :
    let os : List Octet := zeros 6
    part.power = .on ∧ u16 os 0 ≤ 600 ∧ os.length = u16 os 0 + 6 ∧
      crc16 (os.take (u16 os 0 + 4)) ≠ octetAt os (u16 os 0 + 4) ++ octetAt os (u16 os 0 + 5) := by decide

set_option maxRecDepth 10000 in
/-- Of `OctetsOfAFrameActAsItsCommand`. -/
theorem witness_octets :
    part.power = .on ∧ part.clp.receiver = .hunting ∧ part.settle = part ∧ (zeros 600).length ≤ 600 :=
  ⟨rfl, rfl, rfl, by decide⟩

/-- Of `DeliveredFramesAreChecked`. -/
theorem witness_unknown_kind : part.power = .on ∧ knownKinds.contains 0x05#8 = false := by decide

/-- Of `DeliveredFramesAreChecked`. -/
theorem witness_length :
    let b : List Octet := [0, 2] ++ zeros 11
    0x46#8 ∈ requestKinds ∧ 0x38#8 ∈ requestKinds ∧ part.power = .on ∧
      ((1#8 : Octet) = 0#8 ∨ ¬ BodyFits 0x46#8 []) ∧
      ((1#8 : Octet) = 0#8 ∨ ¬ BodyFits 0x38#8 b) := by decide

/-- Of `DeliveredFramesAreChecked`. -/
theorem witness_not_ready :
    let s := withClp fun c => { c with part := .starting }
    0x04#8 ∈ requestKinds ∧ s.power = .on ∧ (1#8 : Octet) ≠ 0#8 ∧ BodyFits 0x04#8 [] ∧
      s.clp.part = .starting ∧ (0x04#8 : Octet) ≠ 0x01#8 ∧ (0x04#8 : Octet) ≠ 0x02#8 := by decide

/-- Of `DeliveredFramesAreChecked`. -/
theorem witness_tag_in_use :
    let b : List Octet := [0, 1] ++ zeros 6
    let s := withClp fun c => { c with slots := [⟨0x31#8, 1#8, .waiting⟩] }
    0x38#8 ∈ requestKinds ∧ s.power = .on ∧ (1#8 : Octet) ≠ 0#8 ∧ BodyFits 0x38#8 b ∧
      (s.clp.part = .running ∨ (0x38#8 : Octet) = 0x01#8 ∨ (0x38#8 : Octet) = 0x02#8) ∧ ∃ y ∈ s.clp.slots, y.tag = 1#8 :=
  by decide

/-- Of `DeliveredFramesAreChecked`. -/
theorem witness_busy :
    let s := fun p => withClp fun c => { c with part := p, slots := [1, 2, 3, 4].map fun t => ⟨0x31#8, t, .waiting⟩ }
    0x01#8 ∈ requestKinds ∧ (5#8 : Octet) ≠ 0#8 ∧ BodyFits 0x01#8 [] ∧
      ∀ p ∈ [PartState.starting, .running],
        (s p).power = .on ∧ ((s p).clp.part = .running ∨ (0x01#8 : Octet) = 0x01#8 ∨ (0x01#8 : Octet) = 0x02#8) ∧
          (∀ y ∈ (s p).clp.slots, y.tag ≠ 5#8) ∧ 4 ≤ (s p).clp.slots.length := by decide

/-- Of `FrameSentFreesTheLineAndTheSlot`. -/
theorem witness_reply_sent :
    let r : Reply := ⟨0x81#8, 1#8, [0#8], false⟩
    let s := withClp fun c => { c with sending := some (.reply r), slots := [⟨1#8, 1#8, .sending⟩] }
    s.power = .on ∧ s.clp.sending = some (.reply r) := by decide

/-- Of `FrameSentFreesTheLineAndTheSlot`. -/
theorem witness_notice_sent :
    let s := withClp fun c => { c with sending := some (.notice 0xE0#8 []) }
    s.power = .on ∧ s.clp.sending = some (.notice 0xE0#8 []) := by decide

/-- Of `RepliesGoBeforeNoticesByRank`. -/
theorem witness_line_busy : (withClp fun c => { c with sending := some (.notice 0xE0#8 []) }).clp.sending ≠ none := by decide

/-- Of `RepliesGoBeforeNoticesByRank`. -/
theorem witness_line_idle :
    let r : Reply := ⟨0x81#8, 1#8, [0#8], false⟩
    let s := withClp fun c => { c with replies := [r] }
    s.clp.sending = none ∧ s.clp.replies = r :: [] := by decide

/-- Of `RepliesGoBeforeNoticesByRank`. -/
theorem witness_before_running :
    State.reset.clp.sending = none ∧ State.reset.clp.replies = [] ∧ State.reset.clp.part = .starting := by decide

/-- Of `RepliesGoBeforeNoticesByRank`. -/
theorem witness_no_mark :
    part.clp.sending = none ∧ part.clp.replies = [] ∧ part.clp.part = .running ∧ part.clp.marks = Marks.clear := by decide

/-- Of `RepliesGoBeforeNoticesByRank`. -/
theorem witness_marks :
    let s := fun m => withClp fun c => { c with marks := m }
    let n := Marks.clear
    ∀ x ∈ [({ n with incident := true, link := true }, 0xE0#8), ({ n with channel := 0x80#8, link := true }, 0xE1#8),
        ({ n with ru := ZoneSet.one 23, power := 0xFFFFFF#24 }, 0xE2#8), ({ n with power := ZoneSet.one 23, live := true }, 0xE3#8),
        ({ n with live := true, player := 1#4 }, 0xE4#8), ({ n with player := 8#4, band := 8#4 }, 0xE5#8),
        ({ n with band := 8#4, directory := true }, 0xE6#8), ({ n with directory := true, part := true }, 0xE7#8),
        ({ n with part := true, link := true }, 0xE8#8), ({ n with link := true }, 0xE9#8)],
      (s x.1).clp.sending = none ∧ (s x.1).clp.replies = [] ∧ (s x.1).clp.part = .running ∧
        ((s x.1).noticeSources.find? (·.marked)).map (·.kind) = some x.2 := by decide

/-- Of `IdentifyAndStatusReportThePart`. -/
theorem witness_identify : State.reset.hasSlotFor 1#8 ∧ part.hasSlotFor 255#8 := by decide

/-- Of `RestartAbortsAndClears`. -/
theorem witness_restart :
    part.accepts 1#8 ∧ part.owedLaw ∧ part.breakInLaw ∧ part.restLaw ∧ part.channels.length = 8 ∧ part.bands.length = 4 :=
  ⟨by decide, by unfold State.owedLaw State.startUpLaw Upload.sound; decide, by unfold State.breakInLaw; decide,
    by unfold State.restLaw; decide, by decide⟩

/-- Of `RestartAbortsAndClears`. -/
theorem witness_restart_emergency :
    let s := (emergency.modZmg fun z => { z with plan := ⟨some 95, none, 0⟩ }).modCsc fun c => { c with upload := some upload }
    let t := s.modBands fun l => l.modify 3 fun b =>
      { b with feed := true, cfg := { b.cfg with capacity := 1 }, gates := [⟨.opened, 12, some 9⟩, ⟨.pending, 60, some 9⟩] }
    t.accepts 1#8 ∧ t.owedLaw ∧ t.breakInLaw ∧ t.restLaw ∧ t.channels.length = 8 ∧ t.bands.length = 4 ∧
      t.anyEmergency = true ∧ t.zmg.plan.head 0 = some 95 ∧ (t.evacuating 0 95).isSome = true ∧
      (∀ x ∈ t.evacuating 0 95, ∀ up ∈ t.csc.upload, x.clipSlot ≠ some up.slot) ∧ t.zmg.plan.head 1 = none ∧
      (t.band 3).feed = true ∧ upload ∈ t.csc.upload :=
  ⟨by decide, by unfold State.owedLaw State.startUpLaw Upload.sound; decide, by unfold State.breakInLaw; decide,
    by unfold State.restLaw; decide, by decide⟩

/-! ### Witnesses. The loop and the alignment -/

/-- Of `AnswerStatesFollowTheFrame`. -/
theorem witness_begun : part.begun = true ∧ part.channels.length = 8 := by decide

set_option maxRecDepth 10000 in
/-- Of `ReachFollowsTheAnswerStates`. -/
theorem witness_standings :
    let dead : FrameInput := ⟨[], [], false, false⟩
    let live : FrameInput := ⟨[none, none], [some answer, some answer], false, false⟩
    let s := fun st heal => active.modRu 0 fun r =>
      { r with
        state := st, serving := if st = .active then some .a else none, heal := heal, preferred := .b
        onA := { r.onA with run := 7 } }
    let t := fun st => (s st none).modRu 0 fun r => { r with onB := { r.onB with run := 7 } }
    let kept := fun h => (s .active h).modRu 0 fun r => { r with onA := { r.onA with run := 0 } }
    (∀ st ∈ [RuState.active, .joining, .lost, .absent],
      (s st none).begun = true ∧ (((s st none).frameClose live).ru 0).onA.reach = false ∧
        (((s st none).frameClose live).ru 0).onB.reach = true) ∧
      (∀ st ∈ [RuState.active, .joining, .mismatch],
        (t st).begun = true ∧ (((t st).frameClose dead).ru 0).onA.reach = false ∧
          (((t st).frameClose dead).ru 0).onB.reach = false) ∧
      ∀ h ∈ [none, some 1],
        (kept h).begun = true ∧ (((kept h).frameClose live).ru 0).onA.reach = true ∧
          (((kept h).frameClose live).ru 0).onB.reach = true := by decide

/-- Of `OutputsFollowTheBlocks`. -/
theorem witness_outputs : active.begun = true ∧ active.channels.length = 8 := by decide

/-- Of `AlarmInputDrivesTheLatch`. -/
theorem witness_alarm_sample : part.power = .on := by decide

/-- Of `AlarmInputDrivesTheLatch`. -/
theorem witness_alarm_starting :
    let s := (withClp fun c => { c with part := .starting }).modZmg fun z => { z with alarmTimer := some 1 }
    s.power = .on ∧ isDue s.zmg.alarmTimer (s.now + 1) = true ∧ s.zmg.latch = false ∧ s.clp.part = .starting ∧ s.emergencyLaw :=
  by unfold State.emergencyLaw State.startUpLaw; decide

/-- Of `AlarmInputDrivesTheLatch`. -/
theorem witness_alarm_running :
    let s := part.modZmg fun z => { z with alarmTimer := some 1 }
    s.power = .on ∧ isDue s.zmg.alarmTimer (s.now + 1) = true ∧ s.zmg.latch = false ∧ s.clp.part = .running ∧ s.emergencyLaw :=
  by unfold State.emergencyLaw State.startUpLaw; decide

/-- Of `PositionsTurnAnsweringAndSilent`. -/
theorem witness_turns_answering :
    let s := part.modRu 1 fun r => r.modView .b fun v => { v with run := 31 }
    s.begun = true ∧ (1 : Fin 24).val < s.n ∧ ((s.ru 1).view .b).answering = false ∧ 31 ≤ ((s.ru 1).view .b).run := by decide

/-- Of `PositionsTurnAnsweringAndSilent`. -/
theorem witness_not_yet_answering :
    let s := part.modRu 1 fun r => r.modView .b fun v => { v with run := 30 }
    let t := active.modRu 1 fun r => r.modView .b fun v => { v with run := 31 }
    (s.begun = true ∧ (1 : Fin 24).val < s.n ∧ (((s.ru 1).view .b).answering = true ∨ ((s.ru 1).view .b).run < 31)) ∧
      t.begun = true ∧ (1 : Fin 24).val < t.n ∧ (((t.ru 1).view .b).answering = true ∨ ((t.ru 1).view .b).run < 31) := by decide

/-- Of `PositionsTurnAnsweringAndSilent`. -/
theorem witness_turns_silent :
    let s := active.modRu 0 fun r => r.modView .a fun v => { v with run := 7 }
    s.begun = true ∧ (0 : Fin 24).val < s.n ∧ ((s.ru 0).view .a).answering = true ∧ 7 ≤ ((s.ru 0).view .a).run := by decide

/-- Of `PositionsTurnAnsweringAndSilent`. -/
theorem witness_not_yet_silent :
    let s := active.modRu 0 fun r => r.modView .a fun v => { v with run := 6 }
    let t := part.modRu 0 fun r => r.modView .a fun v => { v with run := 7 }
    (s.begun = true ∧ (0 : Fin 24).val < s.n ∧ (((s.ru 0).view .a).answering = false ∨ ((s.ru 0).view .a).run < 7)) ∧
      t.begun = true ∧ (0 : Fin 24).val < t.n ∧ (((t.ru 0).view .a).answering = false ∨ ((t.ru 0).view .a).run < 7) := by decide

/-- Of `UnitsBecomeActiveAndSwingBack`. -/
theorem witness_identity :
    let s := { part with lpc := ⟨[joining, unit .b], 2, 1⟩ }
    s.begun = true ∧ (0 : Fin 24).val < s.n ∧ (s.ru 0).state = .joining ∧ (s.ru 0).reach (s.ru 0).readEnd = true ∧
      (s.ru 0).parts.length = 3 ∧ s.pbe.allocs.length = s.n := by decide

/-- Of `UnitsBecomeActiveAndSwingBack`. -/
theorem witness_heal :
    let s := active.modRu 1 fun r => { r with heal := some 1 }
    s.begun = true ∧ (1 : Fin 24).val < s.n ∧ (s.ru 1).state = .active ∧ isDue (s.ru 1).heal (s.now + 1) = true := by decide

/-- Of `EpochBoundarySurveysAndAligns`. -/
theorem witness_epoch :
    let s := { active with now := 64 }
    s.power = .on ∧ s.epochDue = true := by decide

set_option maxRecDepth 10000 in
/-- Of `SetLoopSetsTheGuardOrReforms`. -/
theorem witness_same_loop :
    let b := loopBody 2#8
    part.accepts 1#8 ∧ b.length = 123 ∧ part.anyEmergency = false ∧ 1 ≤ u8 b 0 ∧ u8 b 0 ≤ 24 ∧
      (∀ i ∈ List.range (u8 b 0), u8 b (7 + 5 * i) ≤ 2) ∧ part.loopRepeats b := by unfold State.loopRepeats; decide

set_option maxRecDepth 10000 in
/-- Of `SetLoopSetsTheGuardOrReforms`. -/
theorem witness_loop_emergency :
    emergency.accepts 1#8 ∧ (loopBody 2#8).length = 123 ∧ emergency.anyEmergency = true := by decide

set_option maxRecDepth 10000 in
/-- Of `SetLoopSetsTheGuardOrReforms`. -/
theorem witness_loop_invalid :
    part.accepts 1#8 ∧ (loopBody 25#8).length = 123 ∧ part.anyEmergency = false ∧
      (u8 (loopBody 25#8) 0 < 1 ∨ 24 < u8 (loopBody 25#8) 0 ∨
        ∃ i ∈ List.range (u8 (loopBody 25#8) 0), 2 < u8 (loopBody 25#8) (7 + 5 * i)) := by decide

set_option maxRecDepth 10000 in
/-- Of `SetLoopSetsTheGuardOrReforms`. -/
theorem witness_reform_1 :
    let b := loopBody 1#8
    let s := part
    s.accepts 1#8 ∧ b.length = 123 ∧ s.anyEmergency = false ∧ 1 ≤ u8 b 0 ∧ u8 b 0 ≤ 24 ∧
      (∀ i ∈ List.range (u8 b 0), u8 b (7 + 5 * i) ≤ 2) ∧ ¬ s.loopRepeats b ∧ 1 ≤ s.n ∧ s.emergencyLaw ∧ s.owedLaw :=
  ⟨by decide, by decide, by decide, by decide, by decide, by decide, by unfold State.loopRepeats; decide, by decide,
    by unfold State.emergencyLaw State.startUpLaw; decide,
    by unfold State.owedLaw State.startUpLaw Upload.sound; decide⟩

set_option maxRecDepth 10000 in
/-- Of `SetLoopSetsTheGuardOrReforms`. -/
theorem witness_reform_24 :
    let b := loopBody 24#8
    let s := part
    s.accepts 1#8 ∧ b.length = 123 ∧ s.anyEmergency = false ∧ 1 ≤ u8 b 0 ∧ u8 b 0 ≤ 24 ∧
      (∀ i ∈ List.range (u8 b 0), u8 b (7 + 5 * i) ≤ 2) ∧ ¬ s.loopRepeats b ∧ 1 ≤ s.n ∧ s.emergencyLaw ∧ s.owedLaw :=
  ⟨by decide, by decide, by decide, by decide, by decide, by decide, by unfold State.loopRepeats; decide, by decide,
    by unfold State.emergencyLaw State.startUpLaw; decide,
    by unfold State.owedLaw State.startUpLaw Upload.sound; decide⟩

set_option maxRecDepth 10000 in
/-- Of `SetLoopSetsTheGuardOrReforms`. -/
theorem witness_reform_same_length :
    let b := (loopBody 2#8).set 3 1#8
    let s := part
    s.accepts 1#8 ∧ b.length = 123 ∧ s.anyEmergency = false ∧ 1 ≤ u8 b 0 ∧ u8 b 0 ≤ 24 ∧
      (∀ i ∈ List.range (u8 b 0), u8 b (7 + 5 * i) ≤ 2) ∧ ¬ s.loopRepeats b ∧ 1 ≤ s.n ∧ s.emergencyLaw ∧ s.owedLaw :=
  ⟨by decide, by decide, by decide, by decide, by decide, by decide, by unfold State.loopRepeats; decide, by decide,
    by unfold State.emergencyLaw State.startUpLaw; decide,
    by unfold State.owedLaw State.startUpLaw Upload.sound; decide⟩

set_option maxRecDepth 10000 in
/-- Of `SetLoopSetsTheGuardOrReforms`. -/
theorem witness_reform_declared :
    let b := loopBody 24#8
    let s := part.modZmg fun z => { z with incident := ZoneSet.one 23 }
    s.accepts 1#8 ∧ b.length = 123 ∧ s.anyEmergency = false ∧ 1 ≤ u8 b 0 ∧ u8 b 0 ≤ 24 ∧
      (∀ i ∈ List.range (u8 b 0), u8 b (7 + 5 * i) ≤ 2) ∧ ¬ s.loopRepeats b ∧ 1 ≤ s.n ∧ s.emergencyLaw ∧ s.owedLaw ∧
      (List.range (u8 b 0)).any s.zmg.incident.mem = true :=
  ⟨by decide, by decide, by decide, by decide, by decide, by decide, by unfold State.loopRepeats; decide, by decide,
    by unfold State.emergencyLaw State.startUpLaw; decide,
    by unfold State.owedLaw State.startUpLaw Upload.sound; decide, by decide⟩

/-! ### Witnesses. Zones and power -/

/-- Of `ZoneSettingsAreWritten`. -/
theorem witness_zone_settings : part.accepts 1#8 ∧ (zeros 5).length = 5 ∧ emergency.accepts 1#8 := by decide

/-- Of `DeclareIncidentPutsZonesInEmergency`. -/
theorem witness_declare :
    let bad : List Octet := [0#8, 0#8, 0#8, 2#8]
    let one : List Octet := [1#8, 0#8, 0#8, 0#8]
    let all : List Octet := [0#8, 0#8, 0#8, 1#8]
    part.accepts 1#8 ∧ bad.length = 4 ∧ one.length = 4 ∧ all.length = 4 ∧
      (u8 bad 3 > 1 ∨ (u8 bad 3 = 0 ∧ zonesAt bad 0 = 0#24)) ∧ (u8 one 3 = 1 ∨ (u8 one 3 = 0 ∧ zonesAt one 0 ≠ 0#24)) ∧
      (u8 all 3 = 1 ∨ (u8 all 3 = 0 ∧ zonesAt all 0 ≠ 0#24)) ∧ part.emergencyLaw ∧ part.owedLaw ∧ part.apl.players.length = 4 :=
  ⟨by decide, by decide, by decide, by decide, by decide, by decide, by decide,
    by unfold State.emergencyLaw State.startUpLaw; decide,
    by unfold State.owedLaw State.startUpLaw Upload.sound; decide, by decide⟩

/-- Of `DeclareIncidentPutsZonesInEmergency`. -/
theorem witness_declare_begins :
    let one : List Octet := [1#8, 0#8, 0#8, 0#8]
    let s := (withUpload fun u =>
        { u with state := .finishing, endTag := some 2#8 }).modZmg fun z => { z with plan := ⟨none, some 95, 3⟩ }
    let t := s.modClp fun c => { c with slots := [⟨0x42#8, 2#8, .waiting⟩] }
    t.accepts 1#8 ∧ one.length = 4 ∧ (u8 one 3 = 1 ∨ (u8 one 3 = 0 ∧ zonesAt one 0 ≠ 0#24)) ∧ t.emergencyLaw ∧ t.owedLaw ∧
      t.apl.players.length = 4 ∧ t.anyEmergency = false ∧ t.csc.upload.isSome = true ∧ t.zmg.plan.head 0 = none ∧
      t.zmg.plan.head 1 = some 95 ∧ (t.evacuating 1 95).isSome = true ∧
      (∀ x ∈ t.evacuating 1 95, ∀ up ∈ t.csc.upload, x.clipSlot ≠ some up.slot) ∧
      ∀ up ∈ t.csc.upload, (t.player 3).clipSlot ≠ some up.slot :=
  ⟨by decide, by decide, by decide, by unfold State.emergencyLaw State.startUpLaw; decide,
    by unfold State.owedLaw State.startUpLaw Upload.sound; decide, by decide⟩

/-- Of `ClearIncidentReturnsEveryZone`. -/
theorem witness_clear_locked :
    let s := emergency.modZmg fun z => { z with level := some true }
    s.accepts 1#8 ∧ s.zmg.level = some true := by decide

/-- Of `ClearIncidentReturnsEveryZone`. -/
theorem witness_clear :
    emergency.accepts 1#8 ∧ emergency.zmg.level ≠ some true ∧ emergency.emergencyLaw ∧ emergency.apl.players.length = 4 ∧
      emergency.anyEmergency = true := by unfold State.emergencyLaw State.startUpLaw; decide

/-- Of `SetRuPowerWritesAndRecomputes`. -/
theorem witness_ru_power :
    active.accepts 1#8 ∧ (zeros 21).length = 21 ∧ active.pbe.cfgs.length = active.n ∧ active.pbe.allocs.length = active.n ∧
      active.n ≤ 24 := by decide

/-- Of `SetRuPowerWritesAndRecomputes`. -/
theorem witness_ru_power_gates :
    let b : List Octet := [1#8, 0, 0, 1, 0] ++ zeros 15 ++ [1#8]
    let feeds := active.modBands fun l => l.map fun x => { x with feed := true }
    let s := (feeds.modPbe fun p => { p with cfgs := p.cfgs.map fun c => { c with bands := 8#4 } }).modBands fun l =>
      (l.modify 0 fun x => { x with gates := [⟨.disabled, 12, none⟩, ⟨.disabled, 60, none⟩] }).modify 3 fun x =>
        { x with cfg := { x.cfg with capacity := 1 }, gates := [⟨.opened, 12, some 9⟩, ⟨.pending, 60, some 9⟩] }
    s.accepts 1#8 ∧ b.length = 21 ∧ s.pbe.cfgs.length = s.n ∧ s.pbe.allocs.length = s.n ∧ s.n ≤ 24 ∧ s.gateLaw ∧
      s.capacityLaw ∧
      0 ∈ List.range 4 ∧ 3 ∈ List.range 4 ∧ 0 ∈ List.range s.n ∧ (zonesAt b 0).mem 0 = true ∧ present16 b 3 8 = true ∧
      (octetAt b 20).setWidth 4 = 1#4 ∧ (s.powerCfg 0).bands.getLsbD 0 = false ∧ (s.powerCfg 0).bands.getLsbD 3 = true ∧
      s.modeOf 0 = .normal ∧ (s.band 0).inUse ≤ ((s.band 0).gate 0).latest :=
  ⟨by decide, by decide, by decide, by decide, by decide, by unfold State.gateLaw; decide,
    by unfold State.capacityLaw; decide, by decide⟩

/-- Of `SetPlanWritesTheBankAndRecomputes`. -/
theorem witness_plan :
    let bad := 2#8 :: zeros 14
    let good : List Octet := [1, 1, 2, 3, 4, 4, 1] ++ zeros 8
    active.accepts 1#8 ∧ bad.length = 15 ∧ good.length = 15 ∧ active.budgetLaw ∧
      (u8 bad 0 > 1 ∨ ∃ j ∈ List.range 6, u8 bad (1 + j) < 1 ∨ 4 < u8 bad (1 + j)) ∧ u8 good 0 ≤ 1 ∧
      ∀ j ∈ List.range 6, 1 ≤ u8 good (1 + j) ∧ u8 good (1 + j) ≤ 4 := by unfold State.budgetLaw; decide

/-- Of `AllocationStaysWithinTheLimit`. -/
theorem witness_allocation :
    let cs := workedCarriers 1 2 3
    let f := PlanBank.default0.floors
    (∀ x ∈ cs, 1 ≤ x.cls ∧ x.cls ≤ 4) ∧ (∀ m ∈ f, m ≤ 256) ∧ totalRequest cs = 1800 ∧ totalRequest cs ≤ 1800 ∧
      (∀ plim ∈ [1799, 799],
        plim ≠ 0 ∧ plim < totalRequest cs ∧
          ∃ c ∈ [1, 2, 3, 4], Covers cs f plim c ∧ ∀ d ∈ [1, 2, 3, 4], c < d → ¬ Covers cs f plim d) ∧
      (∀ plim ∈ [798, 1], plim ≠ 0 ∧ plim < totalRequest cs ∧ ∀ c ∈ [1, 2, 3, 4], ¬ Covers cs f plim c) :=
  by unfold Covers; decide

/-! ### Witnesses. Channels and bands -/

/-- Of `CarrierEventsMoveTheChannel`. -/
theorem witness_carrier_off :
    let s := withChannel fun ch => { ch with cfg := { ch.cfg with enabled := true, coverage := 3#24 } }
    s.begun = true ∧ s.channels.length = 8 ∧ s.budgetLaw ∧ s.n ≤ 24 ∧ (s.channel (0 : Fin 8)).carrier = false :=
  by unfold State.budgetLaw; decide

/-- Of `CarrierEventsMoveTheChannel`. -/
theorem witness_carrier_on :
    let s := active.modChannels fun l => l.modify 7 fun ch => { ch with carrier := true }
    s.begun = true ∧ s.channels.length = 8 ∧ s.budgetLaw ∧ s.n ≤ 24 ∧ (s.channel (7 : Fin 8)).carrier = true :=
  by unfold State.budgetLaw; decide

/-- Of `FrameCloseSelectsTheSource`. -/
theorem witness_selection :
    let s := withChannel fun ch =>
        { ch with cfg := { ch.cfg with enabled := true, coverage := 3#24, hang := 1 }, state := .up, lockout := 2#24 }
    s.begun = true ∧ s.channels.length = 8 ∧ s.n ≤ 24 ∧ 0 ∈ List.range 8 ∧ (s.channel 0).cfg.enabled = true ∧
      (s.channel 0).state = .up ∧ 0 < (s.channel 0).cfg.hang ∧ isDue (s.channel 0).hangT (s.now + 1) = false ∧
        isDue (s.channel 0).talkT (s.now + 1) = false ∧
      23 ∈ List.range 24 ∧ (s.channel 0).marker = false := by decide

set_option maxRecDepth 10000 in
/-- Of `FrameCloseSelectsTheSource`. -/
theorem witness_talk_timer :
    let s := fun hang talk q => withChannel fun ch =>
      { ch with
        cfg := { ch.cfg with enabled := true, coverage := 3#24, qClose := q, talk := 10 }, state := .up, hangT := hang, talkT := talk }
    ∀ q ∈ [50, 51], ∀ x ∈ [(none, none), (none, some 9), (some 9, none), (some 9, some 9)],
      (s x.1 x.2 q).begun = true ∧ (s x.1 x.2 q).channels.length = 8 ∧ (s x.1 x.2 q).n ≤ 24 ∧
        ((s x.1 x.2 q).channel 0).cfg.enabled = true ∧ ((s x.1 x.2 q).channel 0).state = .up ∧
        0 < ((s x.1 x.2 q).channel 0).cfg.hang ∧ isDue ((s x.1 x.2 q).channel 0).hangT ((s x.1 x.2 q).now + 1) = false ∧
        isDue ((s x.1 x.2 q).channel 0).talkT ((s x.1 x.2 q).now + 1) = false := by decide

/-- Of `FrameCloseSelectsTheSource`. -/
theorem witness_band_frame :
    let s := active.modBands fun l =>
        l.modify 3 fun b => { b with feed := true, gates := [⟨.opened, 12, some 1⟩, ⟨.closed, 60, none⟩] }
    let t := s.modPbe fun p => { p with cfgs := p.cfgs.map fun c => { c with bands := 8#4 } }
    t.begun = true ∧ t.channels.length = 8 ∧ t.n ≤ 24 ∧ 3 ∈ List.range 4 ∧ t.gateLaw ∧
      isDue t.zmg.alarmTimer (t.now + 1) = false ∧
      1 ∈ List.range t.n ∧ t.eligible 3 1 = true := by unfold State.gateLaw; decide

/-- Of `FrameCloseSelectsTheSource`. -/
theorem witness_opening :
    let s := fun st t q => withChannel fun ch =>
      { ch with cfg := { ch.cfg with enabled := true, coverage := 3#24, qOpen := q }, state := st, turnT := t }
    ∀ q ∈ [50, 51], ∀ x ∈ [(ChanState.idle, none), (.turn, some 1), (.turn, some 2), (.down, none)],
      (s x.1 x.2 q).begun = true ∧ (s x.1 x.2 q).channels.length = 8 ∧ (s x.1 x.2 q).n ≤ 24 ∧ 0 ∈ List.range 8 ∧
        ((s x.1 x.2 q).channel 0).cfg.enabled = true ∧ ((s x.1 x.2 q).channel 0).state ≠ .up := by decide

/-- Of `ChannelTimersExpire`. -/
theorem witness_turnaround :
    let s := withChannel fun ch =>
        { ch with cfg := { ch.cfg with enabled := true, coverage := 3#24 }, state := .turn, turnT := some 1 }
    s.power = .on ∧ s.channels.length = 8 ∧ (s.channel (0 : Fin 8)).cfg.enabled = true ∧
      (s.channel (0 : Fin 8)).state = .turn ∧
      isDue (s.channel (0 : Fin 8)).turnT (s.now + 1) = true := by decide

/-- Of `ChannelTimersExpire`. -/
theorem witness_hang :
    let s := withChannel fun ch =>
        { ch with cfg := { ch.cfg with enabled := true, coverage := 3#24 }, state := .up, hangT := some 1 }
    s.power = .on ∧ s.channels.length = 8 ∧ (s.channel (0 : Fin 8)).cfg.enabled = true ∧ (s.channel (0 : Fin 8)).state = .up ∧
      isDue (s.channel (0 : Fin 8)).hangT (s.now + 1) = true := by decide

/-- Of `ChannelTimersExpire`. -/
theorem witness_talk :
    let s := withChannel fun ch =>
      { ch with cfg := { ch.cfg with enabled := true, coverage := 3#24 }, state := .up, talkT := some 1, source := some 1 }
    s.power = .on ∧ s.channels.length = 8 ∧ (s.channel (0 : Fin 8)).cfg.enabled = true ∧ 1 ∈ (s.channel (0 : Fin 8)).source ∧
      (s.channel (0 : Fin 8)).state = .up ∧ isDue (s.channel (0 : Fin 8)).talkT (s.now + 1) = true ∧
      (s.channel (0 : Fin 8)).marker = false := by decide

/-- Of `SetChannelWritesTheRecord`. -/
theorem witness_channel_invalid :
    let nine := 9#8 :: zeros 17
    let crossed : List Octet := [1, 0, 0x04] ++ zeros 15
    active.accepts 1#8 ∧ nine.length = 18 ∧ crossed.length = 18 ∧ active.channels.length = 8 ∧ (u8 nine 0 < 1 ∨
      8 < u8 nine 0) ∧
      1 ≤ u8 crossed 0 ∧ u8 crossed 0 ≤ 8 ∧ present16 crossed 1 2 = true ∧ present16 crossed 1 3 = false ∧
      u8 crossed 7 < (active.channel 0).cfg.qClose := by decide

/-- Of `SetChannelWritesTheRecord`. -/
theorem witness_channel :
    let b : List Octet := [8, 0, 0x01] ++ 1#8 :: zeros 14
    active.accepts 1#8 ∧ b.length = 18 ∧ active.channels.length = 8 ∧ 1 ≤ u8 b 0 ∧ u8 b 0 ≤ 8 ∧
      (present16 b 1 0 = true → u8 b 3 ≤ 1) ∧ (present16 b 1 8 = true → u8 b 16 ≤ 1) ∧
      (present16 b 1 9 = true → u8 b 17 ≤ 1) ∧
      (if present16 b 1 3 then u8 b 8 else (active.channel (u8 b 0 - 1)).cfg.qClose) ≤
        if present16 b 1 2 then u8 b 7 else (active.channel (u8 b 0 - 1)).cfg.qOpen := by decide

/-- Of `SetChannelWritesTheRecord`. -/
theorem witness_channel_disabled :
    let b : List Octet := [1, 0, 0x01] ++ zeros 15
    let s := withChannel fun ch =>
      { ch with cfg := { ch.cfg with enabled := true, coverage := 3#24 }, state := .up, source := some 1, keyed := true }
    s.accepts 1#8 ∧ b.length = 18 ∧ s.channels.length = 8 ∧ 1 ≤ u8 b 0 ∧ u8 b 0 ≤ 8 ∧ (present16 b 1 0 = true → u8 b 3 ≤ 1) ∧
      (present16 b 1 8 = true → u8 b 16 ≤ 1) ∧ (present16 b 1 9 = true → u8 b 17 ≤ 1) ∧
      (if present16 b 1 3 then u8 b 8 else (s.channel (u8 b 0 - 1)).cfg.qClose) ≤
          (if present16 b 1 2 then u8 b 7 else (s.channel (u8 b 0 - 1)).cfg.qOpen) ∧
      (s.channel (u8 b 0 - 1)).cfg.enabled = true ∧ present16 b 1 0 = true ∧ u8 b 3 = 0 := by decide

/-- Of `FeedEventsMoveTheGates`. -/
theorem witness_feed :
    let s := active.feedComesUp 3
    (active.begun = true ∧ active.gateLaw ∧ active.capacityLaw ∧ active.budgetLaw ∧ (active.band (3 : Fin 4)).feed = false) ∧
      s.begun = true ∧ s.gateLaw ∧ s.capacityLaw ∧ s.budgetLaw ∧ (s.band (3 : Fin 4)).feed = true :=
  by unfold State.gateLaw State.capacityLaw State.budgetLaw; decide

/-- Of `GateHoldExpiryClosesTheGate`. -/
theorem witness_gate_hold :
    let s := fun g0 g1 => active.modBands fun l => l.modify 0 fun b => { b with feed := true, gates := [⟨g0, 15, some 1⟩, ⟨g1, 14, some 9⟩] }
    let q := s .pending .opened
    let p := s .opened .pending
    q.power = .on ∧ q.bands.length = 4 ∧ (q.band (0 : Fin 4)).gates.length = q.n ∧ (0 : Fin 24).val < q.n ∧
      (q.band (0 : Fin 4)).feed = true ∧ isDue ((q.band (0 : Fin 4)).gate (0 : Fin 24)).hold (q.now + 1) = true ∧
      ((q.band (0 : Fin 4)).gate (0 : Fin 24)).state = .pending ∧
      p.power = .on ∧ p.bands.length = 4 ∧ (p.band (0 : Fin 4)).gates.length = p.n ∧ (0 : Fin 24).val < p.n ∧
      (p.band (0 : Fin 4)).feed = true ∧ isDue ((p.band (0 : Fin 4)).gate (0 : Fin 24)).hold (p.now + 1) = true ∧
      ((p.band (0 : Fin 4)).gate (0 : Fin 24)).state = .opened := by decide

/-- Of `SetBandWritesAndRebalances`. -/
theorem witness_set_band :
    let five := 5#8 :: zeros 6
    let four : List Octet := [4, 0x0F] ++ zeros 5
    active.accepts 1#8 ∧ five.length = 7 ∧ four.length = 7 ∧ active.bands.length = 4 ∧ active.capacityLaw ∧
      (u8 five 0 < 1 ∨ 4 < u8 five 0) ∧ 1 ≤ u8 four 0 ∧ u8 four 0 ≤ 4 := by unfold State.capacityLaw; decide

/-- Of `SetBandWritesAndRebalances`. -/
theorem witness_set_band_capacity :
    let b := fun k : Octet => [4, 0x08, 0, 0, 0, 0, k]
    let s := active.modBands fun l => l.modify 3 fun x =>
      { x with feed := true, cfg := { x.cfg with capacity := 2 }, gates := [⟨.opened, 12, some 9⟩, ⟨.opened, 12, some 9⟩] }
    let t := active.modBands fun l => l.modify 3 fun x =>
      { x with feed := true, cfg := { x.cfg with capacity := 1 }, gates := [⟨.opened, 12, some 9⟩, ⟨.pending, 60, some 9⟩] }
    (s.accepts 1#8 ∧ (b 1#8).length = 7 ∧ s.bands.length = 4 ∧ s.capacityLaw ∧ 1 ≤ u8 (b 1#8) 0 ∧ u8 (b 1#8) 0 ≤ 4 ∧
      present8 (b 1#8) 1 3 = true ∧ u8 (b 1#8) 6 < (s.band 3).cfg.capacity) ∧
      t.accepts 1#8 ∧ (b 24#8).length = 7 ∧ t.bands.length = 4 ∧ t.capacityLaw ∧ 1 ≤ u8 (b 24#8) 0 ∧ u8 (b 24#8) 0 ≤ 4 ∧
      present8 (b 24#8) 1 3 = true ∧ (t.band 3).cfg.capacity < u8 (b 24#8) 6 := by unfold State.capacityLaw; decide

/-! ### Witnesses. Break-in, live voice, players -/

/-- Of `WinnerIsTheBestAdmittedOffer`. -/
theorem witness_winner :
    let os : List Offer := [⟨.player 0, true, 9, 1#24, .silence⟩, ⟨.live, true, 9, 1#24, .silence⟩]
    (os.map (·.source)).Nodup ∧ 1 ∈ List.range os.length ∧ (⟨.live, true, 9, 1#24, .silence⟩ : Offer) ∈ os[1]? ∧
      winnerOf os 0 8 = some .live := by decide

/-- Of `AudioBlockBoundaryServesTheBlock`. -/
theorem witness_block_playing :
    let v : VoiceBlock := ⟨7#8, zeros 128, true⟩
    let s := atBlock (withLive fun q => { q with state := .playing, priority := some 9, target := 1#24, queue := [v] })
    let t := s.modBim fun b => { b with activation := [.live] }
    t.power = .on ∧ t.blockDue = true ∧ t.channels.length = 8 ∧ v ∈ t.lvq.queue.head? ∧ t.lvq.state = .playing ∧
      t.bim.activation = [.live] ∧ ∀ x ∈ t.apl.players, x.state = .idle := by decide

/-- Of `AudioBlockBoundaryServesTheBlock`. -/
theorem witness_block_empty :
    let s := atBlock (withLive fun q => { q with state := .playing, priority := some 9 })
    let t := atBlock (withLive fun q => { q with state := .draining, priority := some 9 })
    (s.power = .on ∧ s.blockDue = true ∧ s.channels.length = 8 ∧ s.lvq.state = .playing ∧ s.lvq.queue = []) ∧
      t.power = .on ∧ t.blockDue = true ∧ t.channels.length = 8 ∧ t.lvq.state = .draining ∧ t.lvq.queue = [] := by decide

/-- Of `AudioBlockBoundaryServesTheBlock`. -/
theorem witness_block_silent :
    let s := atBlock part
    s.power = .on ∧ s.blockDue = true ∧ s.channels.length = 8 ∧ s.lvq.state = .none ∧ s.bim.activation = [] ∧
      ∀ x ∈ s.apl.players, x.state = .idle := by decide

/-- Of `AudioBlockBoundaryServesTheBlock`. -/
theorem witness_block_rows :
    let v : VoiceBlock := ⟨7#8, zeros 128, true⟩
    let s := fun st n q => atBlock (withLive fun l => { l with state := st, priority := some 9, starve := n, queue := q })
    (∀ x ∈ [s .opening 0 [v], s .starved 1 [v, v], s .starved 99 [], s .starved 100 [], s .draining 0 [v]],
        x.power = .on ∧ x.blockDue = true ∧ x.channels.length = 8) ∧
      99 < 100 ∧ 100 ≤ (s .starved 100 []).lvq.starve ∧ v ∈ (s .draining 0 [v]).lvq.queue.head? := by decide

set_option maxRecDepth 10000 in
/-- Of `AudioBlockBoundaryServesTheBlock`. -/
theorem witness_block_offers :
    let l := withLive fun q => { q with state := .starved, starve := 3, priority := some 9, target := 3#24 }
    let x : Player := { Player.initial with state := .playing, item := some 0, progress := .pause 2, priority := some 9, target := 6#24 }
    let s := atBlock (l.modApl fun a => { a with players := [x, x, { x with state := .starting }, Player.initial] })
    let t := s.modBim fun b => { b with activation := [.player 1, .live, .player 2, .player 0] }
    t.power = .on ∧ t.blockDue = true ∧ t.channels.length = 8 ∧ t.breakInLaw := by unfold State.breakInLaw; decide

/-- Of `PlayersOfferTheirBlocks`. -/
theorem witness_player_blocks :
    let s := fun b => atBlock (withPlayer fun x => { x with state := .playing, item := some 0, progress := .clip 0 3 1 2, buffer := b })
    ∀ b ∈ [[], [zeros 128]],
      (s b).power = .on ∧ (s b).blockDue = true ∧ 1 < 4 ∧ (s b).apl.players.length = 4 ∧
        ((s b).player 1).running = true ∧ ((s b).player 1).pendingEnd = none ∧
        ((s b).player 1).resume = none ∧ ((s b).player 1).failed = false ∧ ((s b).player 1).state = .playing ∧
        ((s b).player 1).progress = .clip 0 3 1 2 ∧ ((s b).player 1).buffer = b ∧ 1 + 1 < 3 := by decide

/-- Of `PlayersOfferTheirBlocks`. -/
theorem witness_player_pause :
    let s := atBlock (withPlayer fun x => { x with item := some 0, state := .playing, progress := .pause 2 })
    s.power = .on ∧ s.blockDue = true ∧ 1 < 4 ∧ s.apl.players.length = 4 ∧ (s.player 1).running = true ∧
      (s.player 1).pendingEnd = none ∧
      (s.player 1).resume = none ∧ (s.player 1).failed = false ∧ (s.player 1).state = .playing ∧
        (s.player 1).progress = .pause 2 ∧ 1 < 2 := by decide

/-- Of `PlayersOfferTheirBlocks`. -/
theorem witness_player_pending :
    let s := atBlock (withPlayer fun x =>
        { x with item := some 0, state := .playing, progress := .pause 0, pendingEnd := some .completed })
    s.power = .on ∧ s.blockDue = true ∧ 1 < 4 ∧ s.apl.players.length = 4 ∧ (s.player 1).running = true ∧
      PlayEndReason.completed ∈ (s.player 1).pendingEnd := by decide

/-- Of `PlayersOfferTheirBlocks`. -/
theorem witness_player_failed :
    let s := fun st => atBlock (withPlayer fun x => { x with item := some 0, state := st, failed := true })
    ∀ st ∈ [PlayerState.playing, .starting, .stopping],
      (s st).power = .on ∧ (s st).blockDue = true ∧ 1 < 4 ∧ (s st).apl.players.length = 4 ∧ ((s st).player 1).running = true ∧
        ((s st).player 1).pendingEnd = none ∧ ((s st).player 1).resume = none ∧ ((s st).player 1).failed = true ∧
        ((s st).player 1).state = st ∧ ((s st).walkStart 1).isSome = (st != .stopping) := by decide

/-- Of `PlayersOfferTheirBlocks`. -/
theorem witness_player_stopping :
    let s := atBlock (withPlayer fun x =>
        { x with item := some 0, state := .stopping, progress := .clip 0 3 2 3, buffer := [zeros 128] })
    s.power = .on ∧ s.blockDue = true ∧ 1 < 4 ∧ s.apl.players.length = 4 ∧ (s.player 1).running = true ∧
      (s.player 1).pendingEnd = none ∧ (s.player 1).resume = none ∧ (s.player 1).failed = false ∧
        (s.player 1).state = .stopping ∧
      (s.player 1).progress = .clip 0 3 2 3 ∧ (s.player 1).buffer.head? = some (zeros 128) ∧ 3 ≤ 2 + 1 := by decide

/-- Of `PlayersOfferTheirBlocks`. -/
theorem witness_player_walk :
    let s := fun k next => (atBlock (withPlayer fun x => { x with state := .playing, item := some 0, progress := .pause 1 })).modApl fun a =>
      { a with pool := [⟨.pause 1, next⟩, ⟨k, some 1⟩] ++ a.pool.drop 2 }
    (∀ x ∈ [(ItemKind.pause 9, some 1), (.clip 62, some 1), (.loop 1 2, some 1), (.loop 0 0, none)],
      (s x.1 x.2).power = .on ∧ (s x.1 x.2).blockDue = true ∧ 1 < 4 ∧ (s x.1 x.2).apl.players.length = 4 ∧
        ((s x.1 x.2).player 1).running = true ∧ (s x.1 x.2).walkStart 1 = some ⟨x.2, [], 0⟩) ∧
      (s (.pause 9) (some 1)).examined ⟨some 1, [], 0⟩ = none ∧
      (s (.clip 62) (some 1)).examinedTimes 16 ⟨some 1, [], 0⟩ = some ⟨some 1, [], 16⟩ ∧
      (s (.loop 1 2) (some 1)).examinedTimes 3 ⟨some 1, [], 0⟩ = some ⟨some 1, [⟨1, 1⟩], 0⟩ ∧
      (s (.loop 1 2) (some 1)).examined ⟨some 1, [⟨2, 1⟩, ⟨3, 1⟩, ⟨4, 1⟩, ⟨5, 1⟩], 0⟩ = none ∧
      (s (.loop 0 0) none).examinedTimes 0 ⟨none, [], 0⟩ = some ⟨none, [], 0⟩ := by decide

/-- Of `LiveSessionOpensAndTakesBlocks`. -/
theorem witness_live_start :
    let none : List Octet := zeros 4
    let one : List Octet := [15, 1, 0, 0]
    let s := withLive fun q => { q with state := .opening }
    part.accepts 1#8 ∧ none.length = 4 ∧ zonesAt none 1 = 0#24 ∧ one.length = 4 ∧ zonesAt one 1 ≠ 0#24 ∧
      part.lvq.state = .none ∧
      s.accepts 1#8 ∧ s.lvq.state ≠ .none := by decide

set_option maxRecDepth 10000 in
/-- Of `LiveSessionOpensAndTakesBlocks`. -/
theorem witness_voice_block :
    let s := fun n => withLive fun q => { q with state := .starved, queue := List.replicate n ⟨3#8, [], false⟩ }
    part.power = .on ∧ (zeros 129).length = 129 ∧ (part.lvq.state = .none ∨ part.lvq.state = .draining) ∧
      ((s 15).lvq.state = .opening ∨ (s 15).lvq.state = .playing ∨ (s 15).lvq.state = .starved) ∧ (s 15).power = .on ∧
      (s 15).lvq.queue.length < 16 ∧ (s 2).lvq.queue.length = 2 ∧
      ((s 16).lvq.state = .opening ∨ (s 16).lvq.state = .playing ∨ (s 16).lvq.state = .starved) ∧ (s 16).power = .on ∧
      16 ≤ (s 16).lvq.queue.length := by decide

/-- Of `LiveSessionEnds`. -/
theorem witness_live_end_refused :
    let s := withLive fun q => { q with state := .draining, waitingEnd := some 2#8 }
    part.accepts 1#8 ∧ (1 < (0#8 : Octet).toNat ∨ part.lvq.state = .none) ∧ s.accepts 1#8 ∧
      (1 < (2#8 : Octet).toNat ∨ s.lvq.state = .none) ∧ (0#8 : Octet) = 0#8 ∧ s.lvq.state = .draining := by decide

/-- Of `LiveSessionEnds`. -/
theorem witness_live_end :
    let s := withLive fun q => { q with state := .opening, queue := [⟨3#8, [], false⟩] }
    let t := withLive fun q => { q with state := .opening }
    s.accepts 1#8 ∧ (0#8 : Octet) = 0#8 ∧ (s.lvq.state = .playing ∨ (s.lvq.state = .opening ∧ s.lvq.queue ≠ [])) ∧
      t.accepts 1#8 ∧ t.lvq.state ≠ .none ∧
      ((0#8 : Octet) = 1#8 ∨ ((0#8 : Octet) = 0#8 ∧ (t.lvq.state = .starved ∨ (t.lvq.state = .opening ∧ t.lvq.queue = [])))) ∧
      t.lvq.waitingEnd = none ∧
      ((1#8 : Octet) = 1#8 ∨ ((1#8 : Octet) = 0#8 ∧ (s.lvq.state = .starved ∨ (s.lvq.state = .opening ∧ s.lvq.queue = [])))) :=
  by decide

/-- Of `LiveSessionEnds`. -/
theorem witness_live_end_draining :
    let s := (withLive fun q =>
        { q with state := .draining, waitingEnd := some 2#8 }).modClp fun c => { c with slots := [⟨0x31#8, 2#8, .waiting⟩] }
    s.accepts 1#8 ∧ s.lvq.state ≠ .none ∧
      ((1#8 : Octet) = 1#8 ∨ ((1#8 : Octet) = 0#8 ∧ (s.lvq.state = .starved ∨ (s.lvq.state = .opening ∧ s.lvq.queue = [])))) ∧
      2#8 ∈ s.lvq.waitingEnd ∧ (⟨0x31#8, 2#8, .waiting⟩ : Slot) ∈ s.clp.slots.find? (Slot.waits 2#8) := by decide

/-- Of `LiveSessionEnds`. -/
theorem witness_live_drained :
    let s := atBlock <| (withLive fun q =>
        { q with state := .draining, waitingEnd := some 2#8 }).modClp fun c => { c with slots := [⟨0x31#8, 2#8, .waiting⟩] }
    s.power = .on ∧ s.blockDue = true ∧ s.lvq.state = .draining ∧ s.lvq.queue = [] ∧ s.lvq.waitingEnd = some 2#8 ∧
      s.clp.slots.find? (Slot.waits 2#8) = some ⟨0x31#8, 2#8, .waiting⟩ := by decide

/-- Of `LiveSessionEnds`. -/
theorem witness_starve_limit :
    let s := fun k => atBlock (withLive fun q => { q with state := .starved, starve := k })
    (s 100).power = .on ∧ (s 100).blockDue = true ∧ (s 100).lvq.state = .starved ∧ 100 ≤ (s 100).lvq.starve ∧
      (s 100).lvq.waitingEnd = none ∧ (s 99).power = .on ∧
      ((s 99).blockDue = false ∨ (s 99).lvq.state ≠ .starved ∨ (s 99).lvq.starve < 100) := by decide

/-- Of `SetItemsWritesThePool`. -/
theorem witness_items :
    let b : List Octet := [94, 2] ++ [1, 95, 0, 0, 0, 0] ++ [0, 0xFF, 62, 0, 0, 0]
    let s := fun i => withPlayer fun x => { x with state := .playing, item := some i }
    b.length = 2 + 6 * u8 b 1 ∧ u8 b 0 ≤ 95 ∧ 1 ≤ u8 b 1 ∧ u8 b 1 ≤ 32 ∧ u8 b 0 + u8 b 1 ≤ 96 ∧
      (∀ j ∈ List.range (u8 b 1), ItemValid b j) ∧
      (∀ i ∈ [94, 95],
        (s i).accepts 1#8 ∧
          ∃ x ∈ (s i).apl.players, x.state ≠ .idle ∧ ∃ i ∈ x.item, u8 b 0 ≤ i ∧ i < u8 b 0 + u8 b 1) ∧
      (s 93).accepts 1#8 ∧
        ∀ x ∈ (s 93).apl.players, x.state ≠ .idle → ∀ i ∈ x.item, i < u8 b 0 ∨ u8 b 0 + u8 b 1 ≤ i :=
  by unfold ItemValid; decide

set_option maxRecDepth 10000 in
/-- Of `SetItemsWritesThePool`. -/
theorem witness_items_invalid :
    let one := fun x : List Octet => [95, 1] ++ x
    let most := fun start : Octet => [start, 32] ++ zeros 192
    (part.accepts 1#8 ∧ (zeros 3).length ≠ 2 + 6 * u8 (zeros 3) 1) ∧
      (∀ b ∈ [most 65, [94, 3] ++ zeros 18, [96, 1] ++ zeros 6, [0, 0], [0, 33] ++ zeros 198],
        b.length = 2 + 6 * u8 b 1 ∧
          (95 < u8 b 0 ∨ u8 b 1 < 1 ∨ 32 < u8 b 1 ∨ 96 < u8 b 0 + u8 b 1 ∨ ∃ j ∈ List.range (u8 b 1), ¬ ItemValid b j)) ∧
      ∀ b ∈ [one [3, 0, 0, 0, 0, 0], one [0, 96, 0, 0, 0, 0], one [0, 0, 63, 0, 0, 0], one [2, 0, 96, 0, 0, 0]],
        b.length = 2 + 6 * u8 b 1 ∧
          (95 < u8 b 0 ∨ u8 b 1 < 1 ∨ 32 < u8 b 1 ∨ 96 < u8 b 0 + u8 b 1 ∨ ∃ j ∈ List.range (u8 b 1), ¬ ItemValid b j) :=
  by unfold ItemValid; decide

/-- Of `PlayStartsThePlayer`. -/
theorem witness_play_refused :
    let four : List Octet := [4, 0, 9, 3, 0, 0, 0]
    let one : List Octet := [1, 95, 9, 3, 0, 0, 0]
    part.accepts 1#8 ∧ four.length = 7 ∧ part.apl.players.length = 4 ∧
      (3 < u8 four 0 ∨ 95 < u8 four 1 ∨ 3 < u8 four 3 ∨ (u8 four 3 = 0 ∧ zonesAt four 4 = 0#24)) ∧ emergency.accepts 1#8 ∧
      one.length = 7 ∧ emergency.apl.players.length = 4 ∧ u8 one 0 ≤ 3 ∧ u8 one 1 ≤ 95 ∧ u8 one 3 ≤ 3 ∧
      (u8 one 3 = 0 → zonesAt one 4 ≠ 0#24) ∧ u8 one 0 ≤ 1 ∧ emergency.anyEmergency = true := by decide

/-- Of `PlayStartsThePlayer`. -/
theorem witness_play :
    let b : List Octet := [1, 95, 9, 3, 0, 0, 0]
    let s := (withCsc fun c => { c with directory := c.directory.set 62 ⟨.ready, true, 9, [], 0#32⟩ }).modApl fun a =>
      { a with pool := a.pool.set 95 ⟨.clip 62, none⟩ }
    let t := withPlayer fun x => { x with state := .stopping }
    s.accepts 1#8 ∧ b.length = 7 ∧ s.apl.players.length = 4 ∧ u8 b 0 ≤ 3 ∧ u8 b 1 ≤ 95 ∧ u8 b 3 ≤ 3 ∧
      (u8 b 3 = 0 → zonesAt b 4 ≠ 0#24) ∧ (u8 b 0 ≤ 1 → s.anyEmergency = false) ∧ (s.player (u8 b 0)).running = false ∧
      62 ∈ List.range 63 ∧ (s.item (u8 b 1)).kind = .clip 62 ∧ (s.dirEntry 62).state = .ready ∧
      t.accepts 1#8 ∧ t.apl.players.length = 4 ∧ (u8 b 0 ≤ 1 → t.anyEmergency = false) ∧ (t.player (u8 b 0)).running = true :=
  by decide

/-- Of `StopEndsThePlayer`. -/
theorem witness_stop_refused :
    part.accepts 1#8 ∧ part.apl.players.length = 4 ∧ (3 < (4#8 : Octet).toNat ∨ 1 < (0#8 : Octet).toNat) ∧ emergency.accepts 1#8 ∧
      emergency.apl.players.length = 4 ∧ (1#8 : Octet).toNat ≤ 1 ∧ emergency.anyEmergency = true := by decide

/-- Of `StopEndsThePlayer`. -/
theorem witness_stop :
    let s := fun st => withPlayer fun x => { x with state := st, item := some 0 }
    ∀ st ∈ [PlayerState.idle, .starting, .playing, .stopping],
      (s st).accepts 1#8 ∧ (s st).apl.players.length = 4 ∧ (1#8 : Octet).toNat ≤ 3 ∧ (0#8 : Octet).toNat ≤ 1 ∧
        ((1#8 : Octet).toNat ≤ 1 → (s st).anyEmergency = false) ∧ ((s st).player (1#8 : Octet).toNat).state = st ∧
        ((s st).player (1#8 : Octet).toNat).pendingEnd = none ∧ ((s st).player (1#8 : Octet).toNat).resume = none := by decide

/-! ### Witnesses. The clip store -/

/-- Of `StartUpReadsTheFlash`. -/
theorem witness_settings_read :
    let s := State.reset
    let t := { s with flash := { s.flash with area := .copy Settings.default } }
    s.power = .on ∧ s.csc.absent = false ∧ s.csc.port = some ⟨.readSettings, .startup, 0⟩ ∧ s.flash.area = .erased ∧
      t.power = .on ∧ t.csc.absent = false ∧ t.csc.port = some ⟨.readSettings, .startup, 0⟩ ∧
      t.flash.area = .copy Settings.default ∧ Settings.default.preferred.length = Settings.default.configured.length ∧
      Settings.default.thresholds.length = Settings.default.configured.length ∧
      Settings.default.power.length = Settings.default.configured.length ∧ Settings.default.channels.length = 8 ∧
      Settings.default.bands.length = 4 ∧ Settings.default.pool.length = 96 ∧ 1 ≤ Settings.default.split ∧
      Settings.default.split ≤ Settings.default.configured.length + 1 := by decide

/-- Of `StartUpReadsTheFlash`. -/
theorem witness_header_read :
    let s := fun slot => { State.reset with csc := { State.reset.csc with port := some ⟨.readHeader slot, .startup, 0⟩ } }
    ∀ slot ∈ [0, 61, 62],
      (s slot).power = .on ∧ (s slot).csc.absent = false ∧ (s slot).csc.upload = none ∧ (s slot).csc.directory.length = 63 ∧
        slot < 63 ∧ (s slot).csc.port = some ⟨.readHeader slot, .startup, 0⟩ := by decide

/-- Of `BlockReadsArrive`. -/
theorem witness_player_read :
    let s := (withPort (.readBlock 62 3) (.player 1)).modApl fun a =>
      { a with players := a.players.modify 1 fun x =>
        { x with state := .starting, progress := .clip 62 9 0 2, buffer := [zeros 128, zeros 128] } }
    s.power = .on ∧ s.csc.absent = false ∧ 1 < 4 ∧ s.apl.players.length = 4 ∧
      s.csc.port = some ⟨.readBlock 62 3, .player 1, 0⟩ ∧
      (s.player 1).progress = .clip 62 9 0 2 ∧ (s.player 1).failed = false := by decide

/-- Of `BlockReadsArrive`. -/
theorem witness_verify_read :
    let v : Verify := ⟨62, 2, crc32Start⟩
    let s := fun n => (withPort (.readBlock 62 2) .verify).modCsc fun c =>
      { c with verify := some v, directory := c.directory.set 62 ⟨.ready, false, n, [], 0#32⟩ }
    ∀ n ∈ [2, 3],
      (s n).power = .on ∧ (s n).csc.absent = false ∧ v.slot < 63 ∧ (s n).csc.directory.length = 63 ∧
        (s n).csc.verify = some v ∧
        (s n).csc.port = some ⟨.readBlock v.slot v.next, .verify, 0⟩ ∧ ((s n).dirEntry v.slot).length = n := by decide

set_option maxRecDepth 10000 in
/-- Of `ProgramsAndErasesComplete`. -/
theorem witness_program_blocks :
    let bs : List IndexedBlock := [⟨2046, zeros 128⟩, ⟨2047, zeros 128⟩]
    let s := withPort (.programBlocks 62 bs) .nobody
    s.power = .on ∧ s.csc.absent = false ∧ s.flash.wf ∧ s.protectionLaw ∧
      s.csc.port = some ⟨.programBlocks 62 bs, .nobody, 0⟩ ∧
      (⟨.programBlocks 62 bs, .nobody, 0⟩ : PortOp).op = .programBlocks 62 bs ∧ (bs.map (·.index)).Nodup ∧
      ∀ b ∈ bs, b.data.length ≤ 128 :=
  ⟨by decide, by decide, by unfold Flash.wf; decide, by unfold State.protectionLaw State.startUpLaw; decide, by decide⟩

set_option maxRecDepth 10000 in
/-- Of `ProgramsAndErasesComplete`. -/
theorem witness_program_page :
    let bs : List IndexedBlock := [⟨2, zeros 128⟩, ⟨3, zeros 128⟩]
    let u := { upload with buffer := bs }
    let s := (withUpload fun _ => u).modCsc fun c => { c with port := some ⟨.programBlocks u.slot bs, .upload, 0⟩ }
    s.power = .on ∧ s.csc.absent = false ∧ s.csc.upload = some u ∧ u.failed = none ∧
      s.csc.port = some ⟨.programBlocks u.slot bs, .upload, 0⟩ ∧ u.waiting = [] := by decide

set_option maxRecDepth 10000 in
/-- Of `ProgramsAndErasesComplete`. -/
theorem witness_program_page_waiting :
    let bs : List IndexedBlock := (List.range 2).map fun k => ⟨2 + k, []⟩
    let blocks : List IndexedBlock := (List.range 8).map fun k => ⟨2 + k, []⟩
    let ws : List WaitingData := [⟨2#8, ⟨10, []⟩⟩, ⟨3#8, ⟨11, []⟩⟩, ⟨4#8, ⟨12, []⟩⟩]
    let u := { upload with length := 12, received := 9, buffer := blocks, waiting := ws }
    let s := ((withUpload fun _ =>
        u).modCsc fun c => { c with port := some ⟨.programBlocks u.slot bs, .upload, 0⟩ }).modClp fun c =>
      { c with slots := [2#8, 3#8, 4#8].map fun t => ⟨0x41#8, t, .waiting⟩ }
    s.power = .on ∧ s.csc.absent = false ∧ s.csc.upload = some u ∧ u.failed = none ∧
      s.csc.port = some ⟨.programBlocks u.slot bs, .upload, 0⟩ ∧ s.owedLaw :=
  ⟨by decide, by decide, by decide, by decide, by decide, by unfold State.owedLaw State.startUpLaw Upload.sound; decide⟩

/-- Of `ProgramsAndErasesComplete`. -/
theorem witness_program_begun :
    let u := { upload with state := .preparing, received := 0, begun := false, beginTag := some 1#8 }
    let s := (withUpload fun _ =>
        u).modCsc fun c => { c with port := some ⟨.programBegun u.slot u.length u.label, .upload, 0⟩ }
    let t := s.modClp fun c => { c with slots := [⟨0x40#8, 1#8, .waiting⟩] }
    t.power = .on ∧ t.csc.absent = false ∧ t.csc.upload = some u ∧ u.failed = none ∧
      t.csc.port = some ⟨.programBegun u.slot u.length u.label, .upload, 0⟩ ∧ 1#8 ∈ u.beginTag ∧
      (⟨0x40#8, 1#8, .waiting⟩ : Slot) ∈ t.clp.slots.find? (Slot.waits 1#8) := by decide

/-- Of `ProgramsAndErasesComplete`. -/
theorem witness_program_complete :
    let u := { upload with state := .finishing, endTag := some 1#8 }
    let s := (withUpload fun _ => u).modCsc fun c => { c with port := some ⟨.programComplete u.slot 0#32, .upload, 0⟩ }
    s.power = .on ∧ s.csc.absent = false ∧ u.slot < 63 ∧ s.csc.directory.length = 63 ∧ s.csc.upload = some u ∧
      u.failed = none ∧
      s.csc.port = some ⟨.programComplete u.slot 0#32, .upload, 0⟩ := by decide

/-- Of `ProgramsAndErasesComplete`. -/
theorem witness_failed_upload :
    let u := { upload with state := .finishing, received := 1, begun := false, beginTag := some 2#8, endTag := some 3#8, failed := some .short }
    let s := fun op => ((withUpload fun _ => u).modCsc fun c =>
      { c with port := some ⟨op, .upload, 0⟩, directory := c.directory.set 62 ⟨.writing, false, 0, [], 0#32⟩ }).modClp fun c =>
      { c with slots := [⟨0x40#8, 2#8, .waiting⟩, ⟨0x42#8, 3#8, .waiting⟩] }
    let a := FlashOp.eraseUnit 62 3
    (s a).power = .on ∧ (s a).csc.absent = false ∧ (s a).owedLaw ∧ (s a).csc.upload = some u ∧ u.failed = some .short ∧
      (s a).csc.port = some ⟨a, .upload, 0⟩ ∧ (⟨a, .upload, 0⟩ : PortOp).owner = .upload ∧
      u.slot < 63 ∧ (s a).csc.directory.length = 63 ∧
      Instr.eraseComplete ∈ [Instr.eraseComplete, .programComplete] ∧
      (if Instr.eraseComplete = .eraseComplete then a.isErase else a.isProgram) = true :=
  ⟨by decide, by decide, by unfold State.owedLaw State.startUpLaw Upload.sound; decide, by decide⟩

/-- Of `ProgramsAndErasesComplete`. -/
theorem witness_failed_upload_program :
    let u := { upload with state := .finishing, received := 1, begun := false, beginTag := some 2#8, endTag := some 3#8, failed := some .short }
    let s := fun op => ((withUpload fun _ => u).modCsc fun c =>
      { c with port := some ⟨op, .upload, 0⟩, directory := c.directory.set 62 ⟨.writing, false, 0, [], 0#32⟩ }).modClp fun c =>
      { c with slots := [⟨0x40#8, 2#8, .waiting⟩, ⟨0x42#8, 3#8, .waiting⟩] }
    let a := FlashOp.programBegun 62 3 u.label
    (s a).power = .on ∧ (s a).csc.absent = false ∧ (s a).owedLaw ∧ (s a).csc.upload = some u ∧ u.failed = some .short ∧
      (s a).csc.port = some ⟨a, .upload, 0⟩ ∧ (⟨a, .upload, 0⟩ : PortOp).owner = .upload ∧
      u.slot < 63 ∧ (s a).csc.directory.length = 63 ∧
      Instr.programComplete ∈ [Instr.eraseComplete, .programComplete] ∧
      (if Instr.programComplete = .eraseComplete then a.isErase else a.isProgram) = true :=
  ⟨by decide, by decide, by unfold State.owedLaw State.startUpLaw Upload.sound; decide, by decide⟩

/-- Of `ProgramsAndErasesComplete`. -/
theorem witness_program_settings :
    let x : SettingsJob := ⟨{ Settings.default with level := 7 }, true, 1, some 7, some 1#8⟩
    let s := (withPort .programSettings .settings).modCsc fun c => { c with settings := some x }
    s.power = .on ∧ s.csc.absent = false ∧ s.csc.settings = some x ∧ s.csc.port = some ⟨.programSettings, .settings, 0⟩ ∧
      x.pagesLeft ≤ 1 := by decide

/-- Of `ProgramsAndErasesComplete`. -/
theorem witness_erase :
    let e : EraseJob := ⟨62, 3, some 1#8⟩
    let s := (withPort (.eraseUnit 62 3) .eraseSlot).modCsc fun c => { c with erase := some e }
    let t := withPort .eraseSettings .settings
    s.power = .on ∧ s.csc.absent = false ∧ s.csc.port = some ⟨.eraseUnit 62 3, .eraseSlot, 0⟩ ∧ e ∈ s.csc.erase ∧
      s.csc.directory.length = 63 ∧ e.slot < 63 ∧ 3 ≤ e.units ∧ t.power = .on ∧ t.csc.absent = false ∧
      t.csc.port = some ⟨.eraseSettings, .settings, 0⟩ := by decide

/-- Of `FlashFailuresFollowTheirOwners`. -/
theorem witness_op_timeout :
    let s := fun now => { withPort (.readBlock 0 1) (.player 3) with now := now }
    ∀ now ∈ [7998, 7999], (s now).power = .on ∧ (s now).csc.port = some ⟨.readBlock 0 1, .player 3, 0⟩ := by decide

/-- Of `FlashFailuresFollowTheirOwners`. -/
theorem witness_op_fails :
    let v : Verify := ⟨62, 1, crc32Start⟩
    let x : SettingsJob := ⟨Settings.default, false, 1, none, some 1#8⟩
    let a := (withPort (.readBlock 62 1) .verify).modCsc fun c => { c with verify := some v }
    let b := (withUpload id).modCsc fun c => { c with port := some ⟨.programBlocks 62 [], .upload, 0⟩ }
    let d := (withPort (.eraseUnit 62 0) .eraseSlot).modCsc fun c => { c with erase := some ⟨62, 0, some 1#8⟩ }
    let e := (withPort .eraseSettings .settings).modCsc fun c => { c with settings := some x }
    let f := State.reset
    (a.power = .on ∧ a.csc.port = some ⟨.readBlock 62 1, .verify, 0⟩ ∧ v ∈ a.csc.verify) ∧
      (b.power = .on ∧ b.csc.port = some ⟨.programBlocks 62 [], .upload, 0⟩ ∧ upload ∈ b.csc.upload ∧ upload.endTag = none ∧
        upload.slot < 63 ∧ b.csc.directory.length = 63) ∧
      (d.power = .on ∧ d.csc.port = some ⟨.eraseUnit 62 0, .eraseSlot, 0⟩ ∧ (⟨62, 0, some 1#8⟩ : EraseJob) ∈ d.csc.erase) ∧
      (e.power = .on ∧ e.csc.port = some ⟨.eraseSettings, .settings, 0⟩ ∧ x ∈ e.csc.settings) ∧
      f.power = .on ∧ f.csc.port = some ⟨.readSettings, .startup, 0⟩ ∧ f.csc.directory.length = 63 := by decide

/-- Of `FlashFailuresFollowTheirOwners`. -/
theorem witness_op_fails_finishing :
    let u := { upload with state := .finishing, endTag := some 3#8 }
    let s := ((withUpload fun _ =>
        u).modCsc fun c => { c with port := some ⟨.programComplete 62 0#32, .upload, 0⟩ }).modClp fun c =>
      { c with slots := [⟨0x42#8, 3#8, .waiting⟩] }
    s.power = .on ∧ s.csc.port = some ⟨.programComplete 62 0#32, .upload, 0⟩ ∧ u ∈ s.csc.upload ∧
      u.endTag.isSome = true ∧ s.owedLaw := by unfold State.owedLaw State.startUpLaw Upload.sound; decide

/-- Of `FlashFailuresFollowTheirOwners`. -/
theorem witness_scan_fails :
    let s := fun slot => { State.reset with csc := { State.reset.csc with port := some ⟨.readHeader slot, .startup, 0⟩ } }
    ∀ slot ∈ [0, 61, 62],
      (s slot).power = .on ∧ (s slot).csc.port = some ⟨.readHeader slot, .startup, 0⟩ ∧ slot < 63 ∧
        (s slot).csc.directory.length = 63 ∧ (s slot).csc.upload = none := by decide

/-- Of `UploadTakesItsBlocks`. -/
theorem witness_upload_begin :
    let b : List Octet := [62, 0x07, 0xFF] ++ zeros 16
    let bad := 63#8 :: zeros 18
    let s := withCsc fun c =>
      { c with settings := some ⟨Settings.default, false, 1, none, some 2#8⟩, erase := some ⟨61, 0, some 3#8⟩ }
    let p := withCsc fun c => { c with level := 7 }
    s.accepts 1#8 ∧ b.length = 19 ∧ bad.length = 19 ∧ (62 < u8 bad 0 ∨ u16 bad 1 < 1 ∨ 2047 < u16 bad 1) ∧ u8 b 0 ≤ 62 ∧
      1 ≤ u16 b 1 ∧ u16 b 1 ≤ 2047 ∧ s.anyEmergency = false ∧ protectedCount s.csc.level ≤ u8 b 0 ∧ s.csc.upload = none ∧
      (∀ x ∈ s.csc.settings, x.level = none) ∧ (∀ e ∈ s.csc.erase, e.slot ≠ u8 b 0) ∧ s.slotInPlay (u8 b 0) = false ∧
      s.csc.verify = none ∧ s.csc.directory.length = 63 ∧ emergency.accepts 1#8 ∧ emergency.anyEmergency = true ∧
        p.accepts 1#8 ∧
      p.anyEmergency = false ∧ u8 b 0 < protectedCount p.csc.level := by decide

/-- Of `UploadTakesItsBlocks`. -/
theorem witness_upload_begin_busy :
    let b : List Octet := [62, 0, 1] ++ zeros 16
    let a := withUpload id
    let c := withCsc fun c => { c with settings := some ⟨Settings.default, false, 1, some 7, some 2#8⟩ }
    let d := withCsc fun c => { c with erase := some ⟨62, 0, some 3#8⟩ }
    let e := withPlayer fun x => { x with state := .playing, item := some 0, progress := .clip 62 3 0 0 }
    b.length = 19 ∧ u8 b 0 ≤ 62 ∧ 1 ≤ u16 b 1 ∧ u16 b 1 ≤ 2047 ∧ a.csc.upload ≠ none ∧
      (∃ x ∈ c.csc.settings, x.level ≠ none) ∧
      (∃ x ∈ d.csc.erase, x.slot = u8 b 0) ∧ e.slotInPlay (u8 b 0) = true ∧
      ∀ s ∈ [a, c, d, e], s.accepts 1#8 ∧ s.anyEmergency = false ∧ protectedCount s.csc.level ≤ u8 b 0 := by decide

set_option maxRecDepth 10000 in
/-- Of `UploadTakesItsBlocks`. -/
theorem witness_clip_data :
    let s := fun n => withUpload fun u => { u with received := 2, buffer := List.replicate n ⟨1, []⟩ }
    let b : List Octet := [0, 3] ++ zeros 128
    let bad : List Octet := [0, 4] ++ zeros 128
    let u := fun n => { upload with received := 2, buffer := List.replicate n ⟨1, []⟩ }
    b.length = 130 ∧ bad.length = 130 ∧
      (∀ n ∈ [7, 8],
        (s n).accepts 1#8 ∧ (s n).anyEmergency = false ∧ (s n).csc.upload = some (u n) ∧
          ((u n).state = .preparing ∨ (u n).state = .receiving)) ∧
      (u16 b 0 = (u 7).received + 1 ∧ u16 b 0 ≤ (u 7).length ∧ (u 7).waiting = [] ∧ (u 7).buffer.length < 8) ∧
      (u16 b 0 = (u 8).received + (u 8).waiting.length + 1 ∧ u16 b 0 ≤ (u 8).length ∧ 8 ≤ (u 8).buffer.length) ∧
      (u16 bad 0 ≠ (u 7).received + (u 7).waiting.length + 1 ∨ (u 7).length < u16 bad 0) := by decide

set_option maxRecDepth 10000 in
/-- Of `UploadTakesItsBlocks`. -/
theorem witness_clip_data_waiting :
    let bad : List Octet := [0, 13] ++ zeros 128
    let ws : List WaitingData := [⟨2#8, ⟨10, []⟩⟩, ⟨3#8, ⟨11, []⟩⟩]
    let u := { upload with length := 12, received := 9, buffer := List.replicate 8 ⟨1, []⟩, waiting := ws }
    let s := (withUpload fun _ => u).modClp fun c =>
      { c with slots := [⟨0x41#8, 2#8, .waiting⟩, ⟨0x41#8, 3#8, .waiting⟩] }
    s.accepts 1#8 ∧ bad.length = 130 ∧ s.anyEmergency = false ∧ (∃ up ∈ s.csc.upload,
      (up.state = .preparing ∨ up.state = .receiving) ∧
        (u16 bad 0 ≠ up.received + up.waiting.length + 1 ∨ up.length < u16 bad 0)) ∧ s.owedLaw :=
  ⟨by decide, by decide, by decide, by decide, by unfold State.owedLaw State.startUpLaw Upload.sound; decide⟩

set_option maxRecDepth 10000 in
/-- Of `UploadTakesItsBlocks`. -/
theorem witness_clip_data_refused :
    let b := zeros 130
    let s := fun st => withUpload fun u => { u with state := st, endTag := if st = .finishing then some 2#8 else none }
    (emergency.accepts 1#8 ∧ emergency.anyEmergency = true) ∧
      (part.accepts 1#8 ∧ part.anyEmergency = false ∧ part.csc.upload = none) ∧ b.length = 130 ∧
      ∀ st ∈ [UploadState.sequenceFailed, .faulted, .finishing],
        (s st).accepts 1#8 ∧ (s st).anyEmergency = false ∧ ∃ up ∈ (s st).csc.upload, up.state = st := by decide

/-- Of `UploadsEndAndSlotsAreErased`. -/
theorem witness_upload_end :
    let s := withUpload id
    let b := (List.range 4).map fun i => (crc32Result upload.crc).extractLsb' (24 - 8 * i) 8
    s.accepts 1#8 ∧ s.anyEmergency = false ∧ s.csc.upload = some upload ∧ upload.beginTag = none ∧ upload.waiting = [] ∧
      upload.endTag = none ∧ upload.slot < 63 ∧ s.csc.directory.length = 63 ∧ b.length = 4 ∧ upload.state = .receiving ∧
      upload.received = upload.length ∧ crc32Result upload.crc = w32 b 0 := by decide

/-- Of `UploadsEndAndSlotsAreErased`. -/
theorem witness_upload_fails :
    let b := zeros 4
    ∀ x ∈ [({ upload with state := .faulted }, Status.flashFault), ({ upload with state := .sequenceFailed }, .sequence),
        ({ upload with received := 2 }, .short), (upload, .crcMismatch)],
      (withUpload fun _ => x.1).accepts 1#8 ∧ (withUpload fun _ => x.1).csc.upload = some x.1 ∧ x.1.beginTag = none ∧
        x.1.waiting = [] ∧ x.1.endTag = none ∧ x.1.slot < 63 ∧ b.length = 4 ∧ x.1.state ≠ .finishing ∧
          x.1.state ≠ .preparing ∧
        ((x.2 = .flashFault ∧ x.1.state = .faulted) ∨ (x.2 = .sequence ∧ x.1.state = .sequenceFailed) ∨
          (x.2 = .short ∧ x.1.state ≠ .faulted ∧ x.1.state ≠ .sequenceFailed ∧ x.1.received < x.1.length) ∨
          (x.2 = .crcMismatch ∧ x.1.state ≠ .faulted ∧ x.1.state ≠ .sequenceFailed ∧ x.1.length ≤ x.1.received ∧
            crc32Result x.1.crc ≠ w32 b 0)) := by decide

/-- Of `UploadsEndAndSlotsAreErased`. -/
theorem witness_upload_end_waits :
    let u := { upload with state := .preparing, units := 1, begun := false, received := 2, beginTag := some 2#8, waiting := [] }
    let v := { u with received := 3 }
    let s := fun u => (withUpload fun _ => u).modCsc fun c => { c with port := some ⟨.eraseUnit 62 1, .upload, 0⟩ }
    ∀ x ∈ [(u, Status.short), (v, .crcMismatch)],
      (s x.1).accepts 1#8 ∧ (s x.1).anyEmergency = false ∧ (s x.1).csc.upload = some x.1 ∧ x.1.state = .preparing ∧
        (∃ o ∈ (s x.1).csc.port, o.owner = .upload) ∧ (zeros 4).length = 4 ∧
        ((x.2 = .short ∧ x.1.received < x.1.length) ∨
          (x.2 = .crcMismatch ∧ x.1.length ≤ x.1.received ∧ crc32Result x.1.crc ≠ w32 (zeros 4) 0)) := by decide

/-- Of `UploadsEndAndSlotsAreErased`. -/
theorem witness_no_upload :
    part.accepts 1#8 ∧ part.anyEmergency = false ∧ part.csc.upload = none ∧ (zeros 4).length = 4 := by decide

/-- Of `UploadsEndAndSlotsAreErased`. -/
theorem witness_upload_refused :
    let s := withUpload fun u => { u with state := .finishing, endTag := some 2#8 }
    (emergency.accepts 1#8 ∧ emergency.anyEmergency = true ∧ (62#8 : Octet).toNat ≤ 62) ∧ (zeros 4).length = 4 ∧
      s.accepts 1#8 ∧
      s.anyEmergency = false ∧ ∃ up ∈ s.csc.upload, up.state = .finishing := by decide

/-- Of `UploadsEndAndSlotsAreErased`. -/
theorem witness_erase_slot :
    let s := fun st => withCsc fun c =>
      { c with directory := c.directory.set 62 ⟨st, false, 9, [], 0#32⟩
               settings := some ⟨Settings.default, false, 1, none, some 2#8⟩ }
    let p := withCsc fun c => { c with level := 7 }
    (part.accepts 1#8 ∧ part.anyEmergency = false ∧ part.csc.directory.length = 63 ∧ 62 < (63#8 : Octet).toNat) ∧
      (p.accepts 1#8 ∧ p.anyEmergency = false ∧ p.csc.directory.length = 63 ∧ (62#8 : Octet).toNat ≤ 62 ∧
        (62#8 : Octet).toNat < protectedCount p.csc.level) ∧
      ∀ st ∈ [SlotState.empty, .ready, .damaged],
        (s st).accepts 1#8 ∧ (s st).anyEmergency = false ∧ (s st).csc.directory.length = 63 ∧
          protectedCount (s st).csc.level ≤ (62#8 : Octet).toNat ∧ (s st).slotInPlay (62#8 : Octet).toNat = false ∧
          (s st).csc.erase = none ∧ (∀ x ∈ (s st).csc.settings, x.level = none) ∧
            ((s st).dirEntry (62#8 : Octet).toNat).state = st := by decide

/-- Of `UploadsEndAndSlotsAreErased`. -/
theorem witness_erase_slot_busy :
    let a := withCsc fun c => { c with directory := c.directory.set 62 ⟨.writing, false, 3, [], 0#32⟩, upload := some upload }
    let c := withCsc fun c => { c with settings := some ⟨Settings.default, false, 1, some 7, some 2#8⟩ }
    let d := withCsc fun c => { c with erase := some ⟨0, 0, some 3#8⟩ }
    let e := withPlayer fun x => { x with state := .playing, item := some 0, progress := .clip 62 3 0 0 }
    (a.dirEntry (62#8 : Octet).toNat).state = .writing ∧ (∃ x ∈ c.csc.settings, x.level ≠ none) ∧ d.csc.erase ≠ none ∧
      e.slotInPlay (62#8 : Octet).toNat = true ∧ (62#8 : Octet).toNat ≤ 62 ∧
      ∀ s ∈ [a, c, d, e],
        s.accepts 1#8 ∧ s.anyEmergency = false ∧ s.csc.directory.length = 63 ∧
          protectedCount s.csc.level ≤ (62#8 : Octet).toNat := by decide

/-- Of `SettingsWritesStart`. -/
theorem witness_settings_write :
    let s := withUpload id
    let m := { part with pins := { part.pins with maint := true } }
    (s.accepts 1#8 ∧ (s.csc.upload ≠ none ∨ s.csc.settings ≠ none)) ∧
      (part.accepts 1#8 ∧ part.csc.upload = none ∧ part.csc.settings = none ∧ 7 < (8#8 : Octet).toNat ∧
        (7#8 : Octet).toNat ≤ 7 ∧
        part.pins.maint = false) ∧
      m.accepts 1#8 ∧ m.pins.maint = true ∧ m.csc.upload = none ∧ m.csc.erase = none ∧ m.csc.settings = none ∧
      (0#8 : Octet).toNat = m.csc.level ∧ (7#8 : Octet).toNat ≠ m.csc.level := by decide

/-- Of `SettingsWritesStart`. -/
theorem witness_settings_write_busy :
    let m := { part with pins := { part.pins with maint := true } }
    let s := fun f : Csc → Csc => m.modCsc f
    ∀ f ∈ [fun c : Csc => { c with upload := some upload }, fun c => { c with erase := some ⟨62, 0, some 3#8⟩ },
        fun c => { c with settings := some ⟨Settings.default, false, 1, none, some 2#8⟩ }],
      (s f).accepts 1#8 ∧ (7#8 : Octet).toNat ≤ 7 ∧ (s f).pins.maint = true ∧
        ((s f).csc.upload ≠ none ∨ (s f).csc.erase ≠ none ∨ (s f).csc.settings ≠ none) := by decide

/-- Of `ReadRequestsChangeNothing`. -/
theorem witness_reads :
    part.accepts 1#8 ∧ part.n ≤ 24 ∧ ((3#8 : Octet).toNat < 1 ∨ part.n < (3#8 : Octet).toNat) ∧ 1 ≤ (2#8 : Octet).toNat ∧
      (2#8 : Octet).toNat ≤ part.n ∧ 8 < (9#8 : Octet).toNat ∧ (8#8 : Octet).toNat ≤ 8 ∧ 4 < (5#8 : Octet).toNat ∧
      (4#8 : Octet).toNat ≤ 4 ∧ 96 < (95#8 : Octet).toNat + (2#8 : Octet).toNat ∧
        (95#8 : Octet).toNat + (1#8 : Octet).toNat ≤ 96 ∧
      63 < (62#8 : Octet).toNat + (2#8 : Octet).toNat ∧ (47#8 : Octet).toNat + (16#8 : Octet).toNat ≤ 63 := by decide

/-! ### Witnesses. The laws: a running part with active units meets them -/

/-- Of `EveryStepKeepsTheFlashCanonical`. -/
theorem witness_law_wf : active.flash.wf := by unfold Flash.wf; decide

/-- Of `EveryStepKeepsTheLinkLaw`. -/
theorem witness_law_link : active.clp.linkLaw := by unfold Clp.linkLaw; decide

/-- Of `EveryWaitingRequestIsOwedItsReply`. -/
theorem witness_law_owed : active.owedLaw := by unfold State.owedLaw State.startUpLaw Upload.sound; decide

/-- Of `EveryStepKeepsTheLoopLaws`. -/
theorem witness_law_serving :
    active.servingLaw ∧ active.alignmentLaw := by unfold State.alignmentLaw State.servingLaw RuEntry.servingLaw; decide

/-- Of `EveryStepKeepsTheEmergencyLaw`. -/
theorem witness_law_emergency :
    let s := emergency.modZmg fun z => { z with latch := true, zones := z.zones.map fun x => { x with mode := .emergency } }
    s.emergencyLaw ∧ s.clp.part = .running ∧ s.zmg.latch = true ∧ 1 ∈ List.range s.n :=
  by unfold State.emergencyLaw State.startUpLaw; decide

/-- Of `EveryStepKeepsTheBudgetLaw`. -/
theorem witness_law_budget :
    let s := { active with zmg := { active.zmg with zones := [⟨0, .emergency⟩, ⟨0, .emergency⟩] } }
    let t := (s.recompute 0).recompute 1
    t.budgetLaw ∧ 0 ∈ List.range t.n ∧ t.isActive 0 = true ∧ t.modeOf 0 = .emergency := by unfold State.budgetLaw; decide

/-- Of `EveryStepKeepsTheVoterLaw`. -/
theorem witness_law_voter :
    let s := withChannel fun ch =>
        { ch with cfg := { ch.cfg with enabled := true, coverage := 3#24 }, state := .up, source := some 1 }
    s.voterLaw := by unfold State.voterLaw; decide

/-- Of `EveryStepKeepsTheGateLaws`. -/
theorem witness_law_gates : active.capacityLaw ∧ active.gateLaw := by unfold State.capacityLaw State.gateLaw; decide

/-- Of `EveryStepKeepsTheBreakInLaws`. -/
theorem witness_law_break_in :
    let s := (withLive fun q => { q with state := .playing, priority := some 9, target := 1#24 }).modBim fun b =>
      { b with activation := [.live], winners := [some .live, none] }
    s.priorityLaw ∧ s.breakInLaw ∧ s.restLaw := by unfold State.priorityLaw State.breakInLaw State.restLaw; decide

/-- Of `ProtectedSlotsAreNeverWritten`. -/
theorem witness_law_protection :
    let s := (withUpload id).modCsc fun c => { c with level := 6 }
    s.protectionLaw ∧ 31 < protectedCount s.csc.level := by unfold State.protectionLaw State.startUpLaw; decide

/-- Of `EveryStepKeepsTheWritingLaw`. -/
theorem witness_law_writing :
    let s := (withUpload id).modCsc fun c => { c with directory := c.directory.set 62 ⟨.writing, false, 3, [], 0#32⟩ }
    s.writingLaw := by unfold State.writingLaw; decide

end Sys2Proof.Tests
end

section
/-! SUPPORT. What the work of the blocks leaves unchanged: the state with the fields that a block writes masked out, and the notice
marks that only grow. One lemma per operation; the steps of the frame close, the epoch boundary and the re-form cite them. -/

namespace Sys2Proof.Machine

/-! ### Marks that grow, and fields that stand -/

/-- Every channel and unit that is marked stays marked, and so does the incident source. -/
structure Marks.Grow (m k : Marks) : Prop where
  channel : ∀ c, m.channel.getLsbD c = true → k.channel.getLsbD c = true
  ru : ∀ i, m.ru.getLsbD i = true → k.ru.getLsbD i = true
  incident : m.incident = true → k.incident = true

/-- The marks of the units alone. -/
def Marks.ruAlone (m : Marks) : Marks := { Marks.clear with ru := m.ru }

/-- A change that keeps the projection `p` of the state and clears no channel's and no unit's mark, nor the incident's. -/
structure State.Grows {α : Type} (p : State → α) (s t : State) : Prop where
  same : p t = p s
  marks : s.clp.marks.Grow t.clp.marks

theorem Marks.Grow.trans {m k l : Marks} (h : m.Grow k) (h' : k.Grow l) : m.Grow l :=
  ⟨fun c hc => h'.channel c (h.channel c hc), fun i hi => h'.ru i (h.ru i hi), fun hi => h'.incident (h.incident hi)⟩

theorem Marks.Grow.refl (m : Marks) : m.Grow m := ⟨fun _ h => h, fun _ h => h, fun h => h⟩

section
variable {α : Type} {p : State → α} {s t u : State}

theorem State.Grows.refl (s : State) : State.Grows p s s := ⟨rfl, .refl _⟩

theorem State.Grows.trans (h : State.Grows p s t) (k : State.Grows p t u) : State.Grows p s u :=
  ⟨k.same.trans h.same, h.marks.trans k.marks⟩

/-- What a projection keeps, a function of it keeps. -/
theorem State.Grows.map {β : Type} {q : State → β} (h : State.Grows p s t) (g : α → β) (hq : ∀ v, q v = g (p v)) :
    State.Grows q s t :=
  ⟨by rw [hq, hq, h.same], h.marks⟩

theorem State.Grows.each {f : State → Nat → State} {l : List Nat} (hf : ∀ v, ∀ i ∈ l, State.Grows p v (f v i)) :
    State.Grows p s (s.each l f) :=
  State.each_keeps (P := State.Grows p s) (fun v i hi h => h.trans (hf v i hi)) (.refl s)

theorem State.Grows.markIf {b : Bool} {f : State → State} (hf : State.Grows p s (f s)) : State.Grows p s (s.markIf b f) := by
  cases b
  · exact .refl s
  · exact hf

/-- One number's part in a loop over numbers: where the steps at all other numbers keep `p`, the loop makes of `p` what the step at
that number makes of it. -/
theorem State.each_at {β : Type} (q : State → β) {f : State → Nat → State} {l : List Nat} {i : Nat} (hl : l.Nodup) (hi : i ∈ l)
    (hp : ∀ v, ∀ j ∈ l, State.Grows p v (f v j))
    (hq : ∀ v, p v = p s → ∀ j ∈ l, j ≠ i → q (f v j) = q v) :
    ∃ v, State.Grows p s v ∧ q v = q s ∧ State.Grows p (f v i) (s.each l f) ∧ q (s.each l f) = q (f v i) := by
  obtain ⟨l₁, l₂, rfl⟩ := List.append_of_mem hi
  obtain ⟨-, hn2, hdis⟩ := List.nodup_append.1 hl
  have hi2 : i ∉ l₂ := (List.nodup_cons.1 hn2).1
  have keeps : ∀ (m : List Nat) (v : State), m ⊆ l₁ ++ i :: l₂ → i ∉ m → p v = p s →
      State.Grows p v (v.each m f) ∧ q (v.each m f) = q v := by
    intro m
    induction m with
    | nil => exact fun v _ _ _ => ⟨.refl v, rfl⟩
    | cons j m ih =>
      intro v hm hj hv
      have hjl := hm List.mem_cons_self
      have h1 := hp v j hjl
      obtain ⟨h2, h3⟩ := ih (f v j) (fun x hx => hm (List.mem_cons_of_mem j hx)) (fun h => hj (List.mem_cons_of_mem j h))
        (h1.same.trans hv)
      exact ⟨h1.trans h2, h3.trans (hq v hv j hjl fun h => hj (h ▸ List.mem_cons_self))⟩
  have first := keeps l₁ s (fun x hx => List.mem_append_left _ hx) (fun h => (hdis i h i List.mem_cons_self) rfl) rfl
  have here := hp (s.each l₁ f) i hi
  have last := keeps l₂ (f (s.each l₁ f) i) (fun x hx => List.mem_append_right _ (List.mem_cons_of_mem i hx)) hi2
    (here.same.trans first.1.same)
  exact ⟨s.each l₁ f, first.1, first.2, by rw [State.each_append]; exact last.1, by rw [State.each_append]; exact last.2⟩

end

/-- Adding to the marks of other sources than the units changes those marks alone. -/
theorem State.Grows.modMarks {α : Type} {p : State → α} {s : State} {f : Marks → Marks} (hp : p (s.modMarks f) = p s)
    (hf : s.clp.marks.Grow (f s.clp.marks)) : State.Grows p s (s.modMarks f) := ⟨hp, hf⟩

theorem Marks.Grow.addChannel (m : Marks) (x : BitVec 8) : m.Grow { m with channel := m.channel ||| x } :=
  ⟨fun c h => by simp [BitVec.getLsbD_or, h], fun _ h => h, fun h => h⟩

theorem Marks.Grow.addRu (m : Marks) (x : BitVec 24) : m.Grow { m with ru := m.ru ||| x } :=
  ⟨fun _ h => h, fun i h => by simp [BitVec.getLsbD_or, h], fun h => h⟩

/-! ### The power engine, the relay and the voter (R73, R76, R99) -/

/-- The state without the allocation records and the notice marks of other sources than the units. -/
def State.sansAllocs (s : State) : State :=
  { s with pbe := { s.pbe with allocs := [] }, clp := { s.clp with marks := s.clp.marks.ruAlone } }

/-- The state without the allocation records, the channels and the notice marks of other sources than the units. -/
def State.sansRelay (s : State) : State :=
  { s.sansAllocs with channels := s.channels.map fun _ => Channel.initial ChanCfg.default }

theorem State.Grows.relay {s t : State} (h : State.Grows State.sansAllocs s t) : State.Grows State.sansRelay s t :=
  h.map (fun v => { v with channels := v.channels.map fun _ => Channel.initial ChanCfg.default }) fun _ => rfl

theorem State.holdRecord_grows (s : State) (i : Nat) (r : AllocRecord) : State.Grows State.sansAllocs s (s.holdRecord i r) := by
  rw [State.holdRecord_eq]
  exact ⟨rfl, fun _ h => h, fun _ h => h, fun h => h⟩

theorem State.recompute_grows (s : State) (i : Nat) : State.Grows State.sansAllocs s (s.recompute i) := s.holdRecord_grows i _

theorem State.recomputeActive_grows (s : State) (i : Nat) : State.Grows State.sansAllocs s (s.recomputeActive i) := by
  unfold State.recomputeActive
  split
  · exact s.recompute_grows i
  · exact .refl s

theorem State.reportRadiating_grows (s : State) (c : Nat) (before : ZoneSet) :
    State.Grows State.sansAllocs s (s.reportRadiating c before) :=
  .each fun v i _ => v.recomputeActive_grows i

theorem State.markChannel_grows (s : State) (c : Nat) : State.Grows State.sansAllocs s (s.markChannel c) :=
  .modMarks rfl (.addChannel _ _)

theorem State.powerModes_grows (s relay : State) (z : ZoneSet) : State.Grows State.sansAllocs s (s.powerModes relay z) :=
  .each fun v i _ => v.holdRecord_grows i _

theorem State.relayModes_grows (s old : State) (z : ZoneSet) : State.Grows State.sansAllocs s (s.relayModes old z) :=
  .each fun v c _ => by
    dsimp only
    split
    · exact .refl v
    · exact State.Grows.trans (.markIf (v.markChannel_grows c)) (State.reportRadiating_grows _ c _)

theorem State.powerAndRelay_grows (s old : State) (z : ZoneSet) : State.Grows State.sansAllocs s (s.powerAndRelay old z) := by
  unfold State.powerAndRelay
  split
  · exact (s.relayModes_grows old z).trans (State.powerModes_grows _ s z)
  · exact (s.powerModes_grows old z).trans (State.relayModes_grows _ old z)

/-- The state that work on a channel leaves before its power reports. -/
theorem State.workChannel_eq (s : State) (c : Nat) (f : ChanWork → ChanWork) :
    s.workChannel c f =
      (({ s with channels := s.channels.set c (f ⟨s.channel c, false⟩).ch } : State).markIf (f ⟨s.channel c, false⟩).mark
        (·.markChannel c)).reportRadiating c (s.radiating (s.channel c)) := rfl

theorem State.workChannel_grows (s : State) (c : Nat) (f : ChanWork → ChanWork) :
    State.Grows State.sansRelay s (s.workChannel c f) := by
  have written : State.Grows State.sansRelay s { s with channels := s.channels.set c (f ⟨s.channel c, false⟩).ch } :=
    ⟨by simp [State.sansRelay, State.sansAllocs, List.map_const'], .refl _⟩
  rw [State.workChannel_eq]
  exact written.trans (State.Grows.trans (.markIf (State.markChannel_grows _ c)) (State.reportRadiating_grows _ c _)).relay

theorem State.votersLeave_grows (s : State) (i : Nat) : State.Grows State.sansRelay s (s.votersLeave i) :=
  .each fun v c _ => v.workChannel_grows c _

theorem State.channelFrame_grows (s : State) (b c : Nat) : State.Grows State.sansRelay s (s.channelFrame b c) := by
  unfold State.channelFrame
  split
  · exact s.workChannel_grows c _
  · exact .refl s

theorem State.channelFrames_grows (s : State) (b : Nat) : State.Grows State.sansRelay s (s.channelFrames b) :=
  .each fun v c _ => v.channelFrame_grows b c

/-! ### The gates (R122 to R124, R126) -/

/-- The state without the bands' records and the notice marks of other sources than the units. -/
def State.sansGates (s : State) : State :=
  { s with
    bands := s.bands.map fun _ => Band.initial 0 BandCfg.default
    clp := { s.clp with marks := s.clp.marks.ruAlone } }

theorem State.workBand_grows (s : State) (b : Nat) (f : BandWork → BandWork) : State.Grows State.sansGates s (s.workBand b f) := by
  rw [State.workBand_eq]
  exact ⟨by simp [State.sansGates, List.map_const', Marks.ruAlone], ⟨fun _ h => h, fun _ h => h, fun h => h⟩⟩

theorem State.gatesEnter_grows (s : State) (i : Nat) : State.Grows State.sansGates s (s.gatesEnter i) :=
  .each fun v b _ => by
    split
    · exact v.workBand_grows b _
    · exact .refl v

theorem State.gatesLeave_grows (s : State) (i : Nat) : State.Grows State.sansGates s (s.gatesLeave i) :=
  .each fun v b _ => v.workBand_grows b _

theorem State.forceGates_grows (s : State) (z : ZoneSet) : State.Grows State.sansGates s (s.forceGates z) :=
  .each fun _ _ _ => .each fun v b _ => by
    split
    · exact v.workBand_grows b _
    · exact .refl v

theorem State.bandFrames_grows (s : State) (b : Nat) : State.Grows State.sansGates s (s.bandFrames b) :=
  .each fun v k _ => v.workBand_grows k _

/-! ### The RU table (R25) -/

/-- The state without the entries of the RU table and all notice marks; the chain length stays. -/
def State.sansUnits (s : State) : State :=
  { s with
    lpc := { s.lpc with rus := s.lpc.rus.map fun _ => RuEntry.initial 0#32 .a }
    clp := { s.clp with marks := Marks.clear } }

theorem State.modRu_grows (s : State) (i : Nat) (f : RuEntry → RuEntry) : State.Grows State.sansUnits s (s.modRu i f) :=
  ⟨by simp [State.sansUnits, List.map_const'], .refl _⟩

theorem State.markRu_grows (s : State) (i : Nat) : State.Grows State.sansUnits s (s.markRu i) := by
  unfold State.markRu
  split
  · exact .modMarks rfl (.addRu _ _)
  · exact .refl s

theorem State.workRu_grows (s : State) (i : Nat) (f : RuEntry → RuEntry) : State.Grows State.sansUnits s (s.workRu i f) :=
  (s.modRu_grows i f).trans (State.markRu_grows _ i)

/-! ### The stages of the frame close (R6 to R21) -/

/-- The state without what the loop, the engine, the relay, the voter and the gates write at a unit's standing. -/
def State.sansLoop (s : State) : State :=
  { s.sansUnits with
    pbe := { s.pbe with allocs := [] }
    channels := s.channels.map fun _ => Channel.initial ChanCfg.default
    bands := s.bands.map fun _ => Band.initial 0 BandCfg.default }

theorem State.Grows.loopOfUnits {s t : State} (h : State.Grows State.sansUnits s t) : State.Grows State.sansLoop s t :=
  h.map (fun v => { v with
    pbe := { v.pbe with allocs := [] }
    channels := v.channels.map fun _ => Channel.initial ChanCfg.default
    bands := v.bands.map fun _ => Band.initial 0 BandCfg.default }) fun _ => rfl

theorem State.Grows.loopOfRelay {s t : State} (h : State.Grows State.sansRelay s t) : State.Grows State.sansLoop s t :=
  h.map (fun v => { v.sansUnits with bands := v.bands.map fun _ => Band.initial 0 BandCfg.default }) fun _ => rfl

theorem State.Grows.loopOfGates {s t : State} (h : State.Grows State.sansGates s t) : State.Grows State.sansLoop s t :=
  h.map (fun v => { v.sansUnits with
    pbe := { v.pbe with allocs := [] }
    channels := v.channels.map fun _ => Channel.initial ChanCfg.default }) fun _ => rfl

theorem State.enterActive_grows (s : State) (i : Nat) : State.Grows State.sansLoop s (s.enterActive i) :=
  ((s.modRu_grows i _).loopOfUnits.trans (State.recompute_grows _ i).relay.loopOfRelay).trans
    (State.gatesEnter_grows _ i).loopOfGates

theorem State.leaveActive_grows (s : State) (i : Nat) : State.Grows State.sansLoop s (s.leaveActive i) :=
  ((((s.modRu_grows i _).trans (.markIf (State.markRu_grows _ i))).loopOfUnits.trans
    (State.recompute_grows _ i).relay.loopOfRelay).trans (State.votersLeave_grows _ i).loopOfRelay).trans
      (State.gatesLeave_grows _ i).loopOfGates

theorem State.lose_grows (s : State) (i : Nat) : State.Grows State.sansLoop s (s.lose i) := by
  unfold State.lose
  dsimp only
  split
  · exact (s.workRu_grows i _).loopOfUnits.trans (State.leaveActive_grows _ i)
  · exact (s.workRu_grows i _).loopOfUnits

theorem State.standing_grows (s : State) (b i : Nat) : State.Grows State.sansLoop s (s.standing b i) := by
  have join := (s.workRu_grows i RuEntry.join).loopOfUnits
  have lose := s.lose_grows i
  have stay := State.Grows.refl (p := State.sansLoop) s
  unfold State.standing
  dsimp only
  split
  · split <;> assumption
  · split <;> assumption
  · split <;> assumption
  · split
    · exact lose
    · split
      · exact stay
      · exact (s.modRu_grows i _).loopOfUnits
  · split
    · exact lose
    · split
      · exact stay
      · split
        · exact (s.modRu_grows i _).loopOfUnits
        · exact (s.workRu_grows i _).loopOfUnits

theorem State.completeRead_grows (s : State) (i : Nat) (x : BitVec 32) : State.Grows State.sansLoop s (s.completeRead i x) := by
  unfold State.completeRead
  dsimp only
  split
  · exact (s.workRu_grows i _).loopOfUnits.trans (State.enterActive_grows _ i)
  · exact (s.workRu_grows i _).loopOfUnits

theorem State.readFrame_grows (s : State) (i : Nat) (a : Option Answer) : State.Grows State.sansLoop s (s.readFrame i a) := by
  unfold State.readFrame State.takePart
  dsimp only
  repeat' split
  · exact (s.modRu_grows i _).loopOfUnits
  · exact (s.modRu_grows i _).loopOfUnits
  · exact s.completeRead_grows i _

theorem State.stage3_grows (s : State) (b : Nat) (f : FrameInput) (i : Nat) : State.Grows State.sansLoop s (s.stage3 b f i) := by
  unfold State.stage3
  dsimp only
  split
  · split
    · exact s.readFrame_grows i _
    · exact .refl s
  · split
    · exact (s.standing_grows b i).trans (State.workRu_grows _ i _).loopOfUnits
    · exact s.standing_grows b i

theorem State.stage4_grows (s : State) (f : FrameInput) (i : Nat) : State.Grows State.sansLoop s (s.stage4 f i) := by
  unfold State.stage4
  dsimp only
  repeat' split
  · exact .refl s
  · exact (s.modRu_grows i _).loopOfUnits
  · exact ((s.modRu_grows i _).trans (State.markRu_grows _ i)).loopOfUnits.trans (State.recomputeActive_grows _ i).relay.loopOfRelay
  · exact .refl s

end Sys2Proof.Machine
end

section
/-! SUPPORT. What the beginning of an emergency and the ALARM input leave unchanged (R48, R51 to R53, R156, R169), and the frame close
taken apart: the sample, an expiry of the alarm timer before or after the close of the blocks, and the outputs. -/

namespace Sys2Proof.Machine

/-! ### The players' takeover and the upload given up -/

/-- The state without what the mixer, the players and the directory write as a run or an upload ends or begins. -/
def State.sansPlayers (s : State) : State :=
  { s with
    bim := ⟨[], [], []⟩
    apl := { s.apl with players := [] }
    csc := { Csc.initial with level := s.csc.level, settings := s.csc.settings, upload := s.csc.upload }
    clp := { s.clp with marks := s.clp.marks.ruAlone } }

theorem State.workPlayer_grows (s : State) (p : Nat) (f : Player → Player) :
    State.Grows State.sansPlayers s (s.workPlayer p f) := by
  rw [State.workPlayer_eq]
  exact ⟨rfl, fun _ h => h, fun _ h => h, fun h => h⟩

theorem State.markPlayer_grows (s : State) (p : Nat) : State.Grows State.sansPlayers s (s.markPlayer p) :=
  ⟨rfl, fun _ h => h, fun _ h => h, fun h => h⟩

theorem State.modBim_grows (s : State) (f : Bim → Bim) : State.Grows State.sansPlayers s (s.modBim f) := ⟨rfl, .refl _⟩

/-- A change of the clip store that keeps the protection level, the settings job and the upload. -/
theorem State.modCsc_grows (s : State) {f : Csc → Csc} (hl : (f s.csc).level = s.csc.level)
    (hs : (f s.csc).settings = s.csc.settings) (hu : (f s.csc).upload = s.csc.upload) :
    State.Grows State.sansPlayers s (s.modCsc f) :=
  ⟨by simp [State.sansPlayers, hl, hs, hu], .refl _⟩

theorem State.orphanRead_grows (s : State) (p : Nat) : State.Grows State.sansPlayers s (s.orphanRead p) :=
  s.modCsc_grows rfl rfl rfl

theorem State.endPlayer_grows (s : State) (p : Nat) (r : PlayEndReason) : State.Grows State.sansPlayers s (s.endPlayer p r) := by
  have leave : ∀ v : State, State.Grows State.sansPlayers v (v.deactivate (.player p)) := fun v => by
    unfold State.deactivate
    exact (v.modBim_grows _).trans (.markIf (State.markPlayer_grows _ p))
  exact (((s.orphanRead_grows p).trans (State.workPlayer_grows _ p _)).trans (leave _)).trans (State.markPlayer_grows _ p)

theorem State.walkFrom_grows (s : State) (p : Nat) (start : Option Nat) (pends : Bool) :
    State.Grows State.sansPlayers s (s.walkFrom p start pends) := by
  refine (s.orphanRead_grows p).trans ?_
  unfold State.walkFrom
  dsimp only
  split
  · exact State.workPlayer_grows _ p _
  · exact State.workPlayer_grows _ p _
  · split
    · exact State.workPlayer_grows _ p _
    · exact (State.workPlayer_grows _ p _).trans (State.endPlayer_grows _ p _)

theorem State.startPlayer_grows (s : State) (p prio : Nat) (b : Binding) (head : Nat) :
    State.Grows State.sansPlayers s (s.startPlayer p prio b head) := by
  exact ((s.workPlayer_grows p _).trans (State.modBim_grows _ _)).trans (State.walkFrom_grows _ p _ _)

theorem State.evacuate_grows (s : State) (p : Nat) : State.Grows State.sansPlayers s (s.evacuate p) := by
  unfold State.evacuate
  dsimp only
  split
  · exact (s.workPlayer_grows p _).trans (State.markPlayer_grows _ p)
  · exact s.startPlayer_grows p _ _ _

theorem State.takeOver_grows (s : State) (p : Nat) : State.Grows State.sansPlayers s (s.takeOver p) := by
  unfold State.takeOver
  split
  · exact (s.endPlayer_grows p _).trans (State.evacuate_grows _ p)
  · exact s.evacuate_grows p

theorem State.evacuationStart_grows (s : State) : State.Grows State.sansPlayers s s.evacuationStart :=
  .each fun v p _ => v.takeOver_grows p

/-- The same, without the upload and the slots and replies of the control link: an upload that is given up answers the requests
that it owes. -/
def State.sansUpload (s : State) : State :=
  { s.sansPlayers with
    csc := { Csc.initial with level := s.csc.level, settings := s.csc.settings }
    clp := { s.clp with marks := s.clp.marks.ruAlone, slots := [], replies := [] } }

theorem State.Grows.upload {s t : State} (h : State.Grows State.sansPlayers s t) : State.Grows State.sansUpload s t :=
  h.map (fun v => { v with
    csc := { v.csc with upload := none }
    clp := { v.clp with slots := [], replies := [] } }) fun _ => rfl

theorem State.setDir_grows (s : State) (slot : Nat) (f : DirEntry → DirEntry) :
    State.Grows State.sansPlayers s (s.setDir slot f) := by
  have mark : ∀ v : State, State.Grows State.sansPlayers v v.markDirectory := fun v => ⟨rfl, fun _ h => h, fun _ h => h, fun h => h⟩
  unfold State.setDir
  dsimp only
  split
  · exact ((s.modCsc_grows rfl rfl rfl).trans (.markIf (mark _))).trans (.each fun v p _ => v.workPlayer_grows p _)
  · exact (s.modCsc_grows rfl rfl rfl).trans (.markIf (mark _))

theorem State.answer_grows (s : State) (tag : Octet) (st : Status) (fields : List Octet) :
    State.Grows State.sansUpload s (s.answer tag st fields) := by
  rw [State.answer_eq]
  exact ⟨rfl, .refl _⟩

theorem State.answerOpt_grows (s : State) (tag : Option Octet) (st : Status) (fields : List Octet) :
    State.Grows State.sansUpload s (s.answerOpt tag st fields) := by
  cases tag with
  | none => exact .refl s
  | some t => exact s.answer_grows t st fields

theorem State.answerWaiting_grows (s : State) (ws : List WaitingData) (st : Status) :
    State.Grows State.sansUpload s (s.answerWaiting ws st) := by
  induction ws generalizing s with
  | nil => exact .refl s
  | cons w ws ih => exact (s.answer_grows w.tag st []).trans (ih _)

/-- The directory's part of an upload that is given up: its slot is DAMAGED. -/
def State.damaged (s : State) (slot : Nat) : State := if (s.dirEntry slot).state = .damaged then s else s.damage slot

theorem State.damaged_grows (s : State) (slot : Nat) : State.Grows State.sansPlayers s (s.damaged slot) := by
  unfold State.damaged
  split
  · exact .refl s
  · exact s.setDir_grows slot _

theorem State.abortUpload_of_none {s : State} (h : s.csc.upload = none) : s.abortUpload = s := by simp only [State.abortUpload, h]

theorem State.abortUpload_of_some {s : State} {u : Upload} (h : s.csc.upload = some u) :
    s.abortUpload =
      ((((s.damaged u.slot).answerOpt u.beginTag .aborted []).answerWaiting u.waiting .aborted).answerOpt u.endTag .aborted
        []).endUpload := by
  simp only [State.abortUpload, h, State.damaged]

theorem State.abortUpload_grows (s : State) : State.Grows State.sansUpload s s.abortUpload := by
  cases h : s.csc.upload with
  | none => rw [State.abortUpload_of_none h]; exact .refl s
  | some u =>
    have ended : ∀ v : State, State.Grows State.sansUpload v v.endUpload := fun v => ⟨rfl, fun _ h => h, fun _ h => h, fun h => h⟩
    rw [State.abortUpload_of_some h]
    exact ((((s.damaged_grows u.slot).upload.trans (State.answerOpt_grows _ _ _ _)).trans
      (State.answerWaiting_grows _ _ _)).trans (State.answerOpt_grows _ _ _ _)).trans (ended _)

/-! ### A mode change set to EMERGENCY (R48) and the ALARM input -/

/-- The zones of a mode change set to EMERGENCY have changed mode, with the count and the mark (R48), and the engine, the relay and
the gates have taken the set. -/
def State.emergencyTaken (s : State) (zones : ZoneSet) : State :=
  ((((s.setModes zones .emergency).modZmg fun z => { z with changes := wrapInc z.changes }).markIncident).powerAndRelay s
    zones).forceGates zones

theorem State.emergencySet_eq (s : State) (zones : ZoneSet) :
    s.emergencySet zones =
      if s.anyEmergency then s.emergencyTaken zones else (s.emergencyTaken zones).evacuationStart.abortUpload := by
  unfold State.emergencySet State.emergencyTaken
  cases s.anyEmergency <;> rfl

/-- The state without all that the ALARM input and the emergency it begins write. -/
def State.sansAlarm (s : State) : State :=
  { s.sansUpload with
    pbe := { s.pbe with allocs := [] }
    bands := s.bands.map fun _ => Band.initial 0 BandCfg.default
    zmg := ⟨[], 0, 0, 0#24, false, false, none, 0, none, EvacPlan.default⟩ }

theorem State.Grows.alarmOfUpload {s t : State} (h : State.Grows State.sansUpload s t) : State.Grows State.sansAlarm s t :=
  h.map (fun v => { v with
    pbe := { v.pbe with allocs := [] }
    bands := v.bands.map fun _ => Band.initial 0 BandCfg.default
    zmg := ⟨[], 0, 0, 0#24, false, false, none, 0, none, EvacPlan.default⟩ }) fun _ => rfl

theorem State.Grows.alarmOfAllocs {s t : State} (h : State.Grows State.sansAllocs s t) : State.Grows State.sansAlarm s t :=
  h.map (fun v => { v.sansUpload with
    bands := v.bands.map fun _ => Band.initial 0 BandCfg.default
    zmg := ⟨[], 0, 0, 0#24, false, false, none, 0, none, EvacPlan.default⟩ }) fun _ => rfl

theorem State.Grows.alarmOfGates {s t : State} (h : State.Grows State.sansGates s t) : State.Grows State.sansAlarm s t :=
  h.map (fun v => { v.sansUpload with
    pbe := { v.pbe with allocs := [] }
    zmg := ⟨[], 0, 0, 0#24, false, false, none, 0, none, EvacPlan.default⟩ }) fun _ => rfl

theorem State.modZmg_grows (s : State) (f : Zmg → Zmg) : State.Grows State.sansAlarm s (s.modZmg f) := ⟨rfl, .refl _⟩

theorem State.markIncident_grows (s : State) : State.Grows State.sansAlarm s s.markIncident :=
  ⟨rfl, fun _ h => h, fun _ h => h, fun _ => rfl⟩

theorem State.emergencyTaken_grows (s : State) (z : ZoneSet) : State.Grows State.sansAlarm s (s.emergencyTaken z) :=
  (((s.modZmg_grows _).trans (State.modZmg_grows _ _)).trans (State.markIncident_grows _)).trans
    ((State.powerAndRelay_grows _ s z).alarmOfAllocs.trans (State.forceGates_grows _ z).alarmOfGates)

theorem State.applyEmergency_grows (s : State) : State.Grows State.sansAlarm s s.applyEmergency := by
  unfold State.applyEmergency
  dsimp only
  split
  · exact .refl s
  · rw [State.emergencySet_eq]
    split
    · exact s.emergencyTaken_grows _
    · exact (s.emergencyTaken_grows _).trans
        ((State.evacuationStart_grows _).upload.trans (State.abortUpload_grows _)).alarmOfUpload

theorem State.alarmFires_grows (s : State) : State.Grows State.sansAlarm s s.alarmFires := by
  unfold State.alarmFires
  dsimp only
  split
  · exact s.modZmg_grows _
  · exact (((s.modZmg_grows _).trans (State.modZmg_grows _ _)).trans (State.markIncident_grows _)).trans
      (State.applyEmergency_grows _)

theorem State.alarmSample_grows (s : State) (b : Nat) (level : Bool) : State.Grows State.sansAlarm s (s.alarmSample b level) :=
  (s.modZmg_grows _).trans (.markIf (State.markIncident_grows _))

/-! ### The frame close, taken apart (R6) -/

/-- The MAINT input of a loop frame taken, and the ALARM input sampled. -/
def State.sampled (s : State) (f : FrameInput) : State :=
  ({ s with pins := { s.pins with maint := f.maint } } : State).alarmSample (s.now + 1) f.alarm

/-- The frame close is that of the blocks, with the ALARM input and an expiry of its timer before or after it. -/
theorem State.frameClose_cases (s : State) (f : FrameInput) :
    ∃ t v, State.Grows State.sansAlarm { s with pins := { s.pins with maint := f.maint } } t ∧
      State.Grows State.sansAlarm (t.closeFrame (s.now + 1) f) v ∧
      s.frameClose f = ({ v with now := s.now + 1 } : State).latchOutputs := by
  have sample := State.alarmSample_grows { s with pins := { s.pins with maint := f.maint } } (s.now + 1) f.alarm
  unfold State.frameClose State.closeWithAlarm
  dsimp only
  split
  · split
    · exact ⟨_, _, sample.trans (State.alarmFires_grows _), .refl _, rfl⟩
    · exact ⟨_, _, sample, State.alarmFires_grows _, rfl⟩
  · exact ⟨_, _, sample, .refl _, rfl⟩

theorem State.begun_iff (s : State) : s.begun = true ↔ s.power = .on ∧ s.loopOn = true := by
  simp [State.begun]

/-- LOOP_FRAME_CLOSE of a part that has begun is its frame close. -/
theorem exec_loopFrameClose {s : State} (f : FrameInput) (h : s.begun = true) :
    exec (.loopFrameClose f) s = .next (s.frameClose f).settle := by
  obtain ⟨on, -⟩ := s.begun_iff.1 h
  show s.whenOn (fun s => s.frameClose f) = _
  rw [State.whenOn, if_pos on]

end Sys2Proof.Machine
end

section
/-! SUPPORT. The RU table through a frame close (R6 to R19): what each stage makes of one entry, as a function of that entry, and the
notice marks of the entries that change standing. -/

namespace Sys2Proof.Machine

/-! ### One entry of the RU table replaced -/

/-- The RU table of `t` is that of `s` with `r` for its entry `i`. -/
def State.Puts (s t : State) (i : Nat) (r : RuEntry) : Prop := t.lpc = { s.lpc with rus := s.lpc.rus.set i r }

section
variable {s t u : State} {i j : Nat} {r r' : RuEntry}

theorem State.ru_eq (h : i < s.n) : s.ru i = s.lpc.rus[i]'h := by
  simp [State.ru, List.getD_eq_getElem?_getD, List.getElem?_eq_getElem h]

theorem State.ru_congr (h : t.lpc = s.lpc) (i : Nat) : t.ru i = s.ru i := by rw [State.ru, State.ru, h]

theorem State.Puts.n (h : s.Puts t i r) : t.n = s.n := by rw [State.n, State.n, h, List.length_set]

theorem State.Puts.ru (h : s.Puts t i r) (hi : i < s.n) : t.ru i = r := by
  have hi' : i < (s.lpc.rus.set i r).length := by simpa [State.n] using hi
  have ht : t.lpc.rus = s.lpc.rus.set i r := congrArg Lpc.rus h
  simp [State.ru, ht, List.getD_eq_getElem?_getD, List.getElem?_eq_getElem hi']

theorem State.Puts.ru_ne (h : s.Puts t i r) (hj : j ≠ i) : t.ru j = s.ru j := by
  have ht : t.lpc.rus = s.lpc.rus.set i r := congrArg Lpc.rus h
  simp [State.ru, ht, List.getD_eq_getElem?_getD, List.getElem?_set_ne hj.symm]

theorem State.Puts.refl (hi : i < s.n) : s.Puts s i (s.ru i) := by
  have same : s.lpc.rus.set i (s.ru i) = s.lpc.rus := by rw [State.ru_eq hi]; exact List.set_getElem_self hi
  simp only [State.Puts, same]

theorem State.Puts.trans (h : s.Puts t i r) (k : t.Puts u i r') : s.Puts u i r' := by
  rw [State.Puts, k, h, List.set_set]

/-- What follows without touching the loop leaves the entry put. -/
theorem State.Puts.keep (h : s.Puts t i r) (hu : u.lpc = t.lpc) : s.Puts u i r := hu.trans h

end

theorem State.modRu_puts (s : State) {i : Nat} (hi : i < s.n) (f : RuEntry → RuEntry) : s.Puts (s.modRu i f) i (f (s.ru i)) := by
  have hl : i < s.lpc.rus.length := hi
  have here : s.lpc.rus.modify i f = s.lpc.rus.set i (f (s.ru i)) := by
    rw [State.ru_eq hi, List.modify_eq_set_getElem?, List.getElem?_eq_getElem hl]
    rfl
  simp only [State.Puts, State.modRu_eq, here]

theorem State.markRu_lpc (s : State) (i : Nat) : (s.markRu i).lpc = s.lpc := by rw [State.markRu_eq]; rfl

theorem State.workRu_puts (s : State) {i : Nat} (hi : i < s.n) (f : RuEntry → RuEntry) :
    s.Puts (s.workRu i f) i (f (s.ru i)) :=
  (s.modRu_puts hi f).keep (State.markRu_lpc _ i)

/-- A unit whose entry is worked on is marked (R25). -/
theorem State.workRu_marked (s : State) {i : Nat} (hi : i < s.n) (h24 : i < 24) (f : RuEntry → RuEntry) :
    (s.workRu i f).clp.marks.ru.getLsbD i = true := by
  have hn : i < (s.modRu i f).n := (s.modRu_n i f).symm ▸ hi
  simp only [State.workRu, State.markRu_eq, if_pos hn]
  simp [h24]

/-! ### Entering and leaving ACTIVE (R21) -/

theorem State.Grows.lpc_relay {s t : State} (h : State.Grows State.sansRelay s t) : t.lpc = s.lpc :=
  show t.sansRelay.lpc = s.sansRelay.lpc by rw [h.same]

theorem State.Grows.lpc_gates {s t : State} (h : State.Grows State.sansGates s t) : t.lpc = s.lpc :=
  show t.sansGates.lpc = s.sansGates.lpc by rw [h.same]

theorem State.enterActive_puts (s : State) {i : Nat} (hi : i < s.n) :
    s.Puts (s.enterActive i) i { s.ru i with hold := some 0 } :=
  (s.modRu_puts hi fun r => { r with hold := some 0 }).keep
    ((State.gatesEnter_grows _ i).lpc_gates.trans (State.recompute_grows _ i).relay.lpc_relay)

theorem State.leaveActive_puts (s : State) {i : Nat} (hi : i < s.n) :
    s.Puts (s.leaveActive i) i { s.ru i with hold := none, aligned := false } :=
  (s.modRu_puts hi fun r => { r with hold := none, aligned := false }).keep
    (((State.gatesLeave_grows _ i).lpc_gates.trans (State.votersLeave_grows _ i).lpc_relay).trans
      ((State.recompute_grows _ i).relay.lpc_relay.trans (State.markIf_frame State.lpc (State.markRu_lpc _ i))))

/-! ### Stages 1 and 2 on one entry (R8, R9) -/

/-- The entry with one frame's answers on both ends. -/
def RuEntry.hearFrame (r : RuEntry) (f : FrameInput) (i : Nat) : RuEntry :=
  { r with onA := r.onA.take (answerOf f .a i), onB := r.onB.take (answerOf f .b i) }

/-- The entry with both reachable flags taking a value. -/
def RuEntry.setReaches (r : RuEntry) (a b : Bool) : RuEntry := { r with onA := r.onA.setReach a, onB := r.onB.setReach b }

theorem State.ru_of_zipIdx_map {s t : State} {g : RuEntry × Nat → RuEntry} {i : Nat} (h : t.lpc.rus = s.lpc.rus.zipIdx.map g)
    (hi : i < s.n) : t.ru i = g (s.ru i, i) := by
  have hl : i < s.lpc.rus.length := hi
  simp [State.ru, h, List.getD_eq_getElem?_getD, List.getElem?_eq_getElem hl]

theorem State.takeAnswers_n (s : State) (f : FrameInput) : (s.takeAnswers f).n = s.n := by simp [State.takeAnswers, State.n]

theorem State.takeAnswers_ru (s : State) (f : FrameInput) {i : Nat} (hi : i < s.n) :
    (s.takeAnswers f).ru i = (s.ru i).hearFrame f i :=
  State.ru_of_zipIdx_map (s := s)
    (g := fun x => { x.1 with onA := x.1.onA.take (answerOf f .a x.2), onB := x.1.onB.take (answerOf f .b x.2) }) rfl hi

/-- Reach changes the RU table alone, and marks. -/
theorem State.updateReach_lpc (s : State) :
    s.updateReach.lpc =
      ⟨s.lpc.rus.zipIdx.map fun x =>
          x.1.setReaches (decide (x.2 + 1 ≤ depth .a s.lpc.rus)) (decide (s.n ≤ x.2 + depth .b s.lpc.rus.reverse)),
        depth .a s.lpc.rus, depth .b s.lpc.rus.reverse⟩ := by
  unfold State.updateReach
  exact State.each_frame State.lpc fun v i _ => v.markRu_lpc i

theorem State.updateReach_n (s : State) : s.updateReach.n = s.n := by simp [State.n, State.updateReach_lpc]

theorem State.updateReach_ru (s : State) {i : Nat} (hi : i < s.n) :
    s.updateReach.ru i =
      (s.ru i).setReaches (decide (i + 1 ≤ depth .a s.lpc.rus)) (decide (s.n ≤ i + depth .b s.lpc.rus.reverse)) :=
  State.ru_of_zipIdx_map (s := s) (by rw [State.updateReach_lpc]) hi

/-- The state without the Loop Controller and the notice marks. -/
def State.sansLpc (s : State) : State :=
  { s with lpc := ⟨[], 0, 0⟩, clp := { s.clp with marks := Marks.clear } }

theorem State.Grows.lpcOfUnits {s t : State} (h : State.Grows State.sansUnits s t) : State.Grows State.sansLpc s t :=
  h.map (fun v => { v with lpc := ⟨[], 0, 0⟩ }) fun _ => rfl

theorem State.updateReach_grows (s : State) : State.Grows State.sansLpc s s.updateReach :=
  State.Grows.trans (t := s.modLpc _) ⟨rfl, .refl _⟩ (.each fun v i _ => (v.markRu_grows i).lpcOfUnits)

/-! ### Stage 3 on one entry (R10 to R16) -/

/-- The entry of a unit that enters LOST (R13); one that was ACTIVE loses its hold and its alignment (R34). -/
def RuEntry.lost (r : RuEntry) : RuEntry :=
  if r.state = .active then
    { r with state := .lost, serving := none, heal := none, parts := [], hold := none, aligned := false }
  else { r with state := .lost, serving := none, heal := none, parts := [] }

/-- The entry of a unit that swings to an end (R15, R16). -/
def RuEntry.swung (r : RuEntry) (e : ChainEnd) : RuEntry :=
  { r with serving := some e, swings := satInc r.swings, heal := none }

/-- The entry after its reachable flags have acted on its standing (R10, R11, R13, R15, R16). -/
def RuEntry.stood (r : RuEntry) (boundary : Nat) : RuEntry :=
  let any := r.onA.reach || r.onB.reach
  match r.state with
  | .absent => if any then r.join else r
  | .lost => if any then r.join else r
  | .mismatch => if any then r else r.lost
  | .joining =>
    if !any then r.lost
    else if r.reach r.readEnd then r
    else { r with readEnd := r.readEnd.other, parts := [] }
  | .active =>
    if !any then r.lost
    else
      match r.serving with
      | none => r
      | some e => if r.reach e then r.tendHeal e boundary else r.swung e.other

section
variable {r : RuEntry} (boundary : Nat)

theorem RuEntry.stood_of_absent (h : r.state = .absent) :
    r.stood boundary = if r.onA.reach || r.onB.reach then r.join else r := by simp only [RuEntry.stood, h]

theorem RuEntry.stood_of_lost (h : r.state = .lost) :
    r.stood boundary = if r.onA.reach || r.onB.reach then r.join else r := by simp only [RuEntry.stood, h]

theorem RuEntry.stood_of_mismatch (h : r.state = .mismatch) :
    r.stood boundary = if r.onA.reach || r.onB.reach then r else r.lost := by simp only [RuEntry.stood, h]

theorem RuEntry.stood_of_joining (h : r.state = .joining) :
    r.stood boundary =
      if !(r.onA.reach || r.onB.reach) then r.lost
      else if r.reach r.readEnd then r
      else { r with readEnd := r.readEnd.other, parts := [] } := by simp only [RuEntry.stood, h]

theorem RuEntry.stood_of_active (h : r.state = .active) :
    r.stood boundary =
      if !(r.onA.reach || r.onB.reach) then r.lost
      else
        match r.serving with
        | none => r
        | some e => if r.reach e then r.tendHeal e boundary else r.swung e.other := by simp only [RuEntry.stood, h]

end

/-- The entry after an expiry of its heal timer at a boundary, where it is due (R16). -/
def RuEntry.healed (r : RuEntry) (boundary : Nat) : RuEntry :=
  if r.state = .active ∧ isDue r.heal boundary = true then r.swung r.preferred else r

/-- The entry of a unit whose identity read has completed (R12, R14, R33). -/
def RuEntry.identified (r : RuEntry) (x : BitVec 32) : RuEntry :=
  if r.configured = 0#32 ∨ r.configured = x then
    { r with
      state := .active, learned := some x, serving := some r.chosenEnd, heal := none, parts := [], hold := some 0 }
  else
    { r with
      state := .mismatch, learned := some x, serving := none, parts := []
      onA := { r.onA with delay := none }, onB := { r.onB with delay := none } }

/-- The entry after one frame of a running identity read (R11, R12). -/
def RuEntry.readOn (r : RuEntry) (a : Option Answer) : RuEntry :=
  match a with
  | none => { r with parts := [] }
  | some x =>
    if (r.parts ++ [x.part]).length < 4 then { r with parts := r.parts ++ [x.part] }
    else r.identified (identityOf (r.parts ++ [x.part]))

/-- The entry after stage 3 of a frame close; `runs` says whether an identity read runs, `a` is the answer on its end. -/
def RuEntry.close (r : RuEntry) (boundary : Nat) (runs : Bool) (a : Option Answer) : RuEntry :=
  if r.state = .joining ∧ r.reach r.readEnd = true then (if runs then r.readOn a else r)
  else (r.stood boundary).healed boundary

section
variable (s : State) {i : Nat} (hi : i < s.n)
include hi

theorem State.lose_puts : s.Puts (s.lose i) i (s.ru i).lost := by
  have work := s.workRu_puts hi fun r => { r with state := .lost, serving := none, heal := none, parts := [] }
  unfold State.lose State.isActive RuEntry.lost
  dsimp only
  by_cases h : (s.ru i).state = .active
  · rw [if_pos (by simp [h]), if_pos h]
    have leave := State.leaveActive_puts _ (work.n ▸ hi)
    rw [work.ru hi] at leave
    exact work.trans leave
  · rw [if_neg (by simp [h]), if_neg h]
    exact work

theorem State.standing_puts (boundary : Nat) : s.Puts (s.standing boundary i) i ((s.ru i).stood boundary) := by
  have lost := s.lose_puts hi
  have joins := s.workRu_puts hi RuEntry.join
  have stays := State.Puts.refl hi
  unfold State.standing
  dsimp only
  split <;> rename_i hs
  · rw [RuEntry.stood_of_absent _ hs]
    split <;> assumption
  · rw [RuEntry.stood_of_lost _ hs]
    split <;> assumption
  · rw [RuEntry.stood_of_mismatch _ hs]
    split <;> assumption
  · rw [RuEntry.stood_of_joining _ hs]
    split
    · exact lost
    · split
      · exact stays
      · exact s.modRu_puts hi fun r => { r with readEnd := r.readEnd.other, parts := [] }
  · rw [RuEntry.stood_of_active _ hs]
    split
    · exact lost
    · cases (s.ru i).serving with
      | none => exact stays
      | some e =>
        dsimp only
        split
        · exact s.modRu_puts hi fun r => r.tendHeal e boundary
        · exact s.workRu_puts hi fun r => r.swung e.other

theorem State.completeRead_puts (x : BitVec 32) : s.Puts (s.completeRead i x) i ((s.ru i).identified x) := by
  unfold State.completeRead RuEntry.identified
  dsimp only
  split
  · have work := s.workRu_puts hi fun r =>
      { r with state := .active, learned := some x, serving := some r.chosenEnd, heal := none, parts := [] }
    have enter := State.enterActive_puts _ (work.n ▸ hi)
    rw [work.ru hi] at enter
    exact work.trans enter
  · exact s.workRu_puts hi fun r =>
      { r with
        state := .mismatch, learned := some x, serving := none, parts := []
        onA := { r.onA with delay := none }, onB := { r.onB with delay := none } }

theorem State.readFrame_puts (a : Option Answer) : s.Puts (s.readFrame i a) i ((s.ru i).readOn a) := by
  unfold State.readFrame State.takePart RuEntry.readOn
  cases a with
  | none => exact s.modRu_puts hi fun r => { r with parts := [] }
  | some x =>
    dsimp only
    split
    · exact s.modRu_puts hi fun r => { r with parts := (s.ru i).parts ++ [x.part] }
    · exact s.completeRead_puts hi _

theorem State.stage3_puts (boundary : Nat) (f : FrameInput) :
    s.Puts (s.stage3 boundary f i) i
      ((s.ru i).close boundary (s.readRuns i) (answerOf f (s.ru i).readEnd i)) := by
  unfold State.stage3 RuEntry.close
  dsimp only
  split
  · split
    · exact s.readFrame_puts hi _
    · exact State.Puts.refl hi
  · have stands := s.standing_puts hi boundary
    have due : (s.standing boundary i).healDue boundary i = true ↔
        ((s.ru i).stood boundary).state = .active ∧ isDue ((s.ru i).stood boundary).heal boundary = true := by
      simp [State.healDue, State.isActive, stands.ru hi]
    unfold RuEntry.healed
    by_cases h : ((s.ru i).stood boundary).state = .active ∧ isDue ((s.ru i).stood boundary).heal boundary = true
    · rw [if_pos (due.2 h), if_pos h]
      have swings := State.workRu_puts _ (stands.n ▸ hi) fun r => r.swung ((s.ru i).stood boundary).preferred
      rw [stands.ru hi] at swings
      rw [State.healExpire, stands.ru hi]
      exact stands.trans swings
    · rw [if_neg (mt due.1 h), if_neg h]
      exact stands

end

/-! ### Stage 4 on one entry (R19) -/

/-- The entry after its report. -/
def RuEntry.reported (r : RuEntry) (f : FrameInput) (i : Nat) : RuEntry :=
  if r.state = .joining ∨ r.state = .active then
    match r.captured i f with
    | none => r
    | some a => { r with report := ⟨a.quality, a.calls, a.activity⟩, thermal := a.thermal }
  else r

theorem State.recomputeActive_lpc (s : State) (i : Nat) : (s.recomputeActive i).lpc = s.lpc :=
  (s.recomputeActive_grows i).relay.lpc_relay

theorem State.stage4_puts (s : State) {i : Nat} (hi : i < s.n) (f : FrameInput) :
    s.Puts (s.stage4 f i) i ((s.ru i).reported f i) := by
  unfold State.stage4 RuEntry.reported
  dsimp only
  split
  · cases (s.ru i).captured i f with
    | none => exact State.Puts.refl hi
    | some a =>
      dsimp only
      have report := s.modRu_puts hi fun r => { r with report := ⟨a.quality, a.calls, a.activity⟩, thermal := a.thermal }
      split
      · exact report
      · exact report.keep ((State.recomputeActive_lpc _ i).trans (State.markRu_lpc _ i))
  · exact State.Puts.refl hi

end Sys2Proof.Machine
end

section
/-! SUPPORT. The stages of a frame close put together (R6): what the frame leaves of every entry, of the reach depths and of the
marks, and how stage 3 acts on each standing. -/

namespace Sys2Proof.Machine

/-! ### Marks of the units that change standing (R25) -/

section
variable (s : State) {i : Nat} (hi : i < s.n) (h24 : i < 24)
include hi h24

theorem State.lose_marked : (s.lose i).clp.marks.ru.getLsbD i = true := by
  have mark := s.workRu_marked hi h24 fun r => { r with state := .lost, serving := none, heal := none, parts := [] }
  unfold State.lose
  dsimp only
  split
  · exact (State.leaveActive_grows _ i).marks.ru i mark
  · exact mark

/-- A unit whose standing or serving end has changed by its reachable flags is marked. -/
theorem State.standing_marked (boundary : Nat)
    (h : ((s.ru i).stood boundary).state ≠ (s.ru i).state ∨ ((s.ru i).stood boundary).serving ≠ (s.ru i).serving) :
    (s.standing boundary i).clp.marks.ru.getLsbD i = true := by
  have lost := s.lose_marked hi h24
  have joins := s.workRu_marked hi h24 RuEntry.join
  have tended : ∀ e, ((s.ru i).tendHeal e boundary).state = (s.ru i).state ∧
      ((s.ru i).tendHeal e boundary).serving = (s.ru i).serving := by
    intro e
    unfold RuEntry.tendHeal
    split
    · exact ⟨rfl, rfl⟩
    · split
      · cases (s.ru i).heal <;> exact ⟨rfl, rfl⟩
      · exact ⟨rfl, rfl⟩
  unfold State.standing
  dsimp only
  split <;> rename_i hs
  · rw [RuEntry.stood_of_absent _ hs] at h
    by_cases any : ((s.ru i).onA.reach || (s.ru i).onB.reach) = true <;> simp_all
  · rw [RuEntry.stood_of_lost _ hs] at h
    by_cases any : ((s.ru i).onA.reach || (s.ru i).onB.reach) = true <;> simp_all
  · rw [RuEntry.stood_of_mismatch _ hs] at h
    by_cases any : ((s.ru i).onA.reach || (s.ru i).onB.reach) = true <;> simp_all
  · rw [RuEntry.stood_of_joining _ hs] at h
    split
    · exact lost
    · rename_i any
      rw [if_neg any] at h
      by_cases hr : (s.ru i).reach (s.ru i).readEnd = true <;> simp [hr] at h
  · rw [RuEntry.stood_of_active _ hs] at h
    split
    · exact lost
    · rename_i any
      rw [if_neg any] at h
      cases he : (s.ru i).serving with
      | none => simp [he] at h
      | some e =>
        simp only [he] at h ⊢
        by_cases hr : (s.ru i).reach e = true
        · simp [hr, (tended e).1, (tended e).2, he] at h
        · rw [if_neg hr]
          exact s.workRu_marked hi h24 fun r => r.swung e.other

/-- A unit whose standing or serving end has changed in stage 3 is marked. -/
theorem State.stage3_marked (boundary : Nat) (f : FrameInput)
    (h : ((s.stage3 boundary f i).ru i).state ≠ (s.ru i).state ∨ ((s.stage3 boundary f i).ru i).serving ≠ (s.ru i).serving) :
    (s.stage3 boundary f i).clp.marks.ru.getLsbD i = true := by
  have stands := s.standing_puts hi boundary
  have reads : ∀ x, (s.completeRead i x).clp.marks.ru.getLsbD i = true := by
    intro x
    unfold State.completeRead
    dsimp only
    split
    · exact (State.enterActive_grows _ i).marks.ru i (s.workRu_marked hi h24 _)
    · exact s.workRu_marked hi h24 _
  have keeps : ∀ g : RuEntry → RuEntry, (∀ r, (g r).state = r.state ∧ (g r).serving = r.serving) →
      ¬ (((s.modRu i g).ru i).state ≠ (s.ru i).state ∨ ((s.modRu i g).ru i).serving ≠ (s.ru i).serving) := by
    intro g hg
    rw [(s.modRu_puts hi g).ru hi, (hg _).1, (hg _).2]
    simp
  revert h
  unfold State.stage3
  dsimp only
  split
  · split
    · unfold State.readFrame State.takePart
      dsimp only
      split
      · exact fun h => absurd h (keeps _ fun _ => ⟨rfl, rfl⟩)
      · split
        · exact fun h => absurd h (keeps _ fun _ => ⟨rfl, rfl⟩)
        · exact fun _ => reads _
    · exact fun h => by simp at h
  · split
    · exact fun _ => State.workRu_marked _ (stands.n ▸ hi) h24 _
    · intro h
      rw [stands.ru hi] at h
      exact s.standing_marked hi h24 boundary h

/-- A unit whose last thermal state has changed is marked (R19). -/
theorem State.stage4_marked (f : FrameInput) (h : ((s.stage4 f i).ru i).thermal ≠ (s.ru i).thermal) :
    (s.stage4 f i).clp.marks.ru.getLsbD i = true := by
  revert h
  unfold State.stage4
  dsimp only
  split
  · split
    · exact fun h => absurd rfl h
    · split
      · rename_i a _ same
        intro h
        rw [(s.modRu_puts hi _).ru hi] at h
        exact absurd same h
      · intro _
        refine (State.recomputeActive_grows _ i).marks.ru i ?_
        exact s.workRu_marked hi h24 _
  · exact fun h => absurd rfl h

end

/-! ### The stages put together (R6) -/

/-- The state after stages 1 and 2 of a frame close. -/
def State.reached (s : State) (f : FrameInput) : State := (s.takeAnswers f).updateReach

theorem State.n_of_sansLoop {s t : State} (h : t.sansLoop = s.sansLoop) : t.n = s.n := by
  have same : t.sansLoop.lpc.rus.length = s.sansLoop.lpc.rus.length := by rw [h]
  simpa [State.sansLoop, State.sansUnits, State.n] using same

theorem State.Grows.n_loop {s t : State} (h : State.Grows State.sansLoop s t) : t.n = s.n := State.n_of_sansLoop h.same

theorem State.reached_n (s : State) (f : FrameInput) : (s.reached f).n = s.n := by
  rw [State.reached, State.updateReach_n, State.takeAnswers_n]

theorem State.reached_ru (s : State) (f : FrameInput) {i : Nat} (hi : i < s.n) :
    (s.reached f).ru i =
      ((s.ru i).hearFrame f i).setReaches (decide (i + 1 ≤ depth .a (s.takeAnswers f).lpc.rus))
        (decide (s.n ≤ i + depth .b (s.takeAnswers f).lpc.rus.reverse)) := by
  rw [State.reached, State.updateReach_ru _ (by rwa [State.takeAnswers_n]), State.takeAnswers_n, s.takeAnswers_ru f hi]

theorem State.reached_grows (s : State) (f : FrameInput) : State.Grows State.sansLpc s (s.reached f) :=
  State.Grows.trans (t := s.takeAnswers f) ⟨rfl, .refl _⟩ (State.updateReach_grows _)

/-- The state after stage 3 of a frame close. -/
def State.stood (s : State) (boundary : Nat) (f : FrameInput) : State :=
  (s.reached f).each (List.range s.n) fun t i => t.stage3 boundary f i

theorem State.stood_grows (s : State) (boundary : Nat) (f : FrameInput) :
    State.Grows State.sansLoop (s.reached f) (s.stood boundary f) :=
  .each fun t i _ => t.stage3_grows boundary f i

theorem State.stood_n (s : State) (boundary : Nat) (f : FrameInput) : (s.stood boundary f).n = s.n :=
  (s.stood_grows boundary f).n_loop.trans (s.reached_n f)

theorem State.loopStages_eq (s : State) (boundary : Nat) (f : FrameInput) :
    s.loopStages boundary f = (s.stood boundary f).each (List.range s.n) fun t i => t.stage4 f i := by
  unfold State.loopStages
  dsimp only
  rw [← State.reached, State.reached_n, ← State.stood, State.stood_n]

theorem State.loopStages_grows_stood (s : State) (boundary : Nat) (f : FrameInput) :
    State.Grows State.sansLoop (s.stood boundary f) (s.loopStages boundary f) := by
  rw [State.loopStages_eq]
  exact .each fun t i _ => t.stage4_grows f i

theorem State.loopStages_grows (s : State) (boundary : Nat) (f : FrameInput) :
    State.Grows State.sansLoop (s.reached f) (s.loopStages boundary f) :=
  (s.stood_grows boundary f).trans (s.loopStages_grows_stood boundary f)

theorem State.loopStages_n (s : State) (boundary : Nat) (f : FrameInput) : (s.loopStages boundary f).n = s.n :=
  (s.loopStages_grows boundary f).n_loop.trans (s.reached_n f)

/-- Stage 3 on the whole table, entry by entry: an entry whose standing or serving end changes is marked. -/
theorem State.stood_ru (s : State) (boundary : Nat) (f : FrameInput) {i : Nat} (hi : i < s.n) :
    (∃ runs, (s.stood boundary f).ru i =
        ((s.reached f).ru i).close boundary runs (answerOf f ((s.reached f).ru i).readEnd i)) ∧
      (i < 24 → ((s.stood boundary f).ru i).state ≠ ((s.reached f).ru i).state ∨
          ((s.stood boundary f).ru i).serving ≠ ((s.reached f).ru i).serving →
        (s.stood boundary f).clp.marks.ru.getLsbD i = true) := by
  obtain ⟨v, hv, hvi, hlater, hend⟩ :=
    State.each_at (fun t => t.ru i) (s := s.reached f) (p := State.sansLoop) (f := fun t j => t.stage3 boundary f j)
      List.nodup_range (List.mem_range.2 hi) (fun t j _ => t.stage3_grows boundary f j) fun t ht j hj hne =>
        (t.stage3_puts (by rw [State.n_of_sansLoop ht, State.reached_n]; exact List.mem_range.1 hj) boundary f).ru_ne hne.symm
  have hin : i < v.n := by rw [hv.n_loop, State.reached_n]; exact hi
  have put := (v.stage3_puts hin boundary f).ru hin
  refine ⟨⟨v.readRuns i, ?_⟩, fun h24 changed => ?_⟩
  · rw [← hvi, ← put]
    exact hend
  · refine hlater.marks.ru i (v.stage3_marked hin h24 boundary f ?_)
    rw [← hend, hvi]
    exact changed

/-- Stage 4 on the whole table, entry by entry: an entry whose last thermal state changes is marked. -/
theorem State.loopStages_ru (s : State) (boundary : Nat) (f : FrameInput) {i : Nat} (hi : i < s.n) :
    (s.loopStages boundary f).ru i = ((s.stood boundary f).ru i).reported f i ∧
      (i < 24 → ((s.loopStages boundary f).ru i).thermal ≠ ((s.stood boundary f).ru i).thermal →
        (s.loopStages boundary f).clp.marks.ru.getLsbD i = true) := by
  obtain ⟨v, hv, hvi, hlater, hend⟩ :=
    State.each_at (fun t => t.ru i) (s := s.stood boundary f) (p := State.sansLoop) (f := fun t j => t.stage4 f j)
      List.nodup_range (List.mem_range.2 hi) (fun t j _ => t.stage4_grows f j) fun t ht j hj hne =>
        (t.stage4_puts (by rw [State.n_of_sansLoop ht, State.stood_n]; exact List.mem_range.1 hj) f).ru_ne hne.symm
  rw [← State.loopStages_eq] at hlater hend
  have hin : i < v.n := by rw [hv.n_loop, State.stood_n]; exact hi
  refine ⟨?_, fun h24 changed => hlater.marks.ru i (v.stage4_marked hin h24 f ?_)⟩
  · rw [← hvi, ← (v.stage4_puts hin f).ru hin]
    exact hend
  · rw [← hend, hvi]
    exact changed

/-! ### What stages 3 and 4 keep of an entry -/

/-- Entries that agree in their configuration and, but for delays that may have become absent, in their views from both ends. -/
structure RuEntry.SameReach (r r' : RuEntry) : Prop where
  preferred : r'.preferred = r.preferred
  view : ∀ e, ∃ d, r'.view e = { r.view e with delay := d } ∧ (d = (r.view e).delay ∨ d = none)

theorem RuEntry.SameReach.of_views {r r' : RuEntry} (hp : r'.preferred = r.preferred) (ha : r'.onA = r.onA)
    (hb : r'.onB = r.onB) : r.SameReach r' :=
  ⟨hp, fun e => ⟨(r.view e).delay, by cases e <;> simp [RuEntry.view, ha, hb], .inl rfl⟩⟩

theorem RuEntry.SameReach.reach {r r' : RuEntry} (h : r.SameReach r') (e : ChainEnd) : r'.reach e = r.reach e := by
  obtain ⟨d, hd, -⟩ := h.view e
  rw [RuEntry.reach, RuEntry.reach, hd]

theorem RuEntry.SameReach.onA_reach {r r' : RuEntry} (h : r.SameReach r') : r'.onA.reach = r.onA.reach := h.reach .a

theorem RuEntry.SameReach.onB_reach {r r' : RuEntry} (h : r.SameReach r') : r'.onB.reach = r.onB.reach := h.reach .b

theorem RuEntry.lost_sameReach (r : RuEntry) : r.SameReach r.lost := by
  unfold RuEntry.lost
  split <;> exact .of_views rfl rfl rfl

theorem RuEntry.tendHeal_eq (r : RuEntry) (e : ChainEnd) (boundary : Nat) :
    r.tendHeal e boundary = { r with heal := (r.tendHeal e boundary).heal } := by
  unfold RuEntry.tendHeal
  split
  · rfl
  · split
    · cases r.heal <;> rfl
    · rfl

theorem RuEntry.stood_sameReach (r : RuEntry) (boundary : Nat) : r.SameReach (r.stood boundary) := by
  have same : r.SameReach r := .of_views rfl rfl rfl
  have join : r.SameReach r.join := .of_views rfl rfl rfl
  have lost := r.lost_sameReach
  cases h : r.state with
  | absent => rw [r.stood_of_absent _ h]; split <;> assumption
  | lost => rw [r.stood_of_lost _ h]; split <;> assumption
  | mismatch => rw [r.stood_of_mismatch _ h]; split <;> assumption
  | joining =>
    rw [r.stood_of_joining _ h]
    split
    · exact lost
    · split
      · exact same
      · exact .of_views rfl rfl rfl
  | active =>
    rw [r.stood_of_active _ h]
    split
    · exact lost
    · cases r.serving with
      | none => exact same
      | some e =>
        dsimp only
        split
        · rw [RuEntry.tendHeal_eq]; exact .of_views rfl rfl rfl
        · exact .of_views rfl rfl rfl

theorem RuEntry.close_sameReach (r : RuEntry) (boundary : Nat) (runs : Bool) (a : Option Answer) :
    r.SameReach (r.close boundary runs a) := by
  unfold RuEntry.close
  split
  · split
    · unfold RuEntry.readOn
      split
      · exact .of_views rfl rfl rfl
      · split
        · exact .of_views rfl rfl rfl
        · unfold RuEntry.identified
          split
          · exact .of_views rfl rfl rfl
          · exact ⟨rfl, fun e => ⟨none, by cases e <;> rfl, .inr rfl⟩⟩
    · exact .of_views rfl rfl rfl
  · unfold RuEntry.healed
    split
    · exact ⟨(r.stood_sameReach boundary).preferred, (r.stood_sameReach boundary).view⟩
    · exact r.stood_sameReach boundary

/-- A report changes the report record and the last thermal state alone (R19). -/
theorem RuEntry.reported_eq (r : RuEntry) (f : FrameInput) (i : Nat) :
    r.reported f i = { r with report := (r.reported f i).report, thermal := (r.reported f i).thermal } := by
  unfold RuEntry.reported
  split
  · cases r.captured i f <;> rfl
  · rfl

/-! ### Stage 3 by the standing that it finds (R10 to R16) -/

section
variable {r : RuEntry} {boundary : Nat} {runs : Bool} {a : Option Answer}

theorem RuEntry.close_of_not_joining (h : r.state ≠ .joining) :
    r.close boundary runs a = (r.stood boundary).healed boundary := by
  rw [RuEntry.close, if_neg fun k => h k.1]

theorem RuEntry.healed_of_not_active (h : r.state ≠ .active) : r.healed boundary = r := by
  rw [RuEntry.healed, if_neg fun k => h k.1]

theorem RuEntry.lost_state (r : RuEntry) : r.lost.state = .lost := by
  unfold RuEntry.lost; split <;> rfl

theorem RuEntry.any_reach_of_not_lost (h : ¬ (r.onA.reach = false ∧ r.onB.reach = false)) :
    (r.onA.reach || r.onB.reach) = true := by
  cases ha : r.onA.reach <;> cases hb : r.onB.reach <;> simp_all

/-- A unit out of the loop enters JOINING when an end reaches it (R10). -/
theorem RuEntry.close_of_out (h : r.state = .absent ∨ r.state = .lost) :
    r.close boundary runs a = if r.onA.reach = false ∧ r.onB.reach = false then r else r.join := by
  have hj : r.state ≠ .joining := by rcases h with h | h <;> rw [h] <;> decide
  have ha : r.state ≠ .active := by rcases h with h | h <;> rw [h] <;> decide
  have stood : r.stood boundary = if r.onA.reach || r.onB.reach then r.join else r := by
    rcases h with h | h
    · exact r.stood_of_absent _ h
    · exact r.stood_of_lost _ h
  rw [RuEntry.close_of_not_joining hj, stood]
  by_cases any : r.onA.reach = false ∧ r.onB.reach = false
  · rw [if_pos any, if_neg (by simp [any.1, any.2]), RuEntry.healed_of_not_active ha]
  · rw [if_neg any, if_pos (RuEntry.any_reach_of_not_lost any)]
    exact RuEntry.healed_of_not_active (by simp [RuEntry.join])

/-- A unit that no end reaches any more enters LOST (R13). -/
theorem RuEntry.close_of_unreached (h : r.state = .joining ∨ r.state = .mismatch ∨ r.state = .active)
    (hl : r.onA.reach = false ∧ r.onB.reach = false) : r.close boundary runs a = r.lost := by
  have none : r.reach r.readEnd = false := by cases hr : r.readEnd <;> simp [RuEntry.reach, RuEntry.view, hl.1, hl.2]
  have stood : r.stood boundary = r.lost := by
    rcases h with h | h | h
    · rw [r.stood_of_joining _ h, if_pos (by simp [hl.1, hl.2])]
    · rw [r.stood_of_mismatch _ h, if_neg (by simp [hl.1, hl.2])]
    · rw [r.stood_of_active _ h, if_pos (by simp [hl.1, hl.2])]
  rw [RuEntry.close, if_neg (by simp [none]), stood]
  exact RuEntry.healed_of_not_active (by rw [RuEntry.lost_state]; decide)

theorem RuEntry.close_of_mismatch (h : r.state = .mismatch) (hl : ¬ (r.onA.reach = false ∧ r.onB.reach = false)) :
    r.close boundary runs a = r := by
  rw [RuEntry.close_of_not_joining (by rw [h]; decide), r.stood_of_mismatch _ h, if_pos (RuEntry.any_reach_of_not_lost hl)]
  exact RuEntry.healed_of_not_active (by rw [h]; decide)

/-- A JOINING unit whose read end stops reaching it is read on the other end (R11). -/
theorem RuEntry.close_of_joining_turned (h : r.state = .joining) (he : r.reach r.readEnd = false)
    (hl : ¬ (r.onA.reach = false ∧ r.onB.reach = false)) :
    r.close boundary runs a = { r with readEnd := r.readEnd.other, parts := [] } := by
  rw [RuEntry.close, if_neg (by simp [he]), r.stood_of_joining _ h,
    if_neg (by simp only [RuEntry.any_reach_of_not_lost hl]; decide), if_neg (by simp [he])]
  exact RuEntry.healed_of_not_active (by simp [h])

/-- An ACTIVE unit swings away from an end that stops reaching it (R15); otherwise its heal timer is tended (R16). -/
theorem RuEntry.close_of_active {e : ChainEnd} (h : r.state = .active) (he : r.serving = some e)
    (hl : ¬ (r.onA.reach = false ∧ r.onB.reach = false)) :
    r.close boundary runs a = if r.reach e = false then r.swung e.other else (r.tendHeal e boundary).healed boundary := by
  rw [RuEntry.close_of_not_joining (by rw [h]; decide), r.stood_of_active _ h,
    if_neg (by simp only [RuEntry.any_reach_of_not_lost hl]; decide), he]
  dsimp only
  cases hr : r.reach e
  · simp [RuEntry.healed, RuEntry.swung, isDue]
  · simp

end

/-! ### Reach (R9) -/

theorem le_depth_iff (e : ChainEnd) (l : List RuEntry) (k : Nat) :
    k ≤ depth e l ↔ k ≤ l.length ∧ ((l.take k).all fun r => (r.view e).answering) = true := by
  induction l generalizing k with
  | nil => simp [depth]
  | cons r l ih =>
    cases k with
    | zero => simp
    | succ k =>
      cases hr : (r.view e).answering
      · simp [depth, hr]
      · simp only [depth, hr, if_true, Nat.add_le_add_iff_right, ih k, List.length_cons, List.take_succ_cons, List.all_cons,
          Bool.true_and]

theorem depth_le_length (e : ChainEnd) (l : List RuEntry) : depth e l ≤ l.length := ((le_depth_iff e l _).1 (Nat.le_refl _)).1

theorem reachTable_a (l : List RuEntry) {i : Nat} (hi : i < l.length) :
    reachTable l .a i = decide (i + 1 ≤ depth .a l) := by
  rw [Bool.eq_iff_iff, decide_eq_true_iff, le_depth_iff]
  exact ⟨fun h => ⟨hi, h⟩, fun h => h.2⟩

theorem reachTable_b (l : List RuEntry) {i : Nat} (hi : i < l.length) :
    reachTable l .b i = decide (l.length ≤ i + depth .b l.reverse) := by
  have hd : l.length - (l.length - i) = i := by omega
  have hk : l.length ≤ i + depth .b l.reverse ↔ l.length - i ≤ depth .b l.reverse := by omega
  rw [Bool.eq_iff_iff, decide_eq_true_iff, hk, le_depth_iff, List.length_reverse, List.take_reverse, List.all_reverse, hd]
  exact ⟨fun h => ⟨Nat.sub_le _ _, h⟩, fun h => h.2⟩

/-- Reach is a matter of the answer states alone. -/
theorem reachTable_congr {l m : List RuEntry}
    (h : l.map (fun r => (r.onA.answering, r.onB.answering)) = m.map fun r => (r.onA.answering, r.onB.answering))
    (e : ChainEnd) (i : Nat) : reachTable l e i = reachTable m e i := by
  have ha : l.map (fun r => r.onA.answering) = m.map fun r => r.onA.answering := by
    simpa [Function.comp_def] using congrArg (List.map Prod.fst) h
  have hb : l.map (fun r => r.onB.answering) = m.map fun r => r.onB.answering := by
    simpa [Function.comp_def] using congrArg (List.map Prod.snd) h
  have all : ∀ (k : List RuEntry) (g : RuEntry → Bool), k.all g = (k.map g).all id := fun k g => by
    simp [List.all_map]
  cases e
  · simp only [reachTable, all, List.map_take, ha]
  · simp only [reachTable, all, List.map_drop, hb]

theorem length_filter_range_lt (n d : Nat) : ((List.range n).filter fun i => decide (i + 1 ≤ d)).length = min n d := by
  induction n with
  | zero => simp
  | succ n ih =>
    rw [List.range_succ, List.filter_append, List.length_append, ih]
    by_cases h : n + 1 ≤ d
    · rw [List.filter_cons_of_pos (by simpa using h)]
      simp only [List.filter_nil, List.length_singleton]
      omega
    · rw [List.filter_cons_of_neg (by simpa using h)]
      simp only [List.filter_nil, List.length_nil]
      omega

theorem length_filter_range_ge (n m d : Nat) :
    ((List.range n).filter fun i => decide (m ≤ i + d)).length = n - (m - d) := by
  induction n with
  | zero => simp
  | succ n ih =>
    rw [List.range_succ, List.filter_append, List.length_append, ih]
    by_cases h : m ≤ n + d <;> simp [h] <;> omega

end Sys2Proof.Machine
end

section
/-! The answer states, reach and the standings at a frame close (R8 to R16). -/

namespace Sys2Proof.Machine

/-! ### The frame close as the loop sees it -/

/-- What no part of a frame close writes. -/
def State.standing0 (s : State) : Pins × Flash × Sau × List Item × Nat × Option SettingsJob :=
  (s.pins, s.flash, s.sau, s.apl.pool, s.csc.level, s.csc.settings)

theorem State.Grows.lpc_alarm {s t : State} (h : State.Grows State.sansAlarm s t) : t.lpc = s.lpc :=
  show t.sansAlarm.lpc = s.sansAlarm.lpc by rw [h.same]

theorem State.Grows.loopOn_alarm {s t : State} (h : State.Grows State.sansAlarm s t) : t.loopOn = s.loopOn :=
  show t.sansAlarm.loopOn = s.sansAlarm.loopOn by rw [h.same]

theorem State.Grows.loopOn_loop {s t : State} (h : State.Grows State.sansLoop s t) : t.loopOn = s.loopOn :=
  show t.sansLoop.loopOn = s.sansLoop.loopOn by rw [h.same]

theorem State.Grows.out_loop {s t : State} (h : State.Grows State.sansLoop s t) : t.out = s.out :=
  show t.sansLoop.out = s.sansLoop.out by rw [h.same]

theorem State.Grows.depths_loop {s t : State} (h : State.Grows State.sansLoop s t) :
    t.lpc.rA = s.lpc.rA ∧ t.lpc.rB = s.lpc.rB :=
  show t.sansLoop.lpc.rA = s.sansLoop.lpc.rA ∧ t.sansLoop.lpc.rB = s.sansLoop.lpc.rB by rw [h.same]; exact ⟨rfl, rfl⟩

/-- The channel frames and the band frames of a frame close. -/
def State.served (s : State) (boundary : Nat) : State := (s.channelFrames boundary).bandFrames boundary

theorem State.served_grows (s : State) (boundary : Nat) : State.Grows State.sansLoop s (s.served boundary) :=
  (s.channelFrames_grows boundary).loopOfRelay.trans (State.bandFrames_grows _ boundary).loopOfGates

theorem State.served_lpc (s : State) (boundary : Nat) : (s.served boundary).lpc = s.lpc :=
  (State.bandFrames_grows _ boundary).lpc_gates.trans (s.channelFrames_grows boundary).lpc_relay

/-- The state with what was passed on each channel in the loop frame that closes (R111). -/
def State.withPassed (s : State) (passed : List (Option (Nat × ChainEnd))) : State :=
  { s with out := { s.out with passed := passed } }

theorem State.withPassed_lpc (s : State) (p : List (Option (Nat × ChainEnd))) : (s.withPassed p).lpc = s.lpc := rfl

theorem State.withPassed_loopOn (s : State) (p : List (Option (Nat × ChainEnd))) : (s.withPassed p).loopOn = s.loopOn := rfl

theorem State.withPassed_channels (s : State) (p : List (Option (Nat × ChainEnd))) :
    (s.withPassed p).channels = s.channels := rfl

theorem State.withPassed_out (s : State) (p : List (Option (Nat × ChainEnd))) : (s.withPassed p).out.passed = p := rfl

theorem State.withPassed_clp (s : State) (p : List (Option (Nat × ChainEnd))) : (s.withPassed p).clp = s.clp := rfl

theorem State.withPassed_standing0 (s : State) (p : List (Option (Nat × ChainEnd))) :
    (s.withPassed p).standing0 = s.standing0 := rfl

theorem State.closeFrame_eq {s : State} (boundary : Nat) (f : FrameInput) (h : s.loopOn = true) :
    s.closeFrame boundary f =
      ((s.loopStages boundary f).served boundary).withPassed
        ((List.range 8).map ((s.loopStages boundary f).passedOn f)) := by
  unfold State.served State.withPassed
  rw [State.closeFrame, if_pos h]

theorem State.latchOutputs_lpc (s : State) : s.latchOutputs.lpc = s.lpc := by
  unfold State.latchOutputs; split <;> rfl

theorem State.latchOutputs_clp (s : State) : s.latchOutputs.clp = s.clp := by
  unfold State.latchOutputs; split <;> rfl

theorem State.latchOutputs_now (s : State) : s.latchOutputs.now = s.now := by
  unfold State.latchOutputs; split <;> rfl

theorem State.latchOutputs_standing0 (s : State) : s.latchOutputs.standing0 = s.standing0 := by
  unfold State.latchOutputs; split <;> rfl

theorem State.Grows.standing0_alarm {s t : State} (h : State.Grows State.sansAlarm s t) : t.standing0 = s.standing0 :=
  (h.map (q := State.standing0) State.standing0 fun _ => rfl).same

theorem State.Grows.standing0_loop {s t : State} (h : State.Grows State.sansLoop s t) : t.standing0 = s.standing0 :=
  (h.map (q := State.standing0) State.standing0 fun _ => rfl).same

theorem State.Grows.standing0_lpc {s t : State} (h : State.Grows State.sansLpc s t) : t.standing0 = s.standing0 :=
  (h.map (q := State.standing0) State.standing0 fun _ => rfl).same

/-- A frame close as the loop sees it: the four stages run on the table as it stood, with the ALARM input's work before or after
them; no later part of the close touches the table or clears a mark of it. -/
theorem State.frameClose_loop {s : State} (f : FrameInput) (h : s.begun = true) :
    ∃ t : State, t.lpc = s.lpc ∧ (s.frameClose f).lpc = (t.loopStages (s.now + 1) f).lpc ∧
      (t.loopStages (s.now + 1) f).clp.marks.Grow (s.frameClose f).clp.marks ∧
      (s.frameClose f).standing0 = State.standing0 { s with pins := { s.pins with maint := f.maint } } ∧
      (s.frameClose f).now = s.now + 1 := by
  obtain ⟨t, v, ht, hv, hu⟩ := s.frameClose_cases f
  have on : t.loopOn = true := ht.loopOn_alarm.trans (s.begun_iff.1 h).2
  have eq := State.closeFrame_eq (s.now + 1) f on
  have served := (t.loopStages (s.now + 1) f).served_grows (s.now + 1)
  have table : (t.closeFrame (s.now + 1) f).lpc = (t.loopStages (s.now + 1) f).lpc := by
    rw [eq, State.withPassed_lpc, State.served_lpc]
  have marks : (t.loopStages (s.now + 1) f).clp.marks.Grow (t.closeFrame (s.now + 1) f).clp.marks := by
    rw [eq, State.withPassed_clp]; exact served.marks
  have kept : (t.closeFrame (s.now + 1) f).standing0 = t.standing0 := by
    rw [eq, State.withPassed_standing0]
    exact served.standing0_loop.trans
      ((t.loopStages_grows (s.now + 1) f).standing0_loop.trans (t.reached_grows f).standing0_lpc)
  rw [hu]
  refine ⟨t, ht.lpc_alarm, ?_, ?_, ?_, State.latchOutputs_now _⟩
  · exact (State.latchOutputs_lpc _).trans (hv.lpc_alarm.trans table)
  · rw [State.latchOutputs_clp]
    exact marks.trans hv.marks
  · exact (State.latchOutputs_standing0 _).trans (hv.standing0_alarm.trans (kept.trans ht.standing0_alarm))

/-! ### Answer states (R8) -/

theorem EndView.hear_table (v : EndView) (present : Bool) :
    ((v.hear present).answering, (v.hear present).run) = answerTable v.answering v.run present := by
  unfold EndView.hear answerTable
  cases v.answering <;> cases present <;> simp <;> split <;> simp_all

/-- Stages 2 to 4 leave the answer states as stage 1 has made them. -/
theorem RuEntry.hearFrame_table (r : RuEntry) (f : FrameInput) (i : Nat) (e : ChainEnd) :
    (((r.hearFrame f i).view e).answering, ((r.hearFrame f i).view e).run) =
      answerTable (r.view e).answering (r.view e).run (answerOf f e i).isSome := by
  cases e <;> exact EndView.hear_table _ _

theorem RuEntry.setReaches_view (r : RuEntry) (a b : Bool) (e : ChainEnd) :
    (r.setReaches a b).view e = (r.view e).setReach (match e with | .a => a | .b => b) := by
  cases e <;> rfl

/-- What stages 3 and 4 of a frame close leave of an entry's views: all but delays that may have become absent. -/
theorem State.loopStages_sameReach (s : State) (boundary : Nat) (f : FrameInput) {i : Nat} (hi : i < s.n) :
    ((s.reached f).ru i).SameReach ((s.loopStages boundary f).ru i) := by
  obtain ⟨⟨runs, hs⟩, -⟩ := s.stood_ru boundary f hi
  have close := RuEntry.close_sameReach ((s.reached f).ru i) boundary runs (answerOf f ((s.reached f).ru i).readEnd i)
  rw [← hs] at close
  rw [(s.loopStages_ru boundary f hi).1, RuEntry.reported_eq]
  exact ⟨close.preferred, close.view⟩

theorem State.loopStages_answers (s : State) (boundary : Nat) (f : FrameInput) {i : Nat} (hi : i < s.n) (e : ChainEnd) :
    ((((s.loopStages boundary f).ru i).view e).answering, (((s.loopStages boundary f).ru i).view e).run) =
      answerTable ((s.ru i).view e).answering ((s.ru i).view e).run (answerOf f e i).isSome := by
  obtain ⟨d, hd, -⟩ := (s.loopStages_sameReach boundary f hi).view e
  rw [hd, s.reached_ru f hi, RuEntry.setReaches_view]
  exact RuEntry.hearFrame_table _ f i e

/-- Settles O12: no part of a frame close but stage 1 writes an answer state. -/
theorem answerStatesFollowTheFrame : Obligations.AnswerStatesFollowTheFrame := by
  intro s f h
  obtain ⟨t, ht, hu, -⟩ := s.frameClose_loop f h
  have hn : t.n = s.n := by rw [State.n, State.n, ht]
  have hun : (s.frameClose f).n = s.n := by
    rw [← hn, ← t.loopStages_n (s.now + 1) f]
    exact congrArg (fun l => l.rus.length) hu
  refine ⟨_, exec_loopFrameClose f h, hun, fun i hi e _ => ?_⟩
  rw [State.ru_congr hu, t.loopStages_answers _ f (hn.symm ▸ List.mem_range.1 hi), State.ru_congr ht]

/-! ### Reach and the standings (R9 to R16) -/

/-- Two tables that agree in every answer state. -/
theorem State.answering_map_eq {s t : State} (hn : t.n = s.n)
    (h : ∀ i < s.n, ∀ e, ((t.ru i).view e).answering = ((s.ru i).view e).answering) :
    t.lpc.rus.map (fun r => (r.onA.answering, r.onB.answering)) =
      s.lpc.rus.map fun r => (r.onA.answering, r.onB.answering) := by
  refine List.ext_getElem (by simpa [State.n] using hn) fun i h₁ h₂ => ?_
  have hi : i < s.n := by simpa [State.n] using h₂
  have here := h i hi
  rw [State.ru_eq hi, State.ru_eq (hn.symm ▸ hi)] at here
  simp only [List.getElem_map]
  exact Prod.ext (here .a) (here .b)

/-- The answer states of the table that a frame close leaves are those of its stage 1. -/
theorem State.loopStages_answering (s : State) (boundary : Nat) (f : FrameInput) :
    (s.loopStages boundary f).lpc.rus.map (fun r => (r.onA.answering, r.onB.answering)) =
      (s.takeAnswers f).lpc.rus.map fun r => (r.onA.answering, r.onB.answering) := by
  have hm := s.takeAnswers_n f
  refine State.answering_map_eq ((s.loopStages_n boundary f).trans hm.symm) fun i hi e => ?_
  have same := s.loopStages_sameReach boundary f (hm ▸ hi)
  rw [State.reached, State.updateReach_ru _ hi] at same
  obtain ⟨d, hd, -⟩ := same.view e
  rw [hd, RuEntry.setReaches_view]
  rfl

/-- The reachable flags and depths that a frame close leaves are those of the answer states that it leaves (R9). -/
theorem State.loopStages_reach (s : State) (boundary : Nat) (f : FrameInput) :
    (∀ i < s.n, ∀ e, ((s.loopStages boundary f).ru i).reach e = reachTable (s.loopStages boundary f).lpc.rus e i) ∧
      (s.loopStages boundary f).lpc.rA =
        ((List.range s.n).filter (reachTable (s.loopStages boundary f).lpc.rus .a)).length ∧
      (s.loopStages boundary f).lpc.rB =
        ((List.range s.n).filter (reachTable (s.loopStages boundary f).lpc.rus .b)).length := by
  have table := fun e i => reachTable_congr (s.loopStages_answering boundary f) e i
  have hlen : (s.takeAnswers f).lpc.rus.length = s.n := s.takeAnswers_n f
  have ta : ∀ i < s.n, reachTable (s.loopStages boundary f).lpc.rus .a i =
      decide (i + 1 ≤ depth .a (s.takeAnswers f).lpc.rus) := fun i hi => by
    rw [table, reachTable_a _ (hlen.symm ▸ hi)]
  have tb : ∀ i < s.n, reachTable (s.loopStages boundary f).lpc.rus .b i =
      decide (s.n ≤ i + depth .b (s.takeAnswers f).lpc.rus.reverse) := fun i hi => by
    rw [table, reachTable_b _ (hlen.symm ▸ hi), hlen]
  have depths := (s.loopStages_grows boundary f).depths_loop
  have da := depth_le_length .a (s.takeAnswers f).lpc.rus
  have db := depth_le_length .b (s.takeAnswers f).lpc.rus.reverse
  rw [List.length_reverse] at db
  refine ⟨fun i hi e => ?_, ?_, ?_⟩
  · rw [(s.loopStages_sameReach boundary f hi).reach e, s.reached_ru f hi, RuEntry.reach, RuEntry.setReaches_view]
    cases e
    · exact (ta i hi).symm
    · exact (tb i hi).symm
  · rw [depths.1, List.filter_congr fun i hi => ta i (List.mem_range.1 hi), length_filter_range_lt, State.reached,
      State.updateReach_lpc]
    exact (Nat.min_eq_right (hlen ▸ da)).symm
  · rw [depths.2, List.filter_congr fun i hi => tb i (List.mem_range.1 hi), length_filter_range_ge, State.reached,
      State.updateReach_lpc]
    show depth .b _ = _
    omega

end Sys2Proof.Machine
end

section
/-! The standings at a frame close follow the reach (R10 to R16). -/

namespace Sys2Proof.Machine

/-! ### One entry through a frame close -/

theorem EndView.hear_reach (v : EndView) (present : Bool) : (v.hear present).reach = v.reach := by
  unfold EndView.hear
  by_cases same : v.answering = present
  · rw [if_pos same]
  · rw [if_neg same]
    dsimp only
    generalize (if v.answering = true then 8 else 32) = limit
    split <;> rfl

/-- What a frame close makes of one entry: new views, then its standing by stage 3, then its report. -/
theorem State.frameClose_entry {s : State} (f : FrameInput) (h : s.begun = true) {i : Nat} (hi : i < s.n) :
    ∃ (r r₃ : RuEntry) (runs : Bool),
      r = { s.ru i with onA := r.onA, onB := r.onB } ∧
      (∀ e, (s.ru i).reach e = true → r.reach e = false → (r.view e).delay = none) ∧
      r₃ = r.close (s.now + 1) runs (answerOf f r.readEnd i) ∧
      (s.frameClose f).ru i = r₃.reported f i ∧
      (i < 24 → r₃.state ≠ (s.ru i).state ∨ r₃.serving ≠ (s.ru i).serving →
        (s.frameClose f).clp.marks.ru.getLsbD i = true) ∧
      (i < 24 → (r₃.reported f i).thermal ≠ r₃.thermal → (s.frameClose f).clp.marks.ru.getLsbD i = true) := by
  obtain ⟨t, ht, hu, marks, -⟩ := s.frameClose_loop f h
  have hit : i < t.n := by rw [State.n, ht]; exact hi
  obtain ⟨⟨runs, hstood⟩, hmark⟩ := t.stood_ru (s.now + 1) f hit
  obtain ⟨hstage4, hthermal⟩ := t.loopStages_ru (s.now + 1) f hit
  have later := t.loopStages_grows_stood (s.now + 1) f
  have hr := t.reached_ru f hit
  rw [State.ru_congr ht] at hr
  have fields : (t.reached f).ru i = { s.ru i with onA := ((t.reached f).ru i).onA, onB := ((t.reached f).ru i).onB } := by
    rw [hr]; rfl
  refine ⟨(t.reached f).ru i, (t.stood (s.now + 1) f).ru i, runs, fields, fun e was now => ?_, hstood, ?_,
    fun h24 changed => marks.ru i (later.marks.ru i (hmark h24 ?_)),
    fun h24 changed => marks.ru i (hthermal h24 (by rwa [hstage4]))⟩
  · have same : (((s.ru i).hearFrame f i).view e).reach = (s.ru i).reach e := by
      cases e <;> exact EndView.hear_reach _ _
    rw [hr, RuEntry.reach, RuEntry.setReaches_view] at now
    rw [hr, RuEntry.setReaches_view]
    simp only [EndView.setReach] at now ⊢
    rw [same, was, now]
    rfl
  · rw [State.ru_congr hu, hstage4]
  · rw [show ((t.reached f).ru i).state = (s.ru i).state by rw [fields],
      show ((t.reached f).ru i).serving = (s.ru i).serving by rw [fields]]
    exact changed

/-! ### The standings (R10, R11, R13, R15, R16) -/

theorem RuEntry.lost_kept (r : RuEntry) :
    r.lost.state = .lost ∧ r.lost.serving = none ∧ r.lost.heal = none ∧ r.lost.learned = r.learned ∧
      r.lost.swings = r.swings := by
  unfold RuEntry.lost; split <;> exact ⟨rfl, rfl, rfl, rfl, rfl⟩

/-- The heal timer of an ACTIVE unit whose serving end reaches it, through the boundary at which it may be due (R16). -/
theorem RuEntry.tendHeal_healed {r : RuEntry} (h : r.state = .active) (e : ChainEnd) (boundary : Nat) :
    (r.tendHeal e boundary).healed boundary =
      if e = r.preferred ∨ r.reach r.preferred = false then { r with heal := none }
      else if isDue r.heal boundary = true then r.swung r.preferred
      else { r with heal := match r.heal with | some d => some d | none => some (boundary + 40000) } := by
  unfold RuEntry.tendHeal RuEntry.healed
  by_cases he : e = r.preferred
  · simp [he, isDue]
  · cases hp : r.reach r.preferred
    · simp [he, isDue]
    · cases hh : r.heal with
      | none => simp [he, h, isDue, dueAtClose]
      | some d =>
        have keep : { r with state := .active, heal := some d } = r := by rw [← hh, ← h]
        simp only [he, hh, h, keep, if_false, if_true, true_and, false_or, Bool.true_eq_false]

/-- How the standing of one unit follows its reach at a frame close, `e` being the end that served an ACTIVE unit (R10 to R16);
`marked` says that its notice mark is set. -/
def RuEntry.Follows (old new : RuEntry) (boundary : Nat) (marked : Prop) (e : ChainEnd) : Prop :=
  let lost := new.onA.reach = false ∧ new.onB.reach = false
  (old.state = .absent ∨ old.state = .lost →
    if lost then new.state = old.state
    else
      new.state = .joining ∧ new.readEnd = (if new.reach old.preferred then old.preferred else old.preferred.other) ∧
        new.parts = [] ∧ new.serving = none ∧ new.learned = old.learned ∧ new.swings = old.swings ∧ marked) ∧
    (old.state = .joining ∨ old.state = .mismatch ∨ old.state = .active → lost →
      new.state = .lost ∧ new.serving = none ∧ new.heal = none ∧ new.learned = old.learned ∧ new.swings = old.swings ∧
        marked) ∧
    (old.state = .mismatch → ¬ lost → new.state = .mismatch) ∧
    (old.state = .joining → new.reach old.readEnd = false → ¬ lost →
      new.state = .joining ∧ new.readEnd = old.readEnd.other ∧ new.parts = []) ∧
    (old.state = .active → old.serving = some e → ¬ lost →
      new.state = .active ∧
        if new.reach e = false then
          new.serving = some e.other ∧ new.swings = min (old.swings + 1) 65535 ∧ new.heal = none ∧ marked
        else if e = old.preferred ∨ new.reach old.preferred = false then
          new.serving = some e ∧ new.swings = old.swings ∧ new.heal = none
        else if isDue old.heal boundary = true then
          new.serving = some old.preferred ∧ new.swings = min (old.swings + 1) 65535 ∧ new.heal = none ∧ marked
        else
          new.serving = some e ∧ new.swings = old.swings ∧
            new.heal = match old.heal with
              | some d => some d
              | none => some (boundary + 40000))

theorem other_ne (e : ChainEnd) : e.other ≠ e := by cases e <;> decide

theorem RuEntry.reported_sameReach (r : RuEntry) (f : FrameInput) (i : Nat) : r.SameReach (r.reported f i) := by
  rw [RuEntry.reported_eq]; exact .of_views rfl rfl rfl

/-- The standing follows the reach, for an entry with the new views `onA` and `onB`. -/
theorem RuEntry.follows_close {old r₃ : RuEntry} {onA onB : EndView} {boundary : Nat} {marked : Prop} {runs : Bool}
    {a : Option Answer} (f : FrameInput) (i : Nat) (e : ChainEnd)
    (h₃ : r₃ = ({ old with onA := onA, onB := onB } : RuEntry).close boundary runs a)
    (mark : r₃.state ≠ old.state ∨ r₃.serving ≠ old.serving → marked) :
    old.Follows (r₃.reported f i) boundary marked e := by
  generalize hr : ({ old with onA := onA, onB := onB } : RuEntry) = r at h₃
  have state : r.state = old.state := by rw [← hr]
  have serving : r.serving = old.serving := by rw [← hr]
  have preferred : r.preferred = old.preferred := by rw [← hr]
  have learned : r.learned = old.learned := by rw [← hr]
  have swings : r.swings = old.swings := by rw [← hr]
  have readEnd : r.readEnd = old.readEnd := by rw [← hr]
  have heal : r.heal = old.heal := by rw [← hr]
  have close : r.SameReach r₃ := h₃ ▸ r.close_sameReach boundary runs a
  have ra := (r₃.reported_sameReach f i).onA_reach.trans close.onA_reach
  have rb := (r₃.reported_sameReach f i).onB_reach.trans close.onB_reach
  have re : ∀ e, (r₃.reported f i).reach e = r.reach e := fun e =>
    ((r₃.reported_sameReach f i).reach e).trans (close.reach e)
  unfold RuEntry.Follows
  dsimp only
  rw [ra, rb]
  simp only [re]
  rw [RuEntry.reported_eq]
  dsimp only
  rw [← state] at mark ⊢
  rw [← serving] at mark ⊢
  rw [← preferred, ← learned, ← swings, ← readEnd, ← heal]
  refine ⟨fun hs => ?_, fun hs hl => ?_, fun hs hl => ?_, fun hs he hl => ?_, fun hs he hl => ?_⟩
  · rw [RuEntry.close_of_out hs] at h₃
    split
    · rename_i hl
      rw [h₃, if_pos hl]
    · rename_i hl
      rw [if_neg hl] at h₃
      refine ⟨by rw [h₃]; rfl, by rw [h₃]; rfl, by rw [h₃]; rfl, by rw [h₃]; rfl, by rw [h₃]; rfl, by rw [h₃]; rfl, mark (.inl ?_)⟩
      rw [h₃]
      rcases hs with hs | hs <;> rw [hs] <;> exact RuState.noConfusion
  · rw [RuEntry.close_of_unreached hs hl] at h₃
    obtain ⟨k₁, k₂, k₃, k₄, k₅⟩ := r.lost_kept
    refine ⟨h₃ ▸ k₁, h₃ ▸ k₂, h₃ ▸ k₃, h₃ ▸ k₄, h₃ ▸ k₅, mark (.inl ?_)⟩
    rw [h₃, k₁]
    rcases hs with hs | hs | hs <;> rw [hs] <;> exact RuState.noConfusion
  · rw [h₃, RuEntry.close_of_mismatch hs hl, hs]
  · rw [RuEntry.close_of_joining_turned hs he hl] at h₃
    exact ⟨by rw [h₃]; exact hs, by rw [h₃], by rw [h₃]⟩
  · rw [RuEntry.close_of_active hs he hl] at h₃
    by_cases hre : r.reach e = false
    · rw [if_pos hre] at h₃ ⊢
      exact ⟨by rw [h₃]; exact hs, by rw [h₃]; rfl, by rw [h₃]; rfl, by rw [h₃]; rfl,
        mark (.inr (by rw [h₃, he]; exact fun k => other_ne e (Option.some.inj k)))⟩
    · rw [if_neg hre, RuEntry.tendHeal_healed hs] at h₃
      rw [if_neg hre]
      by_cases hp : e = r.preferred ∨ r.reach r.preferred = false
      · rw [if_pos hp] at h₃ ⊢
        exact ⟨by rw [h₃]; exact hs, by rw [h₃]; exact he, by rw [h₃], by rw [h₃]⟩
      · rw [if_neg hp] at h₃ ⊢
        by_cases hd : isDue r.heal boundary = true
        · rw [if_pos hd] at h₃ ⊢
          exact ⟨by rw [h₃]; exact hs, by rw [h₃]; rfl, by rw [h₃]; rfl, by rw [h₃]; rfl,
            mark (.inr (by rw [h₃, he]; exact fun k => hp (.inl (Option.some.inj k).symm)))⟩
        · rw [if_neg hd] at h₃ ⊢
          exact ⟨by rw [h₃]; exact hs, by rw [h₃]; exact he, by rw [h₃], by rw [h₃]⟩

/-- Settles O13: entry by entry, stage 3 acts on the reach that stages 1 and 2 have formed. -/
theorem reachFollowsTheAnswerStates : Obligations.ReachFollowsTheAnswerStates := by
  intro s f h
  obtain ⟨t, ht, hu, -, kept, hnow⟩ := s.frameClose_loop f h
  have hn : t.n = s.n := by rw [State.n, State.n, ht]
  obtain ⟨reach, rA, rB⟩ := t.loopStages_reach (s.now + 1) f
  rw [← hu, hn] at rA rB
  simp only [State.standing0, Prod.mk.injEq] at kept
  obtain ⟨pins, flash, sau, pool, level, settings⟩ := kept
  refine ⟨_, exec_loopFrameClose f h, hnow, pins, flash, sau, pool, level, settings, rA, rB, fun i hi e _ => ?_⟩
  have hi := List.mem_range.1 hi
  obtain ⟨r, r₃, runs, hr, delays, h₃, hnew, mark, -⟩ := s.frameClose_entry f h hi
  have close : r.SameReach r₃ := h₃ ▸ r.close_sameReach _ runs _
  refine ⟨?_, fun was now => ?_, ?_⟩
  · rw [State.ru_congr hu, hu]
    exact reach i (hn.symm ▸ hi) e
  · obtain ⟨d, hd, hdelay⟩ := close.view e
    rw [hnew, (r₃.reported_sameReach f i).reach e, close.reach e] at now
    have gone := delays e was now
    rw [hnew, RuEntry.reported_eq]
    show (r₃.view e).delay = none
    rw [hd]
    rcases hdelay with hdelay | hdelay
    · exact hdelay.trans gone
    · exact hdelay
  · rw [hnew]
    rw [hr] at h₃
    exact RuEntry.follows_close f i e h₃ fun changed h24 => mark h24 changed

end Sys2Proof.Machine
end

section
/-! The outputs of the loop frame that begins follow the blocks (R5, R11, R32, R75, R98, R104, R111, R125, R134). -/

namespace Sys2Proof.Machine

/-! ### Sets of bits collected by a fold -/

theorem getLsbD_foldl_twoPow {w : Nat} (p : Nat → Bool) (l : List Nat) (b : BitVec w) {c : Nat} (hc : c < w) :
    (l.foldl (fun k c => if p c then k ||| BitVec.twoPow w c else k) b).getLsbD c = true ↔
      b.getLsbD c = true ∨ c ∈ l ∧ p c = true := by
  induction l generalizing b with
  | nil => simp
  | cons d l ih =>
    rw [List.foldl_cons, ih, List.mem_cons]
    by_cases hd : p d = true
    · by_cases hcd : c = d
      · subst hcd; simp [hd, hc]
      · have hdc : ¬ d = c := fun h => hcd h.symm
        simp [hd, hcd, hdc]
    · rw [if_neg hd]
      constructor
      · rintro (h | ⟨h, hp⟩)
        · exact .inl h
        · exact .inr ⟨.inr h, hp⟩
      · rintro (h | ⟨rfl | h, hp⟩)
        · exact .inl h
        · exact absurd hp hd
        · exact .inr ⟨h, hp⟩

theorem getD_map_range {α : Type} (n : Nat) (g : Nat → α) (d : α) {i : Nat} (hi : i < n) :
    ((List.range n).map g).getD i d = g i := by
  simp [List.getD_eq_getElem?_getD, hi]

/-! ### The outputs as they are taken -/

section
variable {s : State} (h : s.loopOn = true)
include h

theorem State.latchOutputs_on :
    s.latchOutputs =
      { s with
        channels := s.channels.map fun ch => { ch with keyed := ch.keys }
        out := s.latchOutputs.out } := by
  rw [State.latchOutputs, if_pos h]
  rfl

/-- The outputs that are taken, each from the state that takes them. -/
theorem State.latchOutputs_out :
    s.latchOutputs.out =
      { polled := s.latchOutputs.n
        orders := (List.range s.latchOutputs.n).map s.latchOutputs.orderOf
        streams := (List.range s.latchOutputs.n).map s.latchOutputs.streamOf
        keyed := (List.range 8).foldl
          (fun k c => if (s.latchOutputs.channel c).keyed then k ||| BitVec.twoPow 8 c else k) 0#8
        uplinks := (List.range 8).map fun c =>
          if (s.latchOutputs.channel c).keyed then (s.latchOutputs.channel c).source else none
        passed := s.out.passed } := by
  rw [State.latchOutputs, if_pos h]
  rfl

/-- A channel as the outputs are taken: its keyed item follows its state (R98). -/
theorem State.latchOutputs_channel {c : Nat} (hc : c < s.channels.length) :
    s.latchOutputs.channel c = { s.channel c with keyed := (s.channel c).keys } := by
  rw [State.latchOutputs_on h]
  simp [State.channel, List.getD_eq_getElem?_getD, hc]

end

/-! ### The frame close of a part that has begun -/

theorem State.Grows.channels_alarm {s t : State} (h : State.Grows State.sansAlarm s t) : t.channels = s.channels :=
  show t.sansAlarm.channels = s.sansAlarm.channels by rw [h.same]

theorem State.Grows.out_alarm {s t : State} (h : State.Grows State.sansAlarm s t) : t.out = s.out :=
  show t.sansAlarm.out = s.sansAlarm.out by rw [h.same]

theorem State.Grows.out_lpc {s t : State} (h : State.Grows State.sansLpc s t) : t.out = s.out :=
  show t.sansLpc.out = s.sansLpc.out by rw [h.same]

theorem State.Grows.channels_lpc {s t : State} (h : State.Grows State.sansLpc s t) : t.channels = s.channels :=
  show t.sansLpc.channels = s.sansLpc.channels by rw [h.same]

theorem State.Grows.loopOn_lpc {s t : State} (h : State.Grows State.sansLpc s t) : t.loopOn = s.loopOn :=
  show t.sansLpc.loopOn = s.sansLpc.loopOn by rw [h.same]

theorem State.channels_length_of_sansLoop {s t : State} (h : t.sansLoop = s.sansLoop) :
    t.channels.length = s.channels.length := by
  have same : t.sansLoop.channels.length = s.sansLoop.channels.length := by rw [h]
  simpa [State.sansLoop] using same

theorem State.Grows.channels_length {s t : State} (h : State.Grows State.sansLoop s t) :
    t.channels.length = s.channels.length := State.channels_length_of_sansLoop h.same

/-- The frame close of a part that has begun: the loop's stages, the channel and band frames, the outputs; the ALARM input's work
before (`t`) or after them (`v`). -/
theorem State.frameClose_begun {s : State} (f : FrameInput) (h : s.begun = true) :
    ∃ t v : State, State.Grows State.sansAlarm { s with pins := { s.pins with maint := f.maint } } t ∧
      State.Grows State.sansAlarm
        (((t.loopStages (s.now + 1) f).served (s.now + 1)).withPassed
          ((List.range 8).map ((t.loopStages (s.now + 1) f).passedOn f))) v ∧
      v.loopOn = true ∧ s.frameClose f = ({ v with now := s.now + 1 } : State).latchOutputs := by
  obtain ⟨t, v, ht, hv, hu⟩ := s.frameClose_cases f
  have on : t.loopOn = true := ht.loopOn_alarm.trans (s.begun_iff.1 h).2
  rw [State.closeFrame_eq (s.now + 1) f on] at hv
  refine ⟨t, v, ht, hv, ?_, hu⟩
  have stages := (t.loopStages_grows (s.now + 1) f).trans (State.served_grows _ (s.now + 1))
  calc v.loopOn
    _ = ((t.loopStages (s.now + 1) f).served (s.now + 1)).loopOn := by rw [hv.loopOn_alarm, State.withPassed_loopOn]
    _ = (t.reached f).loopOn := stages.loopOn_loop
    _ = t.loopOn := (t.reached_grows f).loopOn_lpc
    _ = true := on

/-! ### Each output by its rule -/

/-- What a unit radiates of a rescue channel (R98). -/
theorem State.rescueAir_eq (s : State) (c i : Nat) :
    s.rescueAir c i =
      if (s.channel c).cfg.enabled = true ∧ (s.channel c).cfg.coverage.mem i = true then
        (if (s.channel c).state = .down then .downlink
        else if (s.channel c).state = .up ∧ s.talkThrough (s.channel c) = true then .uplink
        else .nothing)
      else .nothing := by
  unfold State.rescueAir
  dsimp only
  by_cases hc : (s.channel c).cfg.enabled = true ∧ (s.channel c).cfg.coverage.mem i = true
  · rw [if_pos (by simpa using hc), if_pos hc]
    cases (s.channel c).state <;> simp
  · rw [if_neg (by simpa using hc), if_neg hc]

/-- The uplink enables of a unit (R125). -/
theorem State.enables_iff (s : State) (i : Nat) {b : Nat} (hb : b < 4) :
    (s.enables i).getLsbD b = true ↔ ((s.band b).gate i).state = .opened ∨ ((s.band b).gate i).state = .forced := by
  have bits := getLsbD_foldl_twoPow
    (fun b => ((s.band b).gate i).state == .opened || ((s.band b).gate i).state == .forced) [0, 1, 2, 3] 0#4 hb
  have hmem : b ∈ [0, 1, 2, 3] := by simp; omega
  refine bits.trans ?_
  simp [hmem]

/-- What was passed on a channel in the frame that closes (R104, R111), by the answers of its source. -/
theorem State.passedOn_of_source {s : State} (f : FrameInput) {c i : Nat} (h : s.out.uplinks.getD c none = some i) :
    s.passedOn f c =
      (if s.isActive i then (s.ru i).serving else (s.out.streams.getD i none).map (·.port)).bind fun e =>
        if (answerOf f e i).isSome then some (i, e)
        else if (answerOf f e.other i).isSome then some (i, e.other)
        else none := by
  simp only [State.passedOn, State.audioEnd, h]
  cases (if s.isActive i then (s.ru i).serving else (s.out.streams.getD i none).map (·.port)) <;> rfl

/-- The stream of one unit, with all its fields (R5, R32, R75, R98, R125, R134). -/
theorem State.streamOf_active {s : State} {i : Nat} {e : ChainEnd} (ha : (s.ru i).state = .active)
    (he : (s.ru i).serving = some e) :
    s.streamOf i =
      some ⟨e, (s.ru i).hold.getD 0, s.allocOf i, s.enables i, (s.powerCfg i).programmes,
        (s.bim.winners.getD i none).map s.airOf, (List.range 8).map fun c => s.rescueAir c i⟩ := by
  simp only [State.streamOf, ha, he, if_true, Option.map_some]

theorem State.streamOf_none {s : State} {i : Nat} (h : (s.ru i).state ≠ .active ∨ (s.ru i).serving = none) :
    s.streamOf i = none := by
  unfold State.streamOf
  rcases h with h | h
  · rw [if_neg h]
  · simp [h]

/-- Settles O14: every output is taken from the state that the frame close leaves; what was passed on a channel from the answers
of the frame that closes. -/
theorem outputsFollowTheBlocks : Obligations.OutputsFollowTheBlocks := by
  intro s f h hlen
  obtain ⟨t, v, ht, hv, on, hu⟩ := s.frameClose_begun f h
  generalize hL : t.loopStages (s.now + 1) f = L at hv
  have stages : State.Grows State.sansLoop (t.reached f) L := hL ▸ t.loopStages_grows (s.now + 1) f
  have out : L.out = s.out := stages.out_loop.trans ((t.reached_grows f).out_lpc.trans ht.out_alarm)
  have length : v.channels.length = 8 :=
    calc v.channels.length
      _ = (L.served (s.now + 1)).channels.length := by rw [hv.channels_alarm, State.withPassed_channels]
      _ = L.channels.length := (L.served_grows (s.now + 1)).channels_length
      _ = (t.reached f).channels.length := stages.channels_length
      _ = s.channels.length := congrArg List.length ((t.reached_grows f).channels_lpc.trans ht.channels_alarm)
      _ = 8 := hlen
  have onW : ({ v with now := s.now + 1 } : State).loopOn = true := on
  have taken := State.latchOutputs_out onW
  have key : ∀ c < 8, ((s.frameClose f).channel c).keyed = ((s.frameClose f).channel c).keys := by
    intro c hc
    rw [hu, State.latchOutputs_channel onW (length.symm ▸ hc)]
    rfl
  have table : (s.frameClose f).lpc = L.lpc := by
    rw [hu, State.latchOutputs_lpc]
    exact hv.lpc_alarm.trans ((State.withPassed_lpc _ _).trans (L.served_lpc (s.now + 1)))
  have passed : ({ v with now := s.now + 1 } : State).out.passed = (List.range 8).map (L.passedOn f) :=
    (congrArg Outputs.passed hv.out_alarm).trans (State.withPassed_out _ _)
  rw [← hu, passed] at taken
  refine ⟨_, exec_loopFrameClose f h, by rw [taken], fun i hi => ⟨fun idle => ?_, fun e he ha => ?_, ?_⟩,
    fun c hc => ⟨?_, ?_, fun silent => ?_, fun i hi => ?_⟩⟩
  · rw [taken, getD_map_range _ _ _ (List.mem_range.1 hi), State.streamOf_none idle]
  · rw [taken, getD_map_range _ _ _ (List.mem_range.1 hi), State.streamOf_active ha he]
    refine ⟨_, rfl, rfl, rfl, rfl, rfl, fun b hb => State.enables_iff _ i (List.mem_range.1 hb), fun k => ?_, fun k => ?_,
      fun p _ k => ?_, fun c hc => ?_⟩
    · show Option.map _ _ = none
      rw [k]; rfl
    · show Option.map _ _ = _
      rw [k]; rfl
    · show Option.map _ _ = _
      rw [k]; rfl
    · rw [getD_map_range _ _ _ (List.mem_range.1 hc)]
      exact State.rescueAir_eq _ c i
  · rw [taken, getD_map_range _ _ _ (List.mem_range.1 hi)]
    rfl
  · have bits := getLsbD_foldl_twoPow (fun c => ((s.frameClose f).channel c).keyed) (List.range 8) 0#8 (List.mem_range.1 hc)
    rw [taken]
    refine bits.trans ?_
    simp [List.mem_range.1 hc, key c (List.mem_range.1 hc), Channel.keys]
  · have bits := getLsbD_foldl_twoPow (fun c => ((s.frameClose f).channel c).keyed) (List.range 8) 0#8 (List.mem_range.1 hc)
    have keyed : (s.frameClose f).out.keyed.getLsbD c = true ↔ ((s.frameClose f).channel c).keyed = true := by
      rw [taken]
      refine bits.trans ?_
      simp [List.mem_range.1 hc]
    rw [taken, getD_map_range _ _ _ (List.mem_range.1 hc)]
    rw [taken] at keyed
    simp only [keyed]
  · rw [taken, getD_map_range _ _ _ (List.mem_range.1 hc), State.passedOn, out, silent]
  · rw [taken, getD_map_range _ _ _ (List.mem_range.1 hc), State.passedOn_of_source f (by rw [out]; exact hi), State.isActive,
      State.isActive, State.ru_congr table, out]
    generalize (if ((L.ru i).state == RuState.active) = true then (L.ru i).serving
      else (s.out.streams.getD i none).map (·.port)) = e
    cases e <;> rfl

end Sys2Proof.Machine
end

section
/-! The epoch boundary: the delay survey and the alignment (R17, R18, R29 to R31). -/

namespace Sys2Proof.Machine

/-! ### The survey on one entry (R17, R18) -/

/-- The entry after the survey of one end. -/
def RuEntry.surveyed (r : RuEntry) (e : ChainEnd) : RuEntry :=
  if (r.state = .joining ∨ r.state = .active) ∧ (r.view e).reach = true then
    r.modView e fun v => { v with delay := surveyTable v.delay v.echo }
  else r

theorem adopt_estimate (stored : Option Nat) (x : Echo) : adopt stored (estimate x) = surveyTable stored (some x) := by
  unfold adopt estimate surveyTable
  cases stored with
  | none => rfl
  | some o =>
    dsimp only
    generalize min ((x.rtt - x.trn + 1) / 2) 32767 = d
    by_cases far : o + 2 < d ∨ d + 2 < o
    · rw [if_pos far, if_neg (by omega)]
    · rw [if_neg far, if_pos (by omega)]

theorem EndView.surveyTable_of_silent {v : EndView} (h : v.echo = none) :
    { v with delay := surveyTable v.delay v.echo } = v := by
  obtain ⟨_, _, _, _, _⟩ := v
  subst h
  rfl

theorem RuEntry.modView_self (r : RuEntry) (e : ChainEnd) (g : EndView → EndView) (h : g (r.view e) = r.view e) :
    r.modView e g = r := by
  cases e <;> simp only [RuEntry.modView, RuEntry.view] at h ⊢ <;> rw [h]

theorem RuEntry.modView_congr (r : RuEntry) (e : ChainEnd) (g k : EndView → EndView) (h : g (r.view e) = k (r.view e)) :
    r.modView e g = r.modView e k := by
  cases e <;> simp only [RuEntry.modView, RuEntry.view] at h ⊢ <;> rw [h]

theorem RuEntry.modView_view (r : RuEntry) (e e' : ChainEnd) (g : EndView → EndView) :
    (r.modView e g).view e' = if e' = e then g (r.view e') else r.view e' := by
  cases e <;> cases e' <;> rfl

theorem RuEntry.modView_fields (r : RuEntry) (e : ChainEnd) (g : EndView → EndView) :
    (r.modView e g).state = r.state ∧ (r.modView e g).serving = r.serving := by
  cases e <;> exact ⟨rfl, rfl⟩

theorem State.surveyEnd_puts (s : State) {i : Nat} (hi : i < s.n) (e : ChainEnd) :
    s.Puts (s.surveyEnd i e) i ((s.ru i).surveyed e) := by
  unfold State.surveyEnd RuEntry.surveyed
  dsimp only
  split
  · cases he : ((s.ru i).view e).echo with
    | none =>
      dsimp only
      rw [RuEntry.modView_self _ _ _ (EndView.surveyTable_of_silent he)]
      exact State.Puts.refl hi
    | some x =>
      dsimp only
      have put := s.modRu_puts hi fun r => r.modView e fun v =>
        { v with delay := adopt ((s.ru i).view e).delay (estimate x) }
      have same := RuEntry.modView_congr (s.ru i) e
        (fun v => { v with delay := adopt ((s.ru i).view e).delay (estimate x) })
        (fun v => { v with delay := surveyTable v.delay v.echo }) (by rw [adopt_estimate, ← he])
      rw [← same]
      exact put.keep (State.markIf_frame State.lpc (State.markRu_lpc _ i))
  · exact State.Puts.refl hi

theorem State.surveyEnd_grows (s : State) (i : Nat) (e : ChainEnd) : State.Grows State.sansUnits s (s.surveyEnd i e) := by
  unfold State.surveyEnd
  dsimp only
  split
  · split
    · exact .refl s
    · exact (s.modRu_grows i _).trans (.markIf (State.markRu_grows _ i))
  · exact .refl s

/-- The survey of one end on an entry: the delay by the table, where the unit is surveyed there; nothing else. -/
theorem RuEntry.surveyed_view (r : RuEntry) (e e' : ChainEnd) :
    (r.surveyed e).view e' =
      if e' = e ∧ (r.state = .joining ∨ r.state = .active) ∧ (r.view e').reach = true then
        { r.view e' with delay := surveyTable (r.view e').delay (r.view e').echo }
      else r.view e' := by
  unfold RuEntry.surveyed
  by_cases he : e' = e
  · subst he
    by_cases h : (r.state = .joining ∨ r.state = .active) ∧ (r.view e').reach = true
    · rw [if_pos h, if_pos ⟨rfl, h⟩, RuEntry.modView_view, if_pos rfl]
    · rw [if_neg h, if_neg fun k => h k.2]
  · have other : ¬ (e' = e ∧ (r.state = .joining ∨ r.state = .active) ∧ (r.view e').reach = true) := fun k => he k.1
    rw [if_neg other]
    split
    · rw [RuEntry.modView_view, if_neg he]
    · rfl

theorem RuEntry.surveyed_fields (r : RuEntry) (e : ChainEnd) :
    (r.surveyed e).state = r.state ∧ (r.surveyed e).serving = r.serving := by
  unfold RuEntry.surveyed
  split
  · exact r.modView_fields e _
  · exact ⟨rfl, rfl⟩

/-- The delay of one end after both ends have been surveyed. -/
theorem RuEntry.surveyed_delay (r : RuEntry) (e : ChainEnd) :
    ((((r.surveyed .a).surveyed .b)).view e).delay =
      if (r.state = .joining ∨ r.state = .active) ∧ r.reach e = true then
        surveyTable (r.view e).delay (r.view e).echo
      else (r.view e).delay := by
  rw [RuEntry.surveyed_view, RuEntry.surveyed_view, (r.surveyed_fields .a).1, RuEntry.reach]
  cases e
  · simp only [reduceCtorEq, false_and, if_false, true_and]
    split <;> rfl
  · simp only [reduceCtorEq, false_and, if_false, true_and]
    split <;> rfl

theorem State.n_of_sansUnits {s t : State} (h : t.sansUnits = s.sansUnits) : t.n = s.n := by
  have same : t.sansUnits.lpc.rus.length = s.sansUnits.lpc.rus.length := by rw [h]
  simpa [State.sansUnits, State.n] using same

theorem State.survey_grows (s : State) : State.Grows State.sansUnits s s.survey :=
  .each fun v i _ => (v.surveyEnd_grows i .a).trans (State.surveyEnd_grows _ i .b)

theorem State.survey_n (s : State) : s.survey.n = s.n := State.n_of_sansUnits s.survey_grows.same

theorem State.survey_ru (s : State) {i : Nat} (hi : i < s.n) :
    s.survey.ru i = ((s.ru i).surveyed .a).surveyed .b := by
  have both : ∀ v : State, ∀ j < v.n, v.Puts ((v.surveyEnd j .a).surveyEnd j .b) j (((v.ru j).surveyed .a).surveyed .b) := by
    intro v j hj
    have first := v.surveyEnd_puts hj .a
    have second := State.surveyEnd_puts _ (first.n ▸ hj) .b
    rw [first.ru hj] at second
    exact first.trans second
  obtain ⟨v, hv, hvi, -, hend⟩ :=
    State.each_at (fun t => t.ru i) (s := s) (p := State.sansUnits)
      (f := fun t j => (t.surveyEnd j .a).surveyEnd j .b) List.nodup_range (List.mem_range.2 hi)
      (fun v j _ => (v.surveyEnd_grows j .a).trans (State.surveyEnd_grows _ j .b)) fun t ht j hj hne =>
        (both t j (by rw [State.n_of_sansUnits ht]; exact List.mem_range.1 hj)).ru_ne hne.symm
  have hin : i < v.n := by rw [State.n_of_sansUnits hv.same]; exact hi
  exact hend.trans (((both v i hin).ru hin).trans (by rw [hvi]))

/-! ### The alignment (R29 to R31) -/

theorem foldl_max_spec (l : List Nat) (a : Nat) :
    l.foldl max a ∈ a :: l ∧ ∀ d ∈ a :: l, d ≤ l.foldl max a := by
  induction l generalizing a with
  | nil => simp
  | cons x l ih =>
    obtain ⟨hm, hle⟩ := ih (max a x)
    have top := hle (max a x) List.mem_cons_self
    refine ⟨?_, fun d hd => ?_⟩
    · rcases List.mem_cons.1 hm with h | h
      · rw [List.foldl_cons, h]
        rcases Nat.le_total a x with hax | hax
        · rw [Nat.max_eq_right hax]; simp
        · rw [Nat.max_eq_left hax]; simp
      · exact List.mem_cons_of_mem _ (List.mem_cons_of_mem _ h)
    · rw [List.foldl_cons]
      rcases List.mem_cons.1 hd with rfl | hd
      · omega
      · rcases List.mem_cons.1 hd with rfl | hd
        · omega
        · exact hle d (List.mem_cons_of_mem _ hd)

theorem foldl_min_spec (l : List Nat) (a : Nat) :
    l.foldl min a ∈ a :: l ∧ ∀ d ∈ a :: l, l.foldl min a ≤ d := by
  induction l generalizing a with
  | nil => simp
  | cons x l ih =>
    obtain ⟨hm, hle⟩ := ih (min a x)
    have bottom := hle (min a x) List.mem_cons_self
    refine ⟨?_, fun d hd => ?_⟩
    · rcases List.mem_cons.1 hm with h | h
      · rw [List.foldl_cons, h]
        rcases Nat.le_total a x with hax | hax
        · rw [Nat.min_eq_left hax]; simp
        · rw [Nat.min_eq_right hax]; simp
      · exact List.mem_cons_of_mem _ (List.mem_cons_of_mem _ h)
    · rw [List.foldl_cons]
      rcases List.mem_cons.1 hd with rfl | hd
      · omega
      · rcases List.mem_cons.1 hd with rfl | hd
        · omega
        · exact hle d (List.mem_cons_of_mem _ hd)

/-- T_target from the longest and the shortest of the delays in hand (R29). -/
theorem targetOf_spec {delays : List Nat} (h : delays ≠ []) (guardDu : Nat) :
    ∃ least ∈ delays, ∃ most ∈ delays, (∀ d ∈ delays, least ≤ d ∧ d ≤ most) ∧
      targetOf delays guardDu = min (min (most + guardDu) (least + 16383)) 32767 := by
  obtain ⟨x, l, rfl⟩ := List.exists_cons_of_ne_nil h
  obtain ⟨minMem, minLe⟩ := foldl_min_spec l x
  obtain ⟨maxMem, maxLe⟩ := foldl_max_spec l x
  have top : (x :: l).foldl max 0 = l.foldl max x := by rw [List.foldl_cons, Nat.max_eq_right (Nat.zero_le x)]
  refine ⟨_, minMem, _, maxMem, fun d hd => ⟨minLe d hd, maxLe d hd⟩, ?_⟩
  rw [targetOf, top]
  rfl

theorem slew_eq (applied target : Nat) :
    slew applied target =
      if target ≤ applied + 25 ∧ applied ≤ target + 25 then target
      else if applied < target then applied + 25 else applied - 25 := by
  unfold slew
  repeat' split
  all_goals omega

/-- The hold and the flag of a unit, by the table of R31. -/
theorem RuEntry.align_eq (r : RuEntry) (applied : Nat) :
    r.align applied =
      holdTable (r.state == .active) applied (r.serving.bind fun e => (r.view e).delay) := by
  unfold RuEntry.align RuEntry.servingDelay holdTable
  by_cases h : r.state = .active
  · simp only [h, if_true, beq_self_eq_true]
    cases r.serving.bind fun e => (r.view e).delay with
    | none => rfl
    | some d =>
      dsimp only
      by_cases hd : applied < d
      · rw [if_pos hd, if_pos hd]
      · rw [if_neg hd, if_neg hd]
        by_cases hs : applied - d ≤ 16383
        · rw [if_pos hs, if_neg (by omega)]
        · rw [if_neg hs, if_pos (by omega)]
  · rw [if_neg h, if_neg (by simpa using h)]

/-- One unit's part of the alignment. -/
def State.alignOne (s : State) (i : Nat) : State :=
  let r := s.ru i
  let x := r.align s.sau.applied
  (s.modRu i fun r => { r with hold := x.1, aligned := x.2 }).markIf (r.aligned != x.2) (·.markRu i)

/-- The alignment unit after T_target and T_applied are formed, the units not yet. -/
def State.formTarget (s : State) : State :=
  s.modSau fun u => u.boundary (s.lpc.rus.filterMap RuEntry.servingDelay) (s.lpc.rus.any fun r => r.state == .active)

theorem State.alignAll_eq (s : State) : s.alignAll = s.formTarget.each (List.range s.n) State.alignOne := rfl

theorem State.alignOne_grows (s : State) (i : Nat) : State.Grows State.sansUnits s (s.alignOne i) :=
  (s.modRu_grows i _).trans (.markIf (State.markRu_grows _ i))

theorem State.alignOne_puts (s : State) {i : Nat} (hi : i < s.n) :
    s.Puts (s.alignOne i) i
      { s.ru i with hold := ((s.ru i).align s.sau.applied).1, aligned := ((s.ru i).align s.sau.applied).2 } :=
  (s.modRu_puts hi fun r =>
    { r with hold := ((s.ru i).align s.sau.applied).1, aligned := ((s.ru i).align s.sau.applied).2 }).keep
      (State.markIf_frame State.lpc (State.markRu_lpc _ i))

theorem State.alignAll_grows (s : State) : State.Grows State.sansUnits s.formTarget s.alignAll := by
  rw [State.alignAll_eq]
  exact .each fun v i _ => v.alignOne_grows i

theorem State.Grows.sau_units {s t : State} (h : State.Grows State.sansUnits s t) : t.sau = s.sau :=
  show t.sansUnits.sau = s.sansUnits.sau by rw [h.same]

theorem State.alignAll_ru (s : State) {i : Nat} (hi : i < s.n) :
    s.alignAll.ru i =
      { s.ru i with
        hold := ((s.ru i).align s.alignAll.sau.applied).1, aligned := ((s.ru i).align s.alignAll.sau.applied).2 } := by
  have sau := s.alignAll_grows.sau_units
  obtain ⟨v, hv, hvi, -, hend⟩ :=
    State.each_at (fun t => t.ru i) (s := s.formTarget) (p := State.sansUnits) (f := State.alignOne)
      List.nodup_range (List.mem_range.2 hi) (fun v j _ => v.alignOne_grows j) fun t ht j hj hne =>
        (t.alignOne_puts (by rw [State.n_of_sansUnits ht]; exact List.mem_range.1 hj)).ru_ne hne.symm
  have hin : i < v.n := by rw [State.n_of_sansUnits hv.same]; exact hi
  rw [← State.alignAll_eq] at hend
  refine hend.trans (((v.alignOne_puts hin).ru hin).trans ?_)
  rw [hvi, hv.sau_units, sau]
  rfl

/-! ### The delays in hand (R29) -/

theorem State.rus_eq (s : State) : s.lpc.rus = (List.range s.n).map s.ru := by
  refine List.ext_getElem (by simp [State.n]) fun i h₁ h₂ => ?_
  simp only [List.getElem_map, List.getElem_range]
  exact (State.ru_eq h₁).symm

theorem State.filterMap_rus {β : Type} (s : State) (g : RuEntry → Option β) :
    s.lpc.rus.filterMap g = (List.range s.n).filterMap fun i => g (s.ru i) := by
  conv_lhs => rw [s.rus_eq]
  rw [List.filterMap_map]
  rfl

theorem State.any_rus (s : State) : (s.lpc.rus.any fun r => r.state == .active) = (List.range s.n).any s.isActive := by
  conv_lhs => rw [s.rus_eq]
  rw [List.any_map]
  rfl

/-! ### The epoch boundary put together -/

/-- What an epoch boundary leaves unchanged, with the boundary that it records as taken. -/
def State.besidesEpoch (s : State) :
    Nat × Nat × Zmg × Pbe × List Band × Bim × Lvq × Apl × Csc × Flash × Nat × Nat :=
  (s.epochAt, s.now, s.zmg, s.pbe, s.bands, s.bim, s.lvq, s.apl, s.csc, s.flash, s.lpc.rA, s.lpc.rB)

theorem State.Grows.besidesEpoch {s t : State} (h : State.Grows State.sansUnits s t) : t.besidesEpoch = s.besidesEpoch :=
  (h.map (q := State.besidesEpoch) State.besidesEpoch fun _ => rfl).same

theorem State.latchOutputs_besidesEpoch (s : State) : s.latchOutputs.besidesEpoch = s.besidesEpoch := by
  unfold State.latchOutputs; split <;> rfl

theorem State.latchOutputs_sau (s : State) : s.latchOutputs.sau = s.sau := by
  unfold State.latchOutputs; split <;> rfl

theorem exec_epochBoundary {s : State} (on : s.power = .on) (due : s.epochDue = true) :
    exec .epochBoundary s = .next s.epochBoundary.settle := by
  show s.whenOn (fun s => if s.epochDue then s.epochBoundary else s) = _
  rw [State.whenOn, if_pos on, if_pos due]

/-- The state as the epoch boundary begins: the boundary is recorded as taken. -/
def State.atEpoch (s : State) : State := { s with epochAt := s.now }

theorem State.epochBoundary_eq (s : State) : s.epochBoundary = s.atEpoch.survey.alignAll.latchOutputs := rfl

theorem State.alignAll_n (s : State) : s.alignAll.n = s.n :=
  (State.n_of_sansUnits s.alignAll_grows.same).trans rfl

theorem State.epochBoundary_lpc (s : State) : s.epochBoundary.lpc = s.atEpoch.survey.alignAll.lpc :=
  State.latchOutputs_lpc _

theorem State.epochBoundary_n (s : State) : s.epochBoundary.n = s.n :=
  (congrArg (fun l : Lpc => l.rus.length) s.epochBoundary_lpc).trans
    ((State.alignAll_n _).trans (State.survey_n s.atEpoch))

theorem State.epochBoundary_besides (s : State) : s.epochBoundary.besidesEpoch = s.atEpoch.besidesEpoch :=
  (State.latchOutputs_besidesEpoch _).trans
    ((State.alignAll_grows _).besidesEpoch.trans (State.survey_grows s.atEpoch).besidesEpoch)

theorem State.epochBoundary_sau (s : State) :
    s.epochBoundary.sau =
      s.sau.boundary (s.atEpoch.survey.lpc.rus.filterMap RuEntry.servingDelay) ((List.range s.n).any s.isActive) := by
  have active : ∀ i ∈ List.range s.n, s.atEpoch.survey.isActive i = s.isActive i := by
    intro i hi
    rw [State.isActive, State.survey_ru s.atEpoch (List.mem_range.1 hi), (RuEntry.surveyed_fields _ .b).1,
      (RuEntry.surveyed_fields _ .a).1]
    rfl
  have any : (s.atEpoch.survey.lpc.rus.any fun r => r.state == .active) = (List.range s.n).any s.isActive := by
    rw [State.any_rus, State.survey_n, show s.atEpoch.n = s.n from rfl, Bool.eq_iff_iff, List.any_eq_true, List.any_eq_true]
    exact exists_congr fun i => and_congr_right fun hi => by rw [active i hi]
  rw [State.epochBoundary_eq, State.latchOutputs_sau, (State.alignAll_grows _).sau_units, ← any]
  show Sau.boundary s.atEpoch.survey.sau _ _ = _
  rw [s.atEpoch.survey_grows.sau_units]
  rfl

/-- One entry through an epoch boundary: both ends surveyed, then the hold and the flag by the new T_applied. -/
theorem State.epochBoundary_ru (s : State) {i : Nat} (hi : i < s.n) :
    s.epochBoundary.ru i =
      { ((s.ru i).surveyed .a).surveyed .b with
        hold := ((((s.ru i).surveyed .a).surveyed .b).align s.epochBoundary.sau.applied).1
        aligned := ((((s.ru i).surveyed .a).surveyed .b).align s.epochBoundary.sau.applied).2 } := by
  have sau : s.epochBoundary.sau = s.atEpoch.survey.alignAll.sau := State.latchOutputs_sau _
  rw [State.ru_congr s.epochBoundary_lpc, State.alignAll_ru _ (by rw [State.survey_n]; exact hi),
    State.survey_ru s.atEpoch hi, ← sau]
  rfl

/-- The set D is that of the delays which the survey leaves: the alignment changes none. -/
theorem State.epochBoundary_delaysInHand (s : State) :
    s.epochBoundary.delaysInHand = s.atEpoch.survey.lpc.rus.filterMap RuEntry.servingDelay := by
  rw [State.filterMap_rus, State.survey_n, State.delaysInHand, State.epochBoundary_n]
  refine List.filterMap_congr fun i hi => ?_
  rw [s.epochBoundary_ru (List.mem_range.1 hi), State.survey_ru s.atEpoch (List.mem_range.1 hi)]
  rfl

/-- Settles O18: the survey entry by entry, then T_target and T_applied from the delays that it leaves, then the holds. -/
theorem epochBoundarySurveysAndAligns : Obligations.EpochBoundarySurveysAndAligns := by
  have state : ∀ (s : State) (i : Nat), i < s.n →
      (s.epochBoundary.ru i).state = (s.ru i).state ∧ (s.epochBoundary.ru i).serving = (s.ru i).serving := by
    intro s i hi
    rw [s.epochBoundary_ru hi]
    exact ⟨(RuEntry.surveyed_fields _ .b).1.trans (RuEntry.surveyed_fields _ .a).1,
      (RuEntry.surveyed_fields _ .b).2.trans (RuEntry.surveyed_fields _ .a).2⟩
  constructor
  · intro s on due
    have besides := s.epochBoundary_besides
    simp only [State.besidesEpoch, Prod.mk.injEq] at besides
    obtain ⟨epochAt, now, zmg, pbe, bands, bim, lvq, apl, csc, flash, rA, rB⟩ := besides
    refine ⟨_, exec_epochBoundary on due, s.epochBoundary_n, epochAt, now, zmg, pbe, bands, bim, lvq, apl, csc, flash, rA,
      rB, fun i hi => ⟨(state s i (List.mem_range.1 hi)).1, (state s i (List.mem_range.1 hi)).2, fun e _ => ?_⟩⟩
    rw [s.epochBoundary_ru (List.mem_range.1 hi)]
    exact RuEntry.surveyed_delay _ e
  · intro s on due
    have sau := s.epochBoundary_sau
    rw [← State.epochBoundary_delaysInHand] at sau
    refine ⟨_, exec_epochBoundary on due, ?_, ?_, fun none => ?_, fun some => ⟨?_, ?_⟩, fun i hi => ?_⟩
    · rw [sau, Sau.boundary]; split <;> rfl
    · rw [sau, Sau.boundary]; split <;> rfl
    · rw [sau, Sau.boundary, if_pos none]; exact ⟨rfl, rfl⟩
    · rw [sau, Sau.boundary, if_neg some]
      exact targetOf_spec some _
    · rw [sau, Sau.boundary, if_neg some]
      dsimp only
      rw [slew_eq]
    · have alignment : ((s.epochBoundary.ru i).hold, (s.epochBoundary.ru i).aligned) =
          (((s.ru i).surveyed .a).surveyed .b).align s.epochBoundary.sau.applied := by
        rw [s.epochBoundary_ru (List.mem_range.1 hi)]
      rw [alignment, RuEntry.align_eq, s.epochBoundary_ru (List.mem_range.1 hi), (RuEntry.surveyed_fields _ .b).1,
        (RuEntry.surveyed_fields _ .a).1]
      rfl

end Sys2Proof.Machine
end

section
/-! SET_LOOP: the guard alone, a refusal, or the loop re-formed (R22, R23, R36, R41, R46, R79). -/

namespace Sys2Proof.Machine

/-! ### The request and its checks -/

/-- The part after it has taken a SET_LOOP into a slot: the receiver hunts, the slot waits. -/
def State.seated (s : State) (tag : Octet) : State := s.hunt.takeSlot 0x10#8 tag

/-- A SET_LOOP that is accepted and answered: `u` is what its handling makes of the state without the slot. -/
theorem exec_setLoop {s u : State} {tag : Octet} {body : List Octet} {st : Status} {fields : List Octet} (h : s.accepts tag)
    (hb : body.length = 123)
    (hu : handleSetLoop tag body (s.seated tag) =
      ({ u with clp := { u.clp with receiver := .hunting, slots := u.clp.slots ++ [⟨0x10#8, tag, .waiting⟩] } } : State).answer
        tag st fields)
    (hs : ∀ x ∈ u.clp.slots, x.tag ≠ tag) :
    exec (.setLoop tag body) s = .next (u.replied 0x10#8 tag st fields) := by
  show s.whenOn (fun s => s.hunt.request 0x10#8 tag (body.length == 123) (handleSetLoop tag body)) = _
  have fits : (body.length == 123) = true := by simpa using hb
  rw [State.whenOn, if_pos h.1.1, fits, State.request_replied h.1 (.inl h.2) hu hs]

/-- A SET_LOOP whose handling is an answer alone. -/
theorem exec_setLoop_of_answer {s : State} {tag : Octet} {body : List Octet} {st : Status} {fields : List Octet}
    (h : s.accepts tag) (hb : body.length = 123)
    (hu : handleSetLoop tag body (s.seated tag) = (s.seated tag).answer tag st fields) :
    exec (.setLoop tag body) s = .next (s.replied 0x10#8 tag st fields) :=
  exec_setLoop h hb hu h.1.2.2.1

/-- The three outcomes of a SET_LOOP by its checks (R22). -/
theorem handleSetLoop_of_valid {s : State} {tag : Octet} {body : List Octet} (he : s.anyEmergency = false)
    (h1 : 1 ≤ u8 body 0) (h24 : u8 body 0 ≤ 24) (hc : ∀ i ∈ List.range (u8 body 0), u8 body (7 + 5 * i) ≤ 2) :
    handleSetLoop tag body s =
      if s.sameLoop (loopEntries body (u8 body 0)) then
        (s.modSau fun u => { u with guardDu := min (u16 body 1) 500 }).answer tag .ok []
      else (s.reform (loopEntries body (u8 body 0)) (min (u16 body 1) 500)).answer tag .ok [] := by
  have codes : ((List.range (u8 body 0)).any fun i => 2 < loopCode body i) = false := by
    rw [List.any_eq_false]
    intro i hi
    exact ne_true_of_eq_false (decide_eq_false (Nat.not_lt.2 (hc i hi)))
  have guard : clamp 0 500 (u16 body 1) = min (u16 body 1) 500 := by simp [clamp]
  unfold handleSetLoop
  dsimp only
  rw [he, if_neg (by simp), if_neg (by rw [codes]; simp; omega), guard]

theorem handleSetLoop_of_invalid {s : State} {tag : Octet} {body : List Octet} (he : s.anyEmergency = false)
    (h : u8 body 0 < 1 ∨ 24 < u8 body 0 ∨ ∃ i ∈ List.range (u8 body 0), 2 < u8 body (7 + 5 * i)) :
    handleSetLoop tag body s = s.answer tag .invalid [] := by
  unfold handleSetLoop
  dsimp only
  rw [he, if_neg (by simp), if_pos]
  rw [List.any_eq_true]
  exact h.imp_right (Or.imp_right fun ⟨i, hi, code⟩ => ⟨i, hi, decide_eq_true code⟩)

theorem handleSetLoop_of_emergency {s : State} {tag : Octet} {body : List Octet} (he : s.anyEmergency = true) :
    handleSetLoop tag body s = s.answer tag .emergency [] := by
  unfold handleSetLoop
  dsimp only
  rw [if_pos he]

/-- The entries that a SET_LOOP asks for, in the terms of R7 and R22. -/
theorem loopEntries_eq (body : List Octet) (n : Nat) :
    loopEntries body n = (List.range n).map fun i => RuEntry.initial (w32 body (3 + 5 * i)) (endAsked body n i) := rfl

/-- A SET_LOOP repeats the stored chain where the model's comparison says so (R23). -/
theorem State.sameLoop_iff (s : State) (body : List Octet) :
    s.sameLoop (loopEntries body (u8 body 0)) = true ↔ s.loopRepeats body := by
  unfold State.sameLoop State.loopRepeats
  rw [beq_iff_eq, s.rus_eq, loopEntries_eq, List.map_map, List.map_map]
  constructor
  · intro h
    have length : s.n = u8 body 0 := by simpa using congrArg List.length h
    refine ⟨length.symm, fun i hi => ?_⟩
    rw [← length] at h
    have here := List.map_inj_left.1 h i hi
    exact ⟨congrArg Prod.fst here, congrArg Prod.snd here⟩
  · rintro ⟨length, h⟩
    rw [length]
    exact List.map_congr_left fun i hi => Prod.ext (h i hi).1 (h i hi).2

/-! ### The re-form before the Zone Manager's part (R22 step 5, R36, R79, R128, R135) -/

/-- Every ACTIVE unit has left ACTIVE. -/
def State.allLeft (s : State) : State :=
  s.each ((List.range s.n).filter s.isActive) fun s i =>
    (s.modRu i fun r => { r with state := .absent, serving := none }).leaveActive i

/-- The engine's records resized, the table, the depths and the guard written, the continuity flag cleared, the units marked. -/
def State.rewritten (s : State) (new : List RuEntry) (guardDu : Nat) : State :=
  (((s.resizePower new.length).modLpc fun _ => ⟨new, 0, 0⟩).modSau fun u =>
    { u with guardDu := guardDu, continuity := false }).modMarks fun m =>
      { m with ru := ZoneSet.below (fun _ => true) new.length }

/-- The loop re-formed, but for the Zone Manager's part. -/
def State.reformed (s : State) (new : List RuEntry) (guardDu : Nat) : State :=
  ((s.allLeft.rewritten new guardDu).reformGates new.length).reformWinners new.length

/-- What the re-form leaves unchanged before the Zone Manager's part. -/
def State.besidesReform (s : State) :
    Zmg × Lvq × Flash × Outputs × Apl × Csc × List Slot × Receiver × PartState :=
  (s.zmg, s.lvq, s.flash, s.out, s.apl, s.csc, s.clp.slots, s.clp.receiver, s.clp.part)

theorem State.Grows.besidesReform_loop {s t : State} (h : State.Grows State.sansLoop s t) : t.besidesReform = s.besidesReform :=
  (h.map (q := State.besidesReform) State.besidesReform fun _ => rfl).same

theorem State.reformGates_grows (s : State) (n : Nat) : State.Grows State.sansGates s (s.reformGates n) :=
  .each fun v b _ => by
    refine State.Grows.trans (t := v.modBands _) ⟨?_, .refl _⟩ (.markIf ⟨rfl, fun _ h => h, fun _ h => h, fun h => h⟩)
    simp [State.sansGates, State.modBands, List.map_const']

theorem foldl_frame {α β : Type} (p : State → α) {f : State → β → State} (l : List β) (s : State)
    (hf : ∀ t x, p (f t x) = p t) : p (l.foldl f s) = p s := by
  induction l generalizing s with
  | nil => rfl
  | cons x l ih => exact (ih (f s x)).trans (hf s x)

/-- The winners' re-form changes the mixer and the marks of the break-in sources alone. -/
theorem State.reformWinners_frame {α : Type} (p : State → α) (s : State) (n : Nat)
    (hb : ∀ t g, p (State.modBim t g) = p t) (hm : ∀ t src, p (State.markSource t src) = p t) :
    p (s.reformWinners n) = p s := by
  unfold State.reformWinners
  exact (foldl_frame p _ _ fun t src => State.markIf_frame p (hm t src)).trans (hb s _)

/-- What the winners' re-form leaves unchanged of what the re-form has written and kept. -/
def State.besidesWinners (s : State) := (s.besidesReform, s.lpc, s.sau, s.pbe, s.clp.marks.ru)

theorem State.markSource_besides (s : State) (src : Source) : (s.markSource src).besidesWinners = s.besidesWinners := by
  cases src <;> rfl

theorem State.reformWinners_besides (s : State) (n : Nat) : (s.reformWinners n).besidesWinners = s.besidesWinners :=
  State.reformWinners_frame State.besidesWinners s n (fun _ _ => rfl) State.markSource_besides

theorem State.Grows.besidesWinners_gates {s t : State} (h : State.Grows State.sansGates s t) :
    t.besidesWinners = s.besidesWinners :=
  (h.map (q := State.besidesWinners) State.besidesWinners fun _ => rfl).same

section
variable (s : State) (new : List RuEntry) (guardDu : Nat)

theorem State.rewritten_eq :
    (s.rewritten new guardDu).besidesReform = s.besidesReform ∧ (s.rewritten new guardDu).lpc = ⟨new, 0, 0⟩ ∧
      (s.rewritten new guardDu).sau = { s.sau with guardDu := guardDu, continuity := false } ∧
      (s.rewritten new guardDu).pbe.allocs = List.replicate new.length AllocRecord.off ∧
      (s.rewritten new guardDu).clp.marks.ru = ZoneSet.below (fun _ => true) new.length :=
  ⟨rfl, rfl, rfl, rfl, rfl⟩

theorem State.allLeft_grows : State.Grows State.sansLoop s s.allLeft :=
  .each fun v i _ => (v.modRu_grows i _).loopOfUnits.trans (State.leaveActive_grows _ i)

theorem State.Grows.sau_loop {s t : State} (h : State.Grows State.sansLoop s t) : t.sau = s.sau :=
  show t.sansLoop.sau = s.sansLoop.sau by rw [h.same]

/-- Everything that the re-form has written before the Zone Manager's part, and what it has kept. -/
theorem State.reformed_eq :
    (s.reformed new guardDu).besidesReform = s.besidesReform ∧ (s.reformed new guardDu).lpc = ⟨new, 0, 0⟩ ∧
      (s.reformed new guardDu).sau = { s.sau with guardDu := guardDu, continuity := false } ∧
      (s.reformed new guardDu).pbe.allocs = List.replicate new.length AllocRecord.off ∧
      (s.reformed new guardDu).clp.marks.ru = ZoneSet.below (fun _ => true) new.length := by
  obtain ⟨besides, lpc, sau, allocs, ru⟩ := s.allLeft.rewritten_eq new guardDu
  have kept : (s.reformed new guardDu).besidesWinners = (s.allLeft.rewritten new guardDu).besidesWinners :=
    (State.reformWinners_besides _ _).trans (State.reformGates_grows _ _).besidesWinners_gates
  simp only [State.besidesWinners, Prod.mk.injEq] at kept
  obtain ⟨besides', lpc', sau', pbe', ru'⟩ := kept
  exact ⟨besides'.trans (besides.trans s.allLeft_grows.besidesReform_loop), lpc'.trans lpc,
    sau'.trans (sau.trans (by rw [s.allLeft_grows.sau_loop])), (congrArg Pbe.allocs pbe').trans allocs, ru'.trans ru⟩

end

/-! ### The Zone Manager's part of a re-form (R41) -/

/-- The records and splits resized, the EMERGENCY set not derived yet. -/
def State.resized (s : State) (old : Nat) : State :=
  let t := s.modZmg fun z =>
    { z with
      zones := resize z.zones s.n ⟨0, .normal⟩
      stored := resizeSplit old s.n z.stored
      effective := resizeSplit old s.n z.effective }
  t.markIf (t.zmg.stored != s.zmg.stored || t.zmg.effective != s.zmg.effective ||
    declaredIn s.zmg.incident old != declaredIn s.zmg.incident s.n) State.markIncident

theorem State.resized_zmg (s : State) (old : Nat) :
    (s.resized old).zmg =
      { s.zmg with
        zones := resize s.zmg.zones s.n ⟨0, .normal⟩
        stored := resizeSplit old s.n s.zmg.stored
        effective := resizeSplit old s.n s.zmg.effective } :=
  State.markIf_frame State.zmg rfl

/-- What the resize of the zone table leaves unchanged. -/
def State.besidesZones (s : State) :
    Lpc × Sau × Pbe × Lvq × Flash × Outputs × Apl × Csc × List Slot × Receiver × PartState × BitVec 24 :=
  (s.lpc, s.sau, s.pbe, s.lvq, s.flash, s.out, s.apl, s.csc, s.clp.slots, s.clp.receiver, s.clp.part, s.clp.marks.ru)

theorem State.resized_besides (s : State) (old : Nat) : (s.resized old).besidesZones = s.besidesZones :=
  State.markIf_frame State.besidesZones rfl

theorem getD_resize {α : Type} (l : List α) (n : Nat) (d : α) (i : Nat) :
    (resize l n d).getD i d = if i < n then l.getD i d else d := by
  unfold resize
  rw [List.getD_eq_getElem?_getD, List.getD_eq_getElem?_getD, List.getElem?_append, List.getElem?_take,
    List.getElem?_replicate, List.length_take]
  by_cases h : i < n
  · rw [if_pos h]
    by_cases hl : i < l.length
    · rw [if_pos (by omega), if_pos h]
    · rw [if_neg (by omega), List.getElem?_eq_none (by omega)]
      split <;> rfl
  · rw [if_neg h, if_neg (by omega), if_neg (by omega), if_neg h]
    rfl

theorem length_resize {α : Type} (l : List α) (n : Nat) (d : α) : (resize l n d).length = n := by
  simp [resize]; omega

/-- The zones that newly join the EMERGENCY set, where every zone is NORMAL and only declared positions count (R46). -/
theorem State.joined_mem {s : State} (hn : s.n ≤ 24) (normal : ∀ i < s.n, s.modeOf i = .normal) (whole : s.zmg.whole = false)
    (latch : (s.zmg.latch && s.clp.part == .running) = false) (i : Nat) :
    (s.derivedEmergency &&& ~~~ s.emergencyZones).getLsbD i =
      emergencyTable s.n s.zmg.plan.spread s.zmg.incident false i := by
  have derived : s.derivedEmergency.getLsbD i = emergencyTable s.n s.zmg.plan.spread s.zmg.incident false i := by
    rw [State.derivedEmergency, whole, latch]
    refine (ZoneSet.below_mem _ _ _ hn).trans ?_
    simp only [emergencyTable, State.nearIncident, State.members, List.any_filter, Bool.false_or]
    congr 2
    funext z
    rw [Bool.and_assoc]
  have free : s.emergencyZones.getLsbD i = false := by
    refine (ZoneSet.below_mem _ _ _ hn).trans ?_
    by_cases hi : i < s.n
    · simp [hi, normal i hi]
    · simp [hi]
  rw [BitVec.getLsbD_and, BitVec.getLsbD_not, derived, free]
  by_cases h24 : i < 24
  · simp [h24]
  · have out : ¬ i < s.n := by omega
    simp [emergencyTable, out]

end Sys2Proof.Machine
end

section
/-! SET_LOOP that re-forms the loop: the declared positions that come within N enter EMERGENCY as one set (R41 step 4, R48, R156,
R169). -/

namespace Sys2Proof.Machine

/-! ### A mode change set to EMERGENCY over a loop without an ACTIVE unit -/

/-- What the engine and the relay keep of the state where no unit is ACTIVE. -/
def State.besidesEngine (s : State) := (s.zmg, s.besidesZones)

theorem State.isActive_of_lpc {s t : State} (h : t.lpc = s.lpc) (i : Nat) : t.isActive i = s.isActive i := by
  simp only [State.isActive, State.ru_congr h]

theorem State.lpc_of_besidesEngine {s t : State} (h : t.besidesEngine = s.besidesEngine) : t.lpc = s.lpc :=
  congrArg (fun x => x.2.1) h

theorem State.reportRadiating_besides {s : State} (idle : ∀ i, s.isActive i = false) (c : Nat) (before : ZoneSet) :
    (s.reportRadiating c before).besidesEngine = s.besidesEngine := by
  refine State.each_keeps (P := fun v => v.besidesEngine = s.besidesEngine) (fun v i _ h => ?_) rfl
  have lpc : v.lpc = s.lpc := State.lpc_of_besidesEngine h
  rw [State.recomputeActive, State.isActive_of_lpc lpc, idle i]
  exact h

theorem State.relayModes_besides {s : State} (idle : ∀ i, s.isActive i = false) (old : State) (z : ZoneSet) :
    (s.relayModes old z).besidesEngine = s.besidesEngine := by
  refine State.each_keeps (P := fun v => v.besidesEngine = s.besidesEngine) (fun v c _ h => ?_) rfl
  have marked : ∀ b, (v.markIf b (·.markChannel c)).besidesEngine = s.besidesEngine := fun b =>
    (State.markIf_frame State.besidesEngine rfl).trans h
  dsimp only
  split
  · exact h
  · have lpc : ∀ b, (v.markIf b (·.markChannel c)).lpc = s.lpc := fun b => State.lpc_of_besidesEngine (marked b)
    exact (State.reportRadiating_besides (fun i => (State.isActive_of_lpc (lpc _) i).trans (idle i)) c _).trans (marked _)

theorem State.powerModes_of_idle {s : State} (idle : ∀ i, s.isActive i = false) (relay : State) (z : ZoneSet) :
    s.powerModes relay z = s := by
  have none : (s.members z).filter s.isActive = [] := List.filter_eq_nil_iff.2 fun i _ => by simp [idle i]
  unfold State.powerModes
  rw [none]
  rfl

theorem State.powerAndRelay_besides {s : State} (idle : ∀ i, s.isActive i = false) (old : State) (z : ZoneSet) :
    (s.powerAndRelay old z).besidesEngine = s.besidesEngine := by
  have kept := State.relayModes_besides idle old z
  have lpc : (s.relayModes old z).lpc = s.lpc := State.lpc_of_besidesEngine kept
  unfold State.powerAndRelay
  split
  · rw [State.powerModes_of_idle fun i => (State.isActive_of_lpc lpc i).trans (idle i)]
    exact kept
  · rw [State.powerModes_of_idle idle]
    exact kept

/-- The zones of a mode change set to EMERGENCY. -/
def Zmg.taking (z : Zmg) (zones : ZoneSet) : Zmg :=
  { z with
    zones := z.zones.zipIdx.map fun x => if zones.mem x.2 then { x.1 with mode := .emergency } else x.1
    changes := wrapInc z.changes }

theorem State.emergencyTaken_besides {s : State} (idle : ∀ i, s.isActive i = false) (z : ZoneSet) :
    (s.emergencyTaken z).zmg = s.zmg.taking z ∧ (s.emergencyTaken z).besidesZones = s.besidesZones ∧
      (s.emergencyTaken z).clp.marks.incident = true := by
  obtain ⟨t, ht⟩ : ∃ t : State, t = ((s.setModes z .emergency).modZmg fun z => { z with changes := wrapInc z.changes }).markIncident :=
    ⟨_, rfl⟩
  have start : t.zmg = s.zmg.taking z ∧ t.besidesZones = s.besidesZones ∧ t.clp.marks.incident = true ∧ t.lpc = s.lpc := by
    subst ht; exact ⟨rfl, rfl, rfl, rfl⟩
  obtain ⟨zmg, besides, marked, lpc⟩ := start
  have engine := State.powerAndRelay_besides (fun i => (State.isActive_of_lpc lpc i).trans (idle i)) s z
  have gates := (State.forceGates_grows (t.powerAndRelay s z) z).map (q := State.besidesEngine) State.besidesEngine fun _ => rfl
  have all : (s.emergencyTaken z).besidesEngine = t.besidesEngine := by
    rw [State.emergencyTaken, ← ht]
    exact gates.same.trans engine
  refine ⟨(congrArg Prod.fst all).trans zmg, (congrArg Prod.snd all).trans besides, ?_⟩
  rw [State.emergencyTaken, ← ht]
  exact gates.marks.incident ((State.powerAndRelay_grows t s z).marks.incident marked)

/-! ### The slot of the request while an upload is given up (R169, R175) -/

/-- A request waits in the youngest slot, and no other slot has its tag. -/
def State.waitsLast (s : State) (kind tag : Octet) : Prop :=
  ∃ l : List Slot, s.clp.slots = l ++ [⟨kind, tag, .waiting⟩] ∧ ∀ x ∈ l, x.tag ≠ tag

theorem State.waitsLast_of_slots {s t : State} {kind tag : Octet} (h : s.waitsLast kind tag) (ht : t.clp.slots = s.clp.slots) :
    t.waitsLast kind tag := by
  unfold State.waitsLast
  rwa [ht]

/-- A reply to another request leaves it waiting. -/
theorem State.waitsLast_answer {s : State} {kind tag : Octet} (h : s.waitsLast kind tag) {t : Octet} (ht : t ≠ tag) (st : Status)
    (fields : List Octet) : (s.answer t st fields).waitsLast kind tag := by
  obtain ⟨l, slots, free⟩ := h
  cases hf : s.clp.slots.find? (Slot.waits t) with
  | none =>
    exact ⟨l, (congrArg Clp.slots (Clp.answer_of_not_waiting st fields hf)).trans slots, free⟩
  | some x =>
    have stays : (Slot.waits t ⟨kind, tag, .waiting⟩) = false := by simp [Slot.waits, ht.symm]
    refine ⟨l.map fun y => if y.waits t then { y with phase := .queued } else y, ?_, fun y hy => ?_⟩
    · refine (congrArg Clp.slots (Clp.answer_of_waiting st fields hf)).trans ?_
      simp [slots, stays]
    · obtain ⟨z, hz, rfl⟩ := List.mem_map.1 hy
      have := free z hz
      split <;> exact this

theorem State.waitsLast_answerOpt {s : State} {kind tag : Octet} (h : s.waitsLast kind tag) {t : Option Octet}
    (ht : ∀ x ∈ t, x ≠ tag) (st : Status) (fields : List Octet) : (s.answerOpt t st fields).waitsLast kind tag := by
  cases t with
  | none => exact h
  | some x => exact State.waitsLast_answer h (ht x rfl) st fields

theorem State.waitsLast_answerWaiting {s : State} {kind tag : Octet} (h : s.waitsLast kind tag) {ws : List WaitingData}
    (hw : ∀ w ∈ ws, w.tag ≠ tag) (st : Status) : (s.answerWaiting ws st).waitsLast kind tag := by
  induction ws generalizing s with
  | nil => exact h
  | cons w ws ih =>
    exact ih (State.waitsLast_answer h (hw w List.mem_cons_self) st []) fun x hx => hw x (List.mem_cons_of_mem w hx)

/-- The tags that an upload owes replies to. -/
def Upload.tags (u : Upload) : List Octet := u.beginTag.toList ++ u.waiting.map (·.tag) ++ u.endTag.toList

/-- An upload that is given up answers its own requests alone. -/
theorem State.waitsLast_abortUpload {s : State} {kind tag : Octet} (h : s.waitsLast kind tag)
    (hu : ∀ u ∈ s.csc.upload, tag ∉ u.tags) : s.abortUpload.waitsLast kind tag := by
  cases hs : s.csc.upload with
  | none => rwa [State.abortUpload_of_none hs]
  | some u =>
    have other := hu u hs
    simp only [Upload.tags, List.mem_append, Option.mem_toList, List.mem_map, not_or, not_exists, not_and] at other
    obtain ⟨⟨first, waiting⟩, last⟩ := other
    have slots : (s.damaged u.slot).clp.slots = s.clp.slots :=
      ((s.damaged_grows u.slot).map (q := fun v => v.clp.slots) (fun v => v.clp.slots) fun _ => rfl).same
    rw [State.abortUpload_of_some hs]
    refine State.waitsLast_of_slots (State.waitsLast_answerOpt (State.waitsLast_answerWaiting (State.waitsLast_answerOpt
      (State.waitsLast_of_slots h slots) ?_ _ _) waiting _) ?_ _ _) rfl
    · rintro x hx rfl; exact first hx
    · rintro x hx rfl; exact last hx

theorem State.abortUpload_upload (s : State) : s.abortUpload.csc.upload = none := by
  cases hs : s.csc.upload with
  | none => rwa [State.abortUpload_of_none hs]
  | some u => rw [State.abortUpload_of_some hs]; rfl

/-- What the beginning of an emergency leaves unchanged after the modes are set. -/
def State.besidesUpload (s : State) : Zmg × Lpc × Sau × Pbe × Lvq × Flash × Outputs × Receiver × BitVec 24 :=
  (s.zmg, s.lpc, s.sau, s.pbe, s.lvq, s.flash, s.out, s.clp.receiver, s.clp.marks.ru)

/-- The beginning of an emergency over a loop without an ACTIVE unit: the modes, the count and the mark are set, no upload is left,
and the request that has begun it still waits. -/
theorem State.emergencySet_begins {s : State} {kind tag : Octet} (idle : ∀ i, s.isActive i = false) (calm : s.anyEmergency = false)
    (h : s.waitsLast kind tag) (hu : ∀ u ∈ s.csc.upload, tag ∉ u.tags) (z : ZoneSet) :
    (s.emergencySet z).besidesUpload = ({ s with zmg := s.zmg.taking z } : State).besidesUpload ∧
      (s.emergencySet z).clp.marks.incident = true ∧ (s.emergencySet z).csc.upload = none ∧
      (s.emergencySet z).waitsLast kind tag := by
  obtain ⟨zmg, besides, marked⟩ := State.emergencyTaken_besides idle z
  have eq : s.emergencySet z = (s.emergencyTaken z).evacuationStart.abortUpload := by
    rw [State.emergencySet_eq, calm, if_neg (by simp)]
  generalize s.emergencyTaken z = t at *
  simp only [State.besidesZones, Prod.mk.injEq] at besides
  obtain ⟨lpc, sau, pbe, lvq, flash, out, -, csc, slots, receiver, -, ru⟩ := besides
  have players := t.evacuationStart_grows
  have upload := players.upload.trans (State.abortUpload_grows _)
  have slots' : t.evacuationStart.clp.slots = s.clp.slots :=
    (players.map (q := fun v => v.clp.slots) (fun v => v.clp.slots) fun _ => rfl).same.trans slots
  have upload' : t.evacuationStart.csc.upload = s.csc.upload :=
    (players.map (q := fun v => v.csc.upload) (fun v => v.csc.upload) fun _ => rfl).same.trans (congrArg Csc.upload csc)
  rw [eq]
  refine ⟨?_, upload.marks.incident marked, State.abortUpload_upload _, State.waitsLast_abortUpload
    (State.waitsLast_of_slots h slots') (by rwa [upload'])⟩
  refine (upload.map (q := State.besidesUpload) State.besidesUpload fun _ => rfl).same.trans ?_
  simp only [State.besidesUpload, zmg, lpc, sau, pbe, lvq, flash, out, receiver, ru]

end Sys2Proof.Machine
end

section
/-! SET_LOOP, assembled: the zone table after a re-form, the request's outcomes, the obligation (R22, R23, R41, R46). -/

namespace Sys2Proof.Machine

/-! ### The zone table (R41, R46) -/

theorem map_range_getD {α : Type} (l : List α) (d : α) : (List.range l.length).map (fun i => l.getD i d) = l :=
  List.ext_getElem (by simp) fun i h₁ h₂ => by simp [h₂]

theorem zipIdx_map_eq {α β : Type} (l : List α) (d : α) (f : α × Nat → β) :
    l.zipIdx.map f = (List.range l.length).map fun i => f (l.getD i d, i) :=
  List.ext_getElem (by simp) fun i h₁ h₂ => by
    have h : i < l.length := by simpa using h₁
    simp [h]

/-- A position is in the EMERGENCY set of an incident exactly where one is declared within N. -/
theorem emergencyTable_declared (n spread : Nat) (z : ZoneSet) :
    (∃ i, emergencyTable n spread z false i = true) ↔ (List.range n).any z.mem = true := by
  simp only [emergencyTable, Bool.false_or, Bool.and_eq_true, List.any_eq_true, decide_eq_true_eq, List.mem_range]
  constructor
  · rintro ⟨i, -, k, hk, ⟨declared, -⟩, -⟩
    exact ⟨k, hk, declared⟩
  · rintro ⟨k, hk, declared⟩
    exact ⟨k, hk, k, hk, ⟨declared, Nat.le_add_right _ _⟩, Nat.le_add_right _ _⟩

/-- Outside an emergency only declared positions count: neither the whole loop nor the latch (R46). -/
theorem State.calm_of_law {s : State} (law : s.emergencyLaw) (calm : s.anyEmergency = false) (hn : 1 ≤ s.n) :
    (s.zmg.whole || (s.zmg.latch && s.clp.part == .running)) = false := by
  obtain ⟨-, -, modes, -⟩ := law
  by_contra h
  rw [Bool.not_eq_false] at h
  have first : s.modeOf 0 = .emergency := (modes 0 (List.mem_range.2 hn)).2 (by rw [h, emergencyTable]; simp; omega)
  rw [State.anyEmergency, List.any_eq_false] at calm
  exact calm 0 (List.mem_range.2 hn) (by rw [first]; rfl)

/-- Outside an emergency every zone is NORMAL. -/
theorem State.normal_of_calm {s : State} (law : s.emergencyLaw) (calm : s.anyEmergency = false) (i : Nat) :
    s.modeOf i = .normal := by
  by_cases h : i < s.n
  · rw [State.anyEmergency, List.any_eq_false] at calm
    have free := calm i (List.mem_range.2 h)
    cases hm : s.modeOf i with
    | normal => rfl
    | emergency => rw [hm] at free; exact absurd rfl free
  · have out : s.zmg.zones.length ≤ i := by rw [law.1]; omega
    simp [State.modeOf, out]

/-! ### The loop re-formed, before the EMERGENCY set is derived -/

/-- The loop re-formed and the zone table resized. -/
def State.reshaped (s : State) (new : List RuEntry) (guardDu : Nat) : State := (s.reformed new guardDu).resized s.n

theorem State.reform_reshaped (s : State) (new : List RuEntry) (guardDu : Nat) :
    s.reform new guardDu = (s.reshaped new guardDu).applyEmergency := rfl

/-- The Zone Manager's record once its table is resized to `n` positions (R41 steps 1 and 2). -/
def Zmg.resized (z : Zmg) (old n : Nat) : Zmg :=
  { z with
    zones := resize z.zones n ⟨0, .normal⟩
    stored := resizeSplit old n z.stored
    effective := resizeSplit old n z.effective }

theorem State.reshaped_eq (s : State) (new : List RuEntry) (guardDu : Nat) :
    (s.reshaped new guardDu).zmg = s.zmg.resized s.n new.length ∧ (s.reshaped new guardDu).lpc = ⟨new, 0, 0⟩ ∧
      (s.reshaped new guardDu).sau = { s.sau with guardDu := guardDu, continuity := false } ∧
      (s.reshaped new guardDu).pbe.allocs = List.replicate new.length AllocRecord.off ∧
      (s.reshaped new guardDu).clp.marks.ru = ZoneSet.below (fun _ => true) new.length ∧
      (s.reshaped new guardDu).lvq = s.lvq ∧ (s.reshaped new guardDu).flash = s.flash ∧ (s.reshaped new guardDu).out = s.out ∧
      (s.reshaped new guardDu).apl = s.apl ∧ (s.reshaped new guardDu).csc = s.csc ∧
      (s.reshaped new guardDu).clp.slots = s.clp.slots ∧ (s.reshaped new guardDu).clp.receiver = s.clp.receiver ∧
      (s.reshaped new guardDu).clp.part = s.clp.part := by
  obtain ⟨besides, lpc, sau, allocs, ru⟩ := s.reformed_eq new guardDu
  have zmg := (s.reformed new guardDu).resized_zmg s.n
  have zones := (s.reformed new guardDu).resized_besides s.n
  unfold State.reshaped
  generalize s.reformed new guardDu = r at *
  have n : r.n = new.length := by rw [State.n, lpc]
  simp only [State.besidesZones, Prod.mk.injEq] at zones
  obtain ⟨lpc', sau', pbe', lvq', flash', out', apl', csc', slots', receiver', part', ru'⟩ := zones
  simp only [State.besidesReform, Prod.mk.injEq] at besides
  obtain ⟨zmg₀, lvq, flash, out, apl, csc, slots, receiver, part⟩ := besides
  rw [n, zmg₀] at zmg
  exact ⟨zmg, lpc'.trans lpc, sau'.trans sau, (congrArg Pbe.allocs pbe').trans allocs, ru'.trans ru, lvq'.trans lvq,
    flash'.trans flash, out'.trans out, apl'.trans apl, csc'.trans csc, slots'.trans slots, receiver'.trans receiver,
    part'.trans part⟩

/-- A zone of the resized table: the threshold kept within the smaller N, the mode NORMAL. -/
theorem Zmg.resized_zone {s : State} (law : s.emergencyLaw) (calm : s.anyEmergency = false) (n i : Nat) (hi : i < n) :
    (s.zmg.resized s.n n).zones.getD i ⟨0, .normal⟩ =
      ⟨if i < s.n then (s.zmg.zones.getD i ⟨0, .normal⟩).threshold else 0, .normal⟩ := by
  have normal : (s.zmg.zones.getD i ⟨0, .normal⟩).mode = .normal := State.normal_of_calm law calm i
  refine (getD_resize _ _ _ _).trans ?_
  rw [if_pos hi]
  by_cases h : i < s.n
  · rw [if_pos h]
    generalize s.zmg.zones.getD i ⟨0, .normal⟩ = z at normal ⊢
    cases z; cases normal; rfl
  · have out : s.zmg.zones.length ≤ i := by rw [law.1]; omega
    rw [if_neg h, List.getD_eq_default _ _ out]

/-- The Zone Manager's record when the zones of a set join the EMERGENCY set, if there are any. -/
def Zmg.joining (z : Zmg) (zones : ZoneSet) : Zmg :=
  { z.taking zones with changes := if zones = 0#24 then z.changes else wrapInc z.changes }

theorem Zmg.joining_none (z : Zmg) : z.joining 0#24 = z := by
  have same : z.zones.zipIdx.map (fun x => if ZoneSet.mem 0#24 x.2 then { x.1 with mode := .emergency } else x.1) = z.zones := by
    rw [zipIdx_map_eq z.zones ⟨0, .normal⟩]
    refine Eq.trans (List.map_congr_left fun i _ => ?_) (map_range_getD z.zones ⟨0, .normal⟩)
    simp [ZoneSet.mem]
  unfold Zmg.joining Zmg.taking
  rw [if_pos rfl, same]

/-- The zones that join the EMERGENCY set. -/
def State.joined (s : State) : ZoneSet := s.derivedEmergency &&& ~~~ s.emergencyZones

/-- The EMERGENCY set derived over a loop without an ACTIVE unit and outside an emergency. -/
theorem State.applyEmergency_outcome {s : State} {kind tag : Octet} (idle : ∀ i, s.isActive i = false)
    (calm : s.anyEmergency = false) (h : s.waitsLast kind tag) (hu : ∀ u ∈ s.csc.upload, tag ∉ u.tags) :
    s.applyEmergency.besidesUpload = ({ s with zmg := s.zmg.joining s.joined } : State).besidesUpload ∧
      s.applyEmergency.waitsLast kind tag ∧
      if s.joined = 0#24 then s.applyEmergency.apl = s.apl ∧ s.applyEmergency.csc = s.csc
      else s.applyEmergency.clp.marks.incident = true ∧ s.applyEmergency.csc.upload = none := by
  by_cases hj : s.joined = 0#24
  · have stays : s.applyEmergency = s := if_pos hj
    rw [if_pos hj, stays, hj, Zmg.joining_none]
    exact ⟨rfl, h, rfl, rfl⟩
  · have begins : s.applyEmergency = s.emergencySet s.joined := if_neg hj
    have joining : s.zmg.joining s.joined = s.zmg.taking s.joined := by rw [Zmg.joining, if_neg hj]; rfl
    obtain ⟨besides, marked, upload, waits⟩ := State.emergencySet_begins idle calm h hu s.joined
    rw [if_neg hj, begins, joining]
    exact ⟨besides, waits, marked, upload⟩

/-! ### The request (R22, R23) -/

/-- A request that is accepted is not one of those that an upload owes a reply to. -/
theorem State.not_owed_of_accepts {s : State} {tag : Octet} (h : s.accepts tag) (owed : s.owedLaw) :
    ∀ u ∈ s.csc.upload, tag ∉ u.tags := by
  obtain ⟨⟨-, -, free, -⟩, -⟩ := h
  obtain ⟨-, perm, -⟩ := owed
  intro u hu hm
  have owes : tag ∈ s.owedTags := by
    rw [State.owedTags, Option.mem_def.1 hu]
    exact List.mem_append_left _ (List.mem_append_left _ (List.mem_append_right _ hm))
  obtain ⟨x, hx, ht⟩ := List.mem_map.1 (perm.mem_iff.2 owes)
  exact free x (List.mem_of_mem_filter hx) ht

theorem loopEntries_length (body : List Octet) (n : Nat) : (loopEntries body n).length = n := by simp [loopEntries_eq]

/-- No unit of a loop just formed is ACTIVE. -/
theorem State.idle_of_loopEntries {s : State} {body : List Octet} {n : Nat} (h : s.lpc = ⟨loopEntries body n, 0, 0⟩) (i : Nat) :
    s.isActive i = false := by
  have absent : (s.ru i).state = .absent := by
    rw [State.ru, h, loopEntries_eq]
    simp only [List.getD_eq_getElem?_getD, List.getElem?_map]
    cases (List.range n)[i]? <;> rfl
  simp [State.isActive, absent]

section
variable {s : State} {tag : Octet} {body : List Octet} (guardDu : Nat)

/-- What a re-form asked for by SET_LOOP leaves (R22 step 5, R36, R41, R79). -/
theorem State.setLoop_reforms (h : s.accepts tag) (h24 : u8 body 0 ≤ 24) (law : s.emergencyLaw) (owed : s.owedLaw)
    (calm : s.anyEmergency = false) (hn : 1 ≤ s.n) :
    ∃ (r : State) (joined : ZoneSet),
      (∀ i, joined.mem i = emergencyTable (u8 body 0) s.zmg.plan.spread s.zmg.incident false i) ∧
      r = (s.seated tag).reform (loopEntries body (u8 body 0)) guardDu ∧ r.waitsLast 0x10#8 tag ∧ r.clp.receiver = .hunting ∧
      r.zmg = (s.zmg.resized s.n (u8 body 0)).joining joined ∧ r.lpc = ⟨loopEntries body (u8 body 0), 0, 0⟩ ∧
      r.sau = { s.sau with guardDu := guardDu, continuity := false } ∧
      r.pbe.allocs = List.replicate (u8 body 0) AllocRecord.off ∧
      r.clp.marks.ru = ZoneSet.below (fun _ => true) (u8 body 0) ∧ r.lvq = s.lvq ∧ r.flash = s.flash ∧ r.out = s.out ∧
      if joined = 0#24 then r.apl = s.apl ∧ r.csc = s.csc else r.clp.marks.incident = true ∧ r.csc.upload = none := by
  obtain ⟨zmg, lpc, sau, allocs, ru, lvq, flash, out, apl, csc, slots, receiver, part⟩ :=
    (s.seated tag).reshaped_eq (loopEntries body (u8 body 0)) guardDu
  have reform := (s.seated tag).reform_reshaped (loopEntries body (u8 body 0)) guardDu
  rw [reform]
  clear reform
  generalize (s.seated tag).reshaped (loopEntries body (u8 body 0)) guardDu = q at *
  rw [loopEntries_length] at zmg allocs ru
  have zmg : q.zmg = s.zmg.resized s.n (u8 body 0) := zmg
  have csc : q.csc = s.csc := csc
  have n : q.n = u8 body 0 := by rw [State.n, lpc, loopEntries_length]
  have normal : ∀ i < q.n, q.modeOf i = .normal := fun i hi => by
    rw [State.modeOf, zmg, Zmg.resized_zone law calm _ i (n ▸ hi)]
  have quiet : q.anyEmergency = false := by
    rw [State.anyEmergency, List.any_eq_false]
    intro i hi
    rw [normal i (List.mem_range.1 hi)]
    decide
  have waits : q.waitsLast 0x10#8 tag := ⟨s.clp.slots, slots, h.1.2.2.1⟩
  have declared := State.calm_of_law law calm hn
  rw [Bool.or_eq_false_iff] at declared
  obtain ⟨whole, latch⟩ := declared
  have joined := State.joined_mem (s := q) (n ▸ h24) normal (by rw [zmg]; exact whole) (by rw [zmg, part]; exact latch)
  rw [n, zmg] at joined
  obtain ⟨besides, waits', rest⟩ := State.applyEmergency_outcome (State.idle_of_loopEntries lpc) quiet waits
    (by rw [csc]; exact State.not_owed_of_accepts h owed)
  simp only [State.besidesUpload, Prod.mk.injEq] at besides
  obtain ⟨zmg', lpc', sau', pbe', lvq', flash', out', receiver', ru'⟩ := besides
  rw [apl, csc] at rest
  exact ⟨q.applyEmergency, q.joined, joined, rfl, waits', receiver'.trans receiver, zmg'.trans (by rw [zmg]), lpc'.trans lpc,
    sau'.trans sau, (congrArg Pbe.allocs pbe').trans allocs, ru'.trans ru, lvq'.trans lvq, flash'.trans flash, out'.trans out, rest⟩

end

/-- The joining zones' modes over the resized table (R41, R46). -/
theorem Zmg.joining_zones {s : State} {n spread : Nat} {joined : ZoneSet} (law : s.emergencyLaw) (calm : s.anyEmergency = false)
    (h : ∀ i, joined.mem i = emergencyTable n spread s.zmg.incident false i) :
    ((s.zmg.resized s.n n).joining joined).zones =
      (List.range n).map fun i =>
        ⟨if i < s.n then (s.zmg.zones.getD i ⟨0, .normal⟩).threshold else 0,
          if emergencyTable n spread s.zmg.incident false i then .emergency else .normal⟩ := by
  have length : (s.zmg.resized s.n n).zones.length = n := length_resize _ _ _
  refine (zipIdx_map_eq _ ⟨0, .normal⟩ _).trans ?_
  rw [length]
  refine List.map_congr_left fun i hi => ?_
  rw [Zmg.resized_zone law calm n i (List.mem_range.1 hi), h i]
  cases emergencyTable n spread s.zmg.incident false i <;> rfl

/-- No zone joins exactly where no position within N is declared. -/
theorem joined_eq_zero_iff {n spread : Nat} {incident joined : ZoneSet}
    (h : ∀ i, joined.mem i = emergencyTable n spread incident false i) :
    joined = 0#24 ↔ (List.range n).any incident.mem = false := by
  rw [← Bool.not_eq_true, ← emergencyTable_declared n spread incident, not_exists]
  constructor
  · rintro rfl i hi
    rw [← h i] at hi
    simp [ZoneSet.mem] at hi
  · intro none
    refine BitVec.eq_of_getLsbD_eq fun i _ => ?_
    have free : joined.getLsbD i = false := by
      rw [show joined.getLsbD i = joined.mem i from rfl, h i]
      exact Bool.eq_false_iff.2 (none i)
    rw [free, BitVec.getLsbD_zero]

/-- Settles O19: the request by its checks, and a re-form by what it writes before the EMERGENCY set is derived and what the zones
that join it change. -/
theorem setLoopSetsTheGuardOrReforms : Obligations.SetLoopSetsTheGuardOrReforms := by
  intro s tag body accepts length
  refine ⟨fun emergency => exec_setLoop_of_answer accepts length (handleSetLoop_of_emergency (s := s.seated tag) emergency),
    fun calm => ⟨fun invalid => exec_setLoop_of_answer accepts length (handleSetLoop_of_invalid (s := s.seated tag) calm invalid),
      fun h1 h24 codes => ?_⟩⟩
  have valid := handleSetLoop_of_valid (s := s.seated tag) (tag := tag) calm h1 h24 codes
  have same : (s.seated tag).sameLoop (loopEntries body (u8 body 0)) = true ↔ s.loopRepeats body :=
    (s.seated tag).sameLoop_iff body
  refine ⟨fun repeats => ?_, fun differs hn law owed => ?_⟩
  · rw [if_pos (same.2 repeats)] at valid
    exact exec_setLoop accepts length valid accepts.1.2.2.1
  · rw [if_neg fun h => differs (same.1 h)] at valid
    obtain ⟨r, joined, mem, reform, ⟨l, slots, free⟩, receiver, zmg, lpc, sau, allocs, ru, lvq, flash, out, rest⟩ :=
      State.setLoop_reforms (min (u16 body 1) 500) accepts h24 law owed calm hn
    rw [← reform] at valid
    have seat : ({ r with clp := { r.clp with receiver := .hunting, slots := l ++ [⟨0x10#8, tag, .waiting⟩] } } : State) = r := by
      rw [← receiver, ← slots]
    have incident : r.zmg.incident = s.zmg.incident := by rw [zmg]; rfl
    refine ⟨{ r with clp := { r.clp with slots := l } }, exec_setLoop accepts length (valid.trans (by rw [← seat])) free, lpc, sau,
      (congrArg Zmg.zones zmg).trans (Zmg.joining_zones law calm mem), congrArg Zmg.stored zmg, congrArg Zmg.effective zmg,
      incident, ?_, ?_, ?_, lvq, flash, out, ?_⟩
    · exact (congrArg List.length allocs).trans List.length_replicate
    · intro a ha
      obtain rfl := List.eq_of_mem_replicate (allocs ▸ ha)
      exact ⟨rfl, rfl⟩
    · intro i _
      have marks := ZoneSet.below_mem (fun _ => true) _ i h24
      rw [Bool.and_true] at marks
      exact (congrArg (BitVec.getLsbD · i) ru).trans marks
    · have changes := congrArg Zmg.changes zmg
      by_cases declared : (List.range (u8 body 0)).any s.zmg.incident.mem = true
      · have some : joined ≠ 0#24 := fun h => by simp [(joined_eq_zero_iff mem).1 h] at declared
        rw [if_pos declared]
        rw [if_neg some] at rest
        exact ⟨changes.trans (if_neg some), rest⟩
      · have none : joined = 0#24 := (joined_eq_zero_iff mem).2 (Bool.eq_false_iff.2 declared)
        rw [if_neg declared]
        rw [if_pos none] at rest
        exact ⟨changes.trans (if_pos none), rest⟩

end Sys2Proof.Machine
end

section
/-! The reports of a frame close (R19, R20): the answer captured replaces the report record and the last thermal state; a unit that
enters JOINING has its report cleared (R10). -/

namespace Sys2Proof.Machine

/-- A unit whose report is captured (R19). -/
abbrev RuEntry.reports (r : RuEntry) : Prop := r.state = .joining ∨ r.state = .active

/-- What stage 3 leaves of the report record and of the last thermal state. -/
structure RuEntry.KeepsReport (r r' : RuEntry) : Prop where
  thermal : r'.thermal = r.thermal
  joins : r'.reports → ¬ r.reports → r'.report = Report.clear
  stays : r'.reports → r.reports → r'.report = r.report
  out : ¬ r'.reports → r'.report = r.report

theorem RuEntry.KeepsReport.of_same {r r' : RuEntry} (ht : r'.thermal = r.thermal) (hr : r'.report = r.report)
    (h : r'.reports → r.reports) : r.KeepsReport r' :=
  ⟨ht, fun k hn => absurd (h k) hn, fun _ _ => hr, fun _ => hr⟩

theorem RuEntry.lost_keepsReport (r : RuEntry) : r.KeepsReport r.lost := by
  have out : ¬ r.lost.reports := by rw [RuEntry.reports, RuEntry.lost_state]; decide
  have same : r.lost.thermal = r.thermal ∧ r.lost.report = r.report := by unfold RuEntry.lost; split <;> exact ⟨rfl, rfl⟩
  exact .of_same same.1 same.2 fun h => absurd h out

theorem RuEntry.stood_keepsReport (r : RuEntry) (boundary : Nat) : r.KeepsReport (r.stood boundary) := by
  have same : r.KeepsReport r := .of_same rfl rfl id
  have lost := r.lost_keepsReport
  have join : ¬ r.reports → r.KeepsReport r.join := fun h =>
    ⟨rfl, fun _ _ => rfl, fun _ k => absurd k h, fun k => absurd (.inl rfl) k⟩
  cases h : r.state with
  | absent =>
    have out : ¬ r.reports := by rw [RuEntry.reports, h]; decide
    rw [r.stood_of_absent _ h]
    split
    · exact join out
    · exact same
  | lost =>
    have out : ¬ r.reports := by rw [RuEntry.reports, h]; decide
    rw [r.stood_of_lost _ h]
    split
    · exact join out
    · exact same
  | mismatch => rw [r.stood_of_mismatch _ h]; split <;> assumption
  | joining =>
    rw [r.stood_of_joining _ h]
    split
    · exact lost
    · split
      · exact same
      · exact .of_same rfl rfl fun _ => .inl h
  | active =>
    have mine : r.reports := .inr h
    rw [r.stood_of_active _ h]
    split
    · exact lost
    · cases r.serving with
      | none => exact same
      | some e =>
        dsimp only
        split
        · rw [RuEntry.tendHeal_eq]; exact .of_same rfl rfl fun _ => mine
        · exact .of_same rfl rfl fun _ => mine

theorem RuEntry.close_keepsReport (r : RuEntry) (boundary : Nat) (runs : Bool) (a : Option Answer) :
    r.KeepsReport (r.close boundary runs a) := by
  unfold RuEntry.close
  split
  · rename_i h
    have mine : r.reports := .inl h.1
    split
    · unfold RuEntry.readOn
      split
      · exact .of_same rfl rfl fun _ => mine
      · split
        · exact .of_same rfl rfl fun _ => mine
        · unfold RuEntry.identified
          split <;> exact .of_same rfl rfl fun _ => mine
    · exact .of_same rfl rfl id
  · have stood := r.stood_keepsReport boundary
    unfold RuEntry.healed
    split
    · exact ⟨stood.thermal, stood.joins, stood.stays, stood.out⟩
    · exact stood

theorem RuEntry.captured_eq (r : RuEntry) (f : FrameInput) (i : Nat) : r.captured i f = r.reportAnswer f i := by
  unfold RuEntry.captured RuEntry.reportAnswer
  dsimp only
  cases answerOf f (r.serving.getD r.readEnd) i <;> rfl

section
variable {r : RuEntry} {f : FrameInput} {i : Nat}

theorem RuEntry.reported_of_answer {a : Answer} (h : r.reports) (ha : r.reportAnswer f i = some a) :
    r.reported f i = { r with report := ⟨a.quality, a.calls, a.activity⟩, thermal := a.thermal } := by
  rw [RuEntry.reported, if_pos h, RuEntry.captured_eq, ha]

theorem RuEntry.reported_of_silent (h : r.reports) (ha : r.reportAnswer f i = none) : r.reported f i = r := by
  rw [RuEntry.reported, if_pos h, RuEntry.captured_eq, ha]

theorem RuEntry.reported_of_out (h : ¬ r.reports) : r.reported f i = r := if_neg h

end

/-- The report of one unit at a frame close (R19): `marked` says that its notice mark is set. -/
def RuEntry.Reports (old new : RuEntry) (f : FrameInput) (i : Nat) (marked : Prop) : Prop :=
  if new.state = .joining ∨ new.state = .active then
    match new.reportAnswer f i with
    | some a =>
      new.report = ⟨a.quality, a.calls, a.activity⟩ ∧ new.thermal = a.thermal ∧ (a.thermal ≠ old.thermal → marked)
    | none =>
      new.thermal = old.thermal ∧
        new.report = if old.state = .joining ∨ old.state = .active then old.report else Report.clear
  else new.report = old.report ∧ new.thermal = old.thermal

theorem RuEntry.reports_reported {old r₃ : RuEntry} {f : FrameInput} {i : Nat} {marked : Prop} (h : old.KeepsReport r₃)
    (mark : (r₃.reported f i).thermal ≠ r₃.thermal → marked) : old.Reports (r₃.reported f i) f i marked := by
  have answer : (r₃.reported f i).reportAnswer f i = r₃.reportAnswer f i := by rw [RuEntry.reported_eq]; rfl
  have state : (r₃.reported f i).state = r₃.state := by rw [RuEntry.reported_eq]
  unfold RuEntry.Reports
  rw [answer, state]
  by_cases hs : r₃.reports
  · rw [if_pos hs]
    cases ha : r₃.reportAnswer f i with
    | some a =>
      rw [RuEntry.reported_of_answer hs ha] at mark ⊢
      exact ⟨rfl, rfl, fun changed => mark (h.thermal ▸ changed)⟩
    | none =>
      rw [RuEntry.reported_of_silent hs ha]
      dsimp only
      refine ⟨h.thermal, ?_⟩
      split
      · rename_i ho; exact h.stays hs ho
      · rename_i ho; exact h.joins hs ho
  · rw [if_neg hs, RuEntry.reported_of_out hs]
    exact ⟨h.out hs, h.thermal⟩

/-- The reports of a frame close. -/
theorem State.frameClose_reports {s : State} (f : FrameInput) (h : s.begun = true) (h24 : s.n ≤ 24) {i : Nat} (hi : i < s.n) :
    (s.ru i).Reports ((s.frameClose f).ru i) f i ((s.frameClose f).clp.marks.ru.getLsbD i = true) := by
  obtain ⟨r, r₃, runs, hr, -, h₃, hnew, -, mark⟩ := s.frameClose_entry f h hi
  have close := r.close_keepsReport (s.now + 1) runs (answerOf f r.readEnd i)
  rw [← h₃] at close
  have old : (s.ru i).KeepsReport r₃ := by
    rw [hr] at close
    exact ⟨close.thermal, close.joins, close.stays, close.out⟩
  rw [hnew]
  exact RuEntry.reports_reported old (mark (by omega))

end Sys2Proof.Machine
end

section
/-! The channels through the loop's stages of a frame close (R96, R109): a unit that leaves ACTIVE leaves the lockout sets and is no
longer a source; nothing else of a channel changes before its channel frame. -/

namespace Sys2Proof.Machine

/-! ### Work on a channel -/

theorem State.Grows.channels_allocs {s t : State} (h : State.Grows State.sansAllocs s t) : t.channels = s.channels :=
  show t.sansAllocs.channels = s.sansAllocs.channels by rw [h.same]

theorem State.Grows.channels_gates {s t : State} (h : State.Grows State.sansGates s t) : t.channels = s.channels :=
  show t.sansGates.channels = s.sansGates.channels by rw [h.same]

theorem State.Grows.channels_units {s t : State} (h : State.Grows State.sansUnits s t) : t.channels = s.channels :=
  show t.sansUnits.channels = s.sansUnits.channels by rw [h.same]

theorem State.channel_congr {s t : State} (h : t.channels = s.channels) (c : Nat) : t.channel c = s.channel c := by
  rw [State.channel, State.channel, h]

theorem State.channels_length_of_sansRelay {s t : State} (h : t.sansRelay = s.sansRelay) :
    t.channels.length = s.channels.length := by
  have same : t.sansRelay.channels.length = s.sansRelay.channels.length := by rw [h]
  simpa [State.sansRelay] using same

section
variable (s : State) {c : Nat} (f : ChanWork → ChanWork)

theorem State.workChannel_channels : (s.workChannel c f).channels = s.channels.set c (f ⟨s.channel c, false⟩).ch := by
  rw [State.workChannel_eq]
  exact (State.reportRadiating_grows _ c _).channels_allocs.trans (State.markIf_frame State.channels rfl)

theorem State.workChannel_channel (hc : c < s.channels.length) :
    (s.workChannel c f).channel c = (f ⟨s.channel c, false⟩).ch := by
  rw [State.channel, State.workChannel_channels]
  simp [hc]

theorem State.workChannel_channel_ne {d : Nat} (hd : d ≠ c) : (s.workChannel c f).channel d = s.channel d := by
  simp only [State.channel, State.workChannel_channels, List.getD_eq_getElem?_getD, List.getElem?_set_ne hd.symm]

theorem State.workChannel_marked (hc : c < 8) (h : (f ⟨s.channel c, false⟩).mark = true) :
    (s.workChannel c f).clp.marks.channel.getLsbD c = true := by
  rw [State.workChannel_eq, h, State.markIf_true]
  refine (State.reportRadiating_grows _ c _).marks.channel c ?_
  simp [State.markChannel, State.modMarks, hc]

end

/-! ### A unit leaves ACTIVE (R96, R109) -/

/-- A channel's record when the unit of index `i` leaves ACTIVE. -/
def ChanWork.unitLeaves (i : Nat) (w : ChanWork) : ChanWork :=
  let v := if w.ch.source = some i then w.setSource none else w
  ⟨{ v.ch with lockout := v.ch.lockout &&& ~~~ ZoneSet.one i }, v.mark || v.ch.lockout.mem i⟩

theorem State.votersLeave_eq (s : State) (i : Nat) :
    s.votersLeave i = s.each (List.range 8) fun s c => s.workChannel c (ChanWork.unitLeaves i) := rfl

/-- What a channel keeps as units leave ACTIVE before its channel frame: all but the source, the lockout set and the rate rule of
its notice. -/
def Channel.besidesVoter (ch : Channel) : Channel := { ch with source := none, lockout := 0#24, blockFlag := false, deferred := false }

theorem ChanWork.setSource_ch (w : ChanWork) (src : Option Nat) :
    (w.setSource src).ch =
      { w.ch with source := src, blockFlag := (w.setSource src).ch.blockFlag, deferred := (w.setSource src).ch.deferred } := by
  unfold ChanWork.setSource
  split
  · rename_i h; rw [h]
  · split <;> rfl

/-- The source and the lockout set of a channel as the unit of index `i` leaves ACTIVE. -/
theorem ChanWork.unitLeaves_ch (i : Nat) (w : ChanWork) :
    (w.unitLeaves i).ch.besidesVoter = w.ch.besidesVoter ∧
      (w.unitLeaves i).ch.lockout = w.ch.lockout &&& ~~~ ZoneSet.one i ∧
      (w.unitLeaves i).ch.source = if w.ch.source = some i then none else w.ch.source := by
  unfold ChanWork.unitLeaves
  dsimp only
  by_cases h : w.ch.source = some i
  · rw [if_pos h, if_pos h, ChanWork.setSource_ch]
    exact ⟨rfl, rfl, rfl⟩
  · rw [if_neg h, if_neg h]
    exact ⟨rfl, rfl, rfl⟩

section
variable {s : State} {i c : Nat} (hlen : s.channels.length = 8) (hc : c < 8)
include hlen hc

theorem State.votersLeave_channel : (s.votersLeave i).channel c = (ChanWork.unitLeaves i ⟨s.channel c, false⟩).ch := by
  obtain ⟨v, hv, hvc, -, hend⟩ :=
    State.each_at (fun t => t.channel c) (s := s) (p := State.sansRelay) (f := fun s c => s.workChannel c (ChanWork.unitLeaves i))
      List.nodup_range (List.mem_range.2 hc) (fun t j _ => t.workChannel_grows j _) fun t _ j _ hne =>
        t.workChannel_channel_ne _ hne.symm
  have length := State.channels_length_of_sansRelay hv.same
  rw [State.votersLeave_eq, hend, v.workChannel_channel _ (by omega), hvc]

theorem State.leaveActive_channel : (s.leaveActive i).channel c = (ChanWork.unitLeaves i ⟨s.channel c, false⟩).ch := by
  have before : ∀ b g, ((((s.modRu i g).markIf b (·.markRu i)).recompute i)).channels = s.channels := fun b g =>
    (State.recompute_grows _ i).channels_allocs.trans
      (((s.modRu_grows i g).trans (.markIf (State.markRu_grows _ i))).channels_units)
  refine (State.channel_congr (State.gatesLeave_grows _ i).channels_gates c).trans ?_
  rw [State.votersLeave_channel (by rw [before]; exact hlen) hc, State.channel_congr (before _ _)]

/-- A channel after a unit's entry to LOST. -/
theorem State.lose_channel :
    (s.lose i).channel c = if s.isActive i then (ChanWork.unitLeaves i ⟨s.channel c, false⟩).ch else s.channel c := by
  have work := (s.workRu_grows i fun r => { r with state := .lost, serving := none, heal := none, parts := [] }).channels_units
  unfold State.lose
  dsimp only
  split
  · rw [State.leaveActive_channel (by rw [work]; exact hlen) hc, State.channel_congr work]
  · exact State.channel_congr work c

end

/-- The channel `c` as stage 3 of a frame close leaves it for the unit of index `i`. -/
def State.VotersFollow (s t : State) (i c : Nat) : Prop :=
  t.channel c =
    if s.isActive i = true ∧ t.isActive i = false then (ChanWork.unitLeaves i ⟨s.channel c, false⟩).ch else s.channel c

/-- A step that leaves the channels and does not end an ACTIVE standing. -/
theorem State.VotersFollow.of_stays {s t : State} {i : Nat} (c : Nat) (h : t.channels = s.channels)
    (stays : s.isActive i = true → t.isActive i = true) : s.VotersFollow t i c := by
  rw [State.VotersFollow, if_neg fun k => by simp [stays k.1] at k]
  exact State.channel_congr h c

theorem State.Puts.isActive {s t : State} {i : Nat} {r : RuEntry} (h : s.Puts t i r) (hi : i < s.n) :
    t.isActive i = (r.state == .active) := by
  rw [State.isActive, h.ru hi]

section
variable {s : State} {i c : Nat} (hlen : s.channels.length = 8) (hc : c < 8) (hi : i < s.n)
include hlen hc hi

theorem State.lose_follow : s.VotersFollow (s.lose i) i c := by
  have gone : (s.lose i).isActive i = false := by rw [(s.lose_puts hi).isActive hi, RuEntry.lost_state]; rfl
  rw [State.VotersFollow, State.lose_channel hlen hc, gone]
  simp

theorem State.standing_follow (boundary : Nat) : s.VotersFollow (s.standing boundary i) i c := by
  have lose := State.lose_follow hlen hc hi
  have stay : s.VotersFollow s i c := .of_stays c rfl id
  have idle : ∀ t : State, (s.ru i).state ≠ .active → State.Grows State.sansUnits s t → s.VotersFollow t i c := fun t h grows =>
    .of_stays c grows.channels_units fun k => by simp [State.isActive, h] at k
  have works : ∀ g : RuEntry → RuEntry, (g (s.ru i)).state = (s.ru i).state → s.VotersFollow (s.modRu i g) i c := fun g hg =>
    .of_stays c rfl fun k => by rw [(s.modRu_puts hi g).isActive hi, hg]; exact k
  unfold State.standing
  dsimp only
  split <;> rename_i hs
  · split
    · exact idle _ (by rw [hs]; decide) (s.workRu_grows i _)
    · exact stay
  · split
    · exact idle _ (by rw [hs]; decide) (s.workRu_grows i _)
    · exact stay
  · split <;> assumption
  · split
    · exact lose
    · split
      · exact stay
      · exact works _ rfl
  · split
    · exact lose
    · split
      · exact stay
      · split
        · exact works _ (by rw [RuEntry.tendHeal_eq])
        · exact .of_stays c (s.workRu_grows i _).channels_units fun k =>
            (State.Puts.isActive (s.workRu_puts hi _) hi).trans k

theorem State.stage3_follow (boundary : Nat) (f : FrameInput) : s.VotersFollow (s.stage3 boundary f i) i c := by
  have reading : ∀ t : State, (s.ru i).state = .joining → t.channels = s.channels → s.VotersFollow t i c := fun t h channels =>
    .of_stays c channels fun k => by simp [State.isActive, h] at k
  unfold State.stage3
  dsimp only
  split
  · rename_i h
    split
    · refine reading _ h.1 ?_
      unfold State.readFrame State.takePart State.completeRead State.enterActive
      dsimp only
      split
      · rfl
      · split
        · rfl
        · split
          · exact (State.gatesEnter_grows _ i).channels_gates.trans ((State.recompute_grows _ i).channels_allocs.trans
              (((s.workRu_grows i _).trans (State.modRu_grows _ i _)).channels_units))
          · exact (s.workRu_grows i _).channels_units
    · exact reading _ h.1 rfl
  · have stands := State.standing_follow hlen hc hi boundary
    have hn := (s.standing_puts hi boundary).n
    split
    · have swings := (s.standing boundary i).workRu_puts (hn ▸ hi) fun r =>
        { r with serving := some ((s.standing boundary i).ru i).preferred, swings := satInc r.swings, heal := none }
      have same : ((s.standing boundary i).healExpire i).isActive i = (s.standing boundary i).isActive i :=
        swings.isActive (hn ▸ hi)
      have channels : ((s.standing boundary i).healExpire i).channels = (s.standing boundary i).channels :=
        ((s.standing boundary i).workRu_grows i _).channels_units
      rw [State.VotersFollow, same, State.channel_congr channels]
      exact stands
    · exact stands

end

/-! ### The stages put together -/

theorem ZoneSet.mem_andNot_one (z : ZoneSet) (j i : Nat) : ZoneSet.mem (z &&& ~~~ ZoneSet.one j) i = (z.mem i && decide (i ≠ j)) := by
  unfold ZoneSet.mem ZoneSet.one
  by_cases h : i < 24
  · by_cases hj : i = j <;> simp [BitVec.getLsbD_twoPow, h, hj]
  · have out : z.getLsbD i = false := BitVec.getLsbD_of_ge z i (by omega)
    simp [out]

/-- Whether the lockout set of a channel holds a position, and whether its source is that position. -/
def Channel.voterAt (ch : Channel) (i : Nat) : Bool × Bool := (ch.lockout.mem i, ch.source == some i)

theorem ChanWork.unitLeaves_voterAt (i j : Nat) (w : ChanWork) :
    (w.unitLeaves j).ch.voterAt i = if i = j then (false, false) else w.ch.voterAt i := by
  obtain ⟨-, lockout, source⟩ := w.unitLeaves_ch j
  unfold Channel.voterAt
  rw [lockout, source, ZoneSet.mem_andNot_one]
  by_cases h : i = j
  · subst h
    by_cases hs : w.ch.source = some i <;> simp [hs]
  · by_cases hs : w.ch.source = some j
    · have other : ¬ j = i := fun k => h k.symm
      simp [h, hs, other]
    · simp [h, hs]

theorem State.isActive_of_le {s : State} {i : Nat} (h : s.n ≤ i) : s.isActive i = false := by
  have out : s.lpc.rus.length ≤ i := h
  rw [State.isActive, State.ru, List.getD_eq_default _ _ out]
  rfl

theorem State.stage4_channels (s : State) (f : FrameInput) (i : Nat) : (s.stage4 f i).channels = s.channels := by
  unfold State.stage4
  dsimp only
  repeat' split
  · rfl
  · rfl
  · exact (State.recomputeActive_grows _ i).channels_allocs.trans ((s.modRu_grows i _).trans (State.markRu_grows _ i)).channels_units
  · rfl

theorem State.loopStages_channels (s : State) (boundary : Nat) (f : FrameInput) :
    (s.loopStages boundary f).channels = (s.stood boundary f).channels := by
  rw [State.loopStages_eq]
  exact State.each_frame State.channels fun t i _ => t.stage4_channels f i

theorem State.reached_isActive (s : State) (f : FrameInput) (i : Nat) : (s.reached f).isActive i = s.isActive i := by
  by_cases hi : i < s.n
  · rw [State.isActive, s.reached_ru f hi]; rfl
  · rw [State.isActive_of_le (by rw [State.reached_n]; omega), State.isActive_of_le (by omega)]

theorem State.loopStages_isActive (s : State) (boundary : Nat) (f : FrameInput) (i : Nat) :
    (s.loopStages boundary f).isActive i = (s.stood boundary f).isActive i := by
  by_cases hi : i < s.n
  · rw [State.isActive, (s.loopStages_ru boundary f hi).1, RuEntry.reported_eq]; rfl
  · rw [State.isActive_of_le (by rw [State.loopStages_n]; omega), State.isActive_of_le (by rw [State.stood_n]; omega)]

section
variable {s : State} (boundary : Nat) (f : FrameInput) {c : Nat} (hlen : s.channels.length = 8) (hc : c < 8)
include hlen hc

/-- Stage 3 at another position leaves the entry of a position and its place in the lockout set and as the source. -/
theorem State.stage3_voterAt_ne {v : State} (hv : v.sansLoop = (s.reached f).sansLoop) {i j : Nat} (hj : j < s.n) (hne : j ≠ i) :
    ((v.stage3 boundary f j).ru i, ((v.stage3 boundary f j).channel c).voterAt i) = (v.ru i, (v.channel c).voterAt i) := by
  have length : v.channels.length = 8 := by
    rw [State.channels_length_of_sansLoop hv, (s.reached_grows f).channels_lpc, hlen]
  have hjv : j < v.n := by rw [State.n_of_sansLoop hv, State.reached_n]; exact hj
  refine Prod.ext ((v.stage3_puts hjv boundary f).ru_ne hne.symm) ?_
  have follow := State.stage3_follow length hc hjv boundary f
  rw [State.VotersFollow] at follow
  dsimp only
  rw [follow]
  split
  · rw [ChanWork.unitLeaves_voterAt, if_neg hne.symm]
  · rfl

/-- A channel after stage 3 of a frame close, position by position. -/
theorem State.stood_voterAt (i : Nat) :
    ((s.stood boundary f).channel c).voterAt i =
      if s.isActive i = true ∧ (s.stood boundary f).isActive i = false then (false, false) else (s.channel c).voterAt i := by
  have start : (s.reached f).channels = s.channels := (s.reached_grows f).channels_lpc
  by_cases hi : i < s.n
  · obtain ⟨v, hv, hvi, -, hend⟩ :=
      State.each_at (fun t => (t.ru i, (t.channel c).voterAt i)) (s := s.reached f) (p := State.sansLoop)
        (f := fun t j => t.stage3 boundary f j) List.nodup_range (List.mem_range.2 hi) (fun t j _ => t.stage3_grows boundary f j)
        fun t ht j hj hne => State.stage3_voterAt_ne boundary f hlen hc ht (List.mem_range.1 hj) hne
    rw [Prod.mk.injEq] at hvi hend
    obtain ⟨ru, voter⟩ := hvi
    obtain ⟨ru', voter'⟩ := hend
    have length : v.channels.length = 8 := by rw [State.channels_length_of_sansLoop hv.same, start, hlen]
    have follow := State.stage3_follow length hc (i := i) (by rw [hv.n_loop, State.reached_n]; exact hi) boundary f
    have was : v.isActive i = s.isActive i := by rw [State.isActive, ru]; exact s.reached_isActive f i
    have now : (v.stage3 boundary f i).isActive i = (s.stood boundary f).isActive i := by
      rw [State.isActive, ← ru']; rfl
    rw [State.VotersFollow, was, now] at follow
    rw [State.channel_congr start] at voter
    refine voter'.trans ?_
    rw [follow]
    split
    · rw [ChanWork.unitLeaves_voterAt, if_pos rfl]
    · exact voter
  · rw [if_neg fun h => by simp [State.isActive_of_le (s := s) (i := i) (by omega)] at h, ← State.channel_congr start]
    have kept := State.each_keeps (s := s.reached f) (l := List.range s.n) (f := fun t j => t.stage3 boundary f j)
      (P := fun t => t.sansLoop = (s.reached f).sansLoop ∧
        (t.ru i, (t.channel c).voterAt i) = ((s.reached f).ru i, ((s.reached f).channel c).voterAt i))
      (fun t j hj h => ⟨(t.stage3_grows boundary f j).same.trans h.1,
        (State.stage3_voterAt_ne boundary f hlen hc h.1 (List.mem_range.1 hj) (by have := List.mem_range.1 hj; omega)).trans h.2⟩)
      ⟨rfl, rfl⟩
    exact congrArg Prod.snd kept.2

theorem State.stood_besidesVoter : ((s.stood boundary f).channel c).besidesVoter = (s.channel c).besidesVoter := by
  have start : (s.reached f).channels = s.channels := (s.reached_grows f).channels_lpc
  rw [← State.channel_congr start]
  have kept := State.each_keeps (s := s.reached f) (l := List.range s.n) (f := fun t j => t.stage3 boundary f j)
    (P := fun t => t.sansLoop = (s.reached f).sansLoop ∧ (t.channel c).besidesVoter = ((s.reached f).channel c).besidesVoter)
    (fun t j hj h => ⟨(t.stage3_grows boundary f j).same.trans h.1, ?_⟩) ⟨rfl, rfl⟩
  · exact kept.2
  · have length : t.channels.length = 8 := by rw [State.channels_length_of_sansLoop h.1, start, hlen]
    have follow := State.stage3_follow length hc (i := j)
      (by rw [State.n_of_sansLoop h.1, State.reached_n]; exact List.mem_range.1 hj) boundary f
    rw [State.VotersFollow] at follow
    rw [follow]
    split
    · exact (ChanWork.unitLeaves_ch j _).1.trans h.2
    · exact h.2

/-- A channel after the loop's stages of a frame close: the units that have left ACTIVE are neither locked out nor its source, and
nothing else of it has changed. -/
theorem State.loopStages_channel :
    ((s.loopStages boundary f).channel c).besidesVoter = (s.channel c).besidesVoter ∧
      ∀ i, ((s.loopStages boundary f).channel c).voterAt i =
        if s.isActive i = true ∧ (s.loopStages boundary f).isActive i = false then (false, false) else (s.channel c).voterAt i := by
  rw [State.channel_congr (s.loopStages_channels boundary f)]
  refine ⟨State.stood_besidesVoter boundary f hlen hc, fun i => ?_⟩
  rw [State.loopStages_isActive]
  exact State.stood_voterAt boundary f hlen hc i

end

end Sys2Proof.Machine
end

section
/-! One channel frame (R85 to R90, R94 to R96, R105, R107): what it leaves of the channel in each of its states. -/

namespace Sys2Proof.Machine

/-! ### The steps of a channel frame -/

/-- The record of a channel after a change of source, the rate rule of its notice apart. -/
theorem ChanWork.setSource_source (w : ChanWork) (src : Option Nat) :
    ∃ flag later, (w.setSource src).ch = { w.ch with source := src, blockFlag := flag, deferred := later } :=
  ⟨_, _, w.setSource_ch src⟩

theorem ChanWork.setSource_mark {w : ChanWork} (src : Option Nat) (h : w.mark = true) : (w.setSource src).mark = true := by
  unfold ChanWork.setSource
  split
  · exact h
  · split
    · exact h
    · rfl

theorem ChanWork.callCheck_eq (w : ChanWork) (call : Nat → Bool) :
    w.callCheck call =
      if w.ch.marker = false ∧ w.ch.source.any call = true then ⟨{ w.ch with marker := true, talkT := none }, true⟩ else w := by
  unfold ChanWork.callCheck
  cases hs : w.ch.source with
  | none => simp
  | some i => cases call i <;> cases w.ch.marker <;> simp

theorem ChanWork.startTalk_eq (w : ChanWork) (due : Nat → Nat) :
    w.startTalk due =
      ⟨{ w.ch with talkT := if w.ch.marker || w.ch.cfg.talk == 0 then w.ch.talkT else some (due (1000 * w.ch.cfg.talk)) },
        w.mark⟩ := by
  unfold ChanWork.startTalk
  split <;> rfl

/-- A channel that is UP with no timer due stays as steps 1 and 2 have left it. -/
theorem ChanWork.frameTimers_of_up {w : ChanWork} {boundary : Nat} (call : Nat → Bool) (h : w.ch.state = .up)
    (hang : isDue w.ch.hangT boundary = false) (talk : isDue w.ch.talkT boundary = false) :
    w.frameTimers boundary call = w := by
  simp only [ChanWork.frameTimers, h, hang, talk, Bool.false_eq_true, if_false]

theorem ChanWork.frameCall_of_up {w : ChanWork} (call : Nat → Bool) (h : w.ch.state = .up) : w.frameCall call = w.callCheck call := by
  simp only [ChanWork.frameCall, h]

/-- A timer of some seconds started at a boundary is not due there. -/
theorem isDue_seconds {boundary talk : Nat} (h : talk ≠ 0) : isDue (some (dueAtClose boundary (1000 * talk))) boundary = false := by
  have later : ¬ dueAtClose boundary (1000 * talk) ≤ boundary := by unfold dueAtClose; omega
  exact decide_eq_false later

/-! ### UP (R90, R95, R107) -/

section
variable {w : ChanWork} {boundary : Nat} (call : Nat → Bool) (up : w.ch.state = .up)
include up

/-- A frame without a candidate: no source, the hang timer running. -/
theorem ChanWork.frame_up_empty (hang : 0 < w.ch.cfg.hang) (hangT : isDue w.ch.hangT boundary = false)
    (talkT : isDue w.ch.talkT boundary = false) (empty : w.ch.cands = []) :
    ∃ flag later, (w.frame boundary call).ch =
      { w.ch with
        source := none, blockFlag := flag, deferred := later
        hangT := some (w.ch.hangT.getD (boundary + 4 * w.ch.cfg.hang))
        talkT := if w.ch.hangT = none then none else w.ch.talkT } := by
  obtain ⟨flag, later, hs⟩ := w.setSource_source none
  have summary : (w.frameSummary boundary call).ch =
      { w.ch with
        source := none, blockFlag := flag, deferred := later
        hangT := some (w.ch.hangT.getD (boundary + 4 * w.ch.cfg.hang))
        talkT := if w.ch.hangT = none then none else w.ch.talkT } := by
    simp only [ChanWork.frameSummary, up, empty, List.isEmpty_nil, if_true, ChanWork.noCandidate, hs]
    cases hh : w.ch.hangT <;> simp [hs, dueAtClose, hh, up, empty]
  refine ⟨flag, later, ?_⟩
  unfold ChanWork.frame
  generalize w.frameSummary boundary call = v at summary
  have v_up : v.ch.state = .up := by rw [summary]; exact up
  have quiet : v.callCheck call = v := by rw [ChanWork.callCheck_eq, summary]; simp
  rw [ChanWork.frameCall_of_up call v_up, quiet, ChanWork.frameTimers_of_up call v_up, summary]
  · rw [summary]
    dsimp only
    cases hh : w.ch.hangT with
    | none => simp [isDue]; omega
    | some d => rw [hh] at hangT; exact hangT
  · rw [summary]
    dsimp only
    split
    · rfl
    · exact talkT

/-- A frame with candidates: the selection of R107, the hang timer stopped, and the emergency-call check. -/
theorem ChanWork.frame_up_some (talkT : isDue w.ch.talkT boundary = false) (filled : w.ch.cands ≠ []) :
    ∃ flag later source marker, source = selectSource w.ch.cands w.ch.cfg.hysteresis w.ch.source ∧
      marker = (w.ch.marker || source.any call) ∧
      (w.frame boundary call).ch =
        { w.ch with
          source := source, blockFlag := flag, deferred := later, hangT := none, marker := marker
          talkT :=
            if w.ch.marker = false ∧ marker = true then none
            else if w.ch.hangT ≠ none ∧ w.ch.marker = false ∧ w.ch.cfg.talk ≠ 0 then some (boundary + 4000 * w.ch.cfg.talk)
            else w.ch.talkT } ∧
      (w.ch.marker = false → marker = true → (w.frame boundary call).mark = true) := by
  obtain ⟨flag, later, hs⟩ := w.setSource_source (selectSource w.ch.cands w.ch.cfg.hysteresis w.ch.source)
  have summary : (w.frameSummary boundary call).ch =
      { w.ch with
        source := selectSource w.ch.cands w.ch.cfg.hysteresis w.ch.source, blockFlag := flag, deferred := later, hangT := none
        talkT :=
          if w.ch.hangT ≠ none ∧ w.ch.marker = false ∧ w.ch.cfg.talk ≠ 0 then some (boundary + 4000 * w.ch.cfg.talk)
          else w.ch.talkT } := by
    have nonempty : w.ch.cands.isEmpty = false := by simpa using filled
    simp only [ChanWork.frameSummary, up, nonempty, Bool.false_eq_true, if_false, ChanWork.startTalk_eq, hs]
    cases hh : w.ch.hangT with
    | none => simp [hs, hh, up]
    | some d =>
      have due : dueAtClose boundary (1000 * w.ch.cfg.talk) = boundary + 4000 * w.ch.cfg.talk := by unfold dueAtClose; omega
      cases w.ch.marker <;> by_cases ht : w.ch.cfg.talk = 0 <;> simp [ht, due]
  unfold ChanWork.frame
  generalize w.frameSummary boundary call = v at summary
  have v_up : v.ch.state = .up := by rw [summary]; exact up
  have kept : isDue v.ch.talkT boundary = false := by
    rw [summary]
    dsimp only
    split
    · rename_i h; have := h.2.2; simp [isDue]; omega
    · exact talkT
  have hang : v.ch.hangT = none := by rw [summary]
  refine ⟨flag, later, _, _, rfl, rfl, ?_⟩
  rw [ChanWork.frameCall_of_up call v_up, ChanWork.callCheck_eq]
  have same : v.ch.marker = w.ch.marker ∧ v.ch.source = selectSource w.ch.cands w.ch.cfg.hysteresis w.ch.source := by
    rw [summary]; exact ⟨rfl, rfl⟩
  rw [same.1, same.2]
  generalize selectSource w.ch.cands w.ch.cfg.hysteresis w.ch.source = source at *
  by_cases turns : w.ch.marker = false ∧ source.any call = true
  · rw [if_pos turns, ChanWork.frameTimers_of_up (w := ⟨{ v.ch with marker := true, talkT := none }, true⟩) call v_up
      (by rw [hang]; rfl) rfl]
    simp [summary, turns.1, turns.2]
  · rw [if_neg turns, ChanWork.frameTimers_of_up call v_up (by rw [hang]; rfl) kept, summary]
    cases hm : w.ch.marker <;> cases ha : source.any call <;> simp_all

end

/-! ### Entry to UP (R86, R88, R89) -/

/-- A channel enters UP with the best candidate; the talk timer starts unless its source calls. -/
theorem ChanWork.enterUp_ch (w : ChanWork) (boundary : Nat) (call : Nat → Bool) :
    ∃ flag later source marker, source = (bestCandidate w.ch.cands).map (·.idx) ∧ marker = source.any call ∧
      (w.enterUp boundary call).ch =
        { w.ch with
          state := .up, turnT := none, hangT := none, source := source, blockFlag := flag, deferred := later, marker := marker
          talkT := if marker || w.ch.cfg.talk == 0 then none else some (boundary + 4000 * w.ch.cfg.talk) } ∧
      (w.enterUp boundary call).mark = true := by
  unfold ChanWork.enterUp
  dsimp only
  generalize (bestCandidate w.ch.cands).map (·.idx) = source
  obtain ⟨flag, later, hs⟩ := ChanWork.setSource_source
    ⟨{ w.ch with state := .up, marker := false, turnT := none, hangT := none, talkT := none }, true⟩ source
  have mark := ChanWork.setSource_mark
    (w := ⟨{ w.ch with state := .up, marker := false, turnT := none, hangT := none, talkT := none }, true⟩) source rfl
  have due : dueAtClose boundary (1000 * w.ch.cfg.talk) = boundary + 4000 * w.ch.cfg.talk := by unfold dueAtClose; omega
  refine ⟨flag, later, source, _, rfl, rfl, ?_⟩
  rw [ChanWork.startTalk_eq, ChanWork.callCheck_eq]
  generalize ChanWork.setSource _ source = x at hs mark ⊢
  have clear : x.ch.marker = false ∧ x.ch.source = source := by rw [hs]; exact ⟨rfl, rfl⟩
  rw [clear.1, clear.2]
  cases ha : source.any call
  · rw [if_neg (by simp)]
    exact ⟨by rw [hs, due], mark⟩
  · rw [if_pos ⟨rfl, rfl⟩]
    exact ⟨by rw [hs]; rfl, rfl⟩

/-- A channel that enters UP in the first step of its frame stays as that step has left it. -/
theorem ChanWork.enterUp_frame (w : ChanWork) (boundary : Nat) (call : Nat → Bool) :
    ((w.enterUp boundary call).frameCall call).frameTimers boundary call = w.enterUp boundary call := by
  obtain ⟨flag, later, source, marker, -, hm, hch, -⟩ := w.enterUp_ch boundary call
  have state : (w.enterUp boundary call).ch.state = .up := by rw [hch]
  have quiet : (w.enterUp boundary call).callCheck call = w.enterUp boundary call := by
    rw [ChanWork.callCheck_eq, hch, if_neg]
    rintro ⟨clear, calls⟩
    simp only at clear calls
    rw [← hm, clear] at calls
    exact absurd calls (by decide)
  rw [ChanWork.frameCall_of_up call state, quiet, ChanWork.frameTimers_of_up call state (by rw [hch]; rfl)]
  rw [hch]
  dsimp only
  split
  · rfl
  · rename_i h
    have ht : w.ch.cfg.talk ≠ 0 := by simp at h; exact h.2
    have later : ¬ boundary + 4000 * w.ch.cfg.talk ≤ boundary := by omega
    exact decide_eq_false later

section
variable {w : ChanWork} {boundary : Nat} (call : Nat → Bool)

theorem ChanWork.frame_idle (h : w.ch.state = .idle) :
    w.frame boundary call = if hasOpening w.ch.cfg w.ch.cands then w.enterUp boundary call else w := by
  unfold ChanWork.frame
  have summary : w.frameSummary boundary call = if hasOpening w.ch.cfg w.ch.cands then w.enterUp boundary call else w := by
    simp only [ChanWork.frameSummary, h]
  rw [summary]
  split
  · exact w.enterUp_frame boundary call
  · simp only [ChanWork.frameCall, ChanWork.frameTimers, h]

theorem ChanWork.frame_down (h : w.ch.state = .down) : w.frame boundary call = w := by
  simp only [ChanWork.frame, ChanWork.frameSummary, ChanWork.frameCall, ChanWork.frameTimers, h]

theorem ChanWork.frame_turn (h : w.ch.state = .turn) :
    w.frame boundary call = if isDue w.ch.turnT boundary then w.turnExpire boundary call else w := by
  simp only [ChanWork.frame, ChanWork.frameSummary, ChanWork.frameCall, ChanWork.frameTimers, h]

end

/-! ### The lockout set (R94, R96) -/

theorem ChanWork.setSource_lockout (w : ChanWork) (src : Option Nat) : (w.setSource src).ch.lockout = w.ch.lockout := by
  rw [w.setSource_ch src]

theorem ChanWork.setSource_talkT (w : ChanWork) (src : Option Nat) : (w.setSource src).ch.talkT = w.ch.talkT := by
  rw [w.setSource_ch src]

theorem ChanWork.callCheck_talk (w : ChanWork) (call : Nat → Bool) :
    (w.callCheck call).ch.lockout = w.ch.lockout ∧
      ((w.callCheck call).ch.talkT = none ∨ (w.callCheck call).ch.talkT = w.ch.talkT) := by
  rw [ChanWork.callCheck_eq]
  split
  · exact ⟨rfl, .inl rfl⟩
  · exact ⟨rfl, .inr rfl⟩

/-- Step 1 of a channel frame leaves the lockout set, and starts no talk timer that is due at once. -/
theorem ChanWork.frameSummary_talk {w : ChanWork} {boundary : Nat} (call : Nat → Bool)
    (h : isDue w.ch.talkT boundary = false) :
    (w.frameSummary boundary call).ch.lockout = w.ch.lockout ∧
      isDue (w.frameSummary boundary call).ch.talkT boundary = false := by
  have starts : ∀ v : ChanWork, v.ch.lockout = w.ch.lockout → isDue v.ch.talkT boundary = false →
      (v.startTalk (dueAtClose boundary)).ch.lockout = w.ch.lockout ∧
        isDue (v.startTalk (dueAtClose boundary)).ch.talkT boundary = false := by
    intro v lockout due
    rw [ChanWork.startTalk_eq]
    refine ⟨lockout, ?_⟩
    dsimp only
    split
    · exact due
    · rename_i h
      exact isDue_seconds (by simp at h; exact h.2)
  unfold ChanWork.frameSummary
  split
  · split
    · unfold ChanWork.enterUp
      have check := ChanWork.callCheck_talk (ChanWork.setSource
        ⟨{ w.ch with state := .up, marker := false, turnT := none, hangT := none, talkT := none }, true⟩
        ((bestCandidate w.ch.cands).map (·.idx))) call
      rw [ChanWork.setSource_lockout, ChanWork.setSource_talkT] at check
      refine starts _ check.1 ?_
      rcases check.2 with k | k <;> rw [k] <;> rfl
    · exact ⟨rfl, h⟩
  · exact ⟨rfl, h⟩
  · exact ⟨rfl, h⟩
  · split
    · unfold ChanWork.noCandidate
      dsimp only
      split
      · exact ⟨w.setSource_lockout _, by rw [ChanWork.setSource_talkT]; exact h⟩
      · exact ⟨w.setSource_lockout _, rfl⟩
    · dsimp only
      split
      · exact ⟨w.setSource_lockout _, by rw [ChanWork.setSource_talkT]; exact h⟩
      · exact starts _ (w.setSource_lockout _) (by dsimp only; rw [ChanWork.setSource_talkT]; exact h)

/-- A channel frame in which no talk timer is due leaves the lockout set as the release has made it. -/
theorem ChanWork.frame_lockout {w : ChanWork} {boundary : Nat} (call : Nat → Bool) (h : isDue w.ch.talkT boundary = false) :
    (w.frame boundary call).ch.lockout = w.ch.lockout := by
  obtain ⟨lockout, due⟩ := ChanWork.frameSummary_talk call h
  have check : ((w.frameSummary boundary call).frameCall call).ch.lockout = w.ch.lockout ∧
      isDue ((w.frameSummary boundary call).frameCall call).ch.talkT boundary = false := by
    unfold ChanWork.frameCall
    split
    · have check := (w.frameSummary boundary call).callCheck_talk call
      refine ⟨check.1.trans lockout, ?_⟩
      rcases check.2 with k | k <;> rw [k]
      · rfl
      · exact due
    · exact ⟨lockout, due⟩
    · exact ⟨lockout, due⟩
    · exact ⟨lockout, due⟩
  unfold ChanWork.frame
  generalize (w.frameSummary boundary call).frameCall call = v at check
  obtain ⟨lockout, due⟩ := check
  unfold ChanWork.frameTimers
  split
  · split
    · unfold ChanWork.turnExpire
      split
      · obtain ⟨_, _, _, _, -, -, hch, -⟩ := v.enterUp_ch boundary call
        rw [hch]; exact lockout
      · exact lockout
    · exact lockout
  · split
    · exact (ChanWork.setSource_lockout v none).trans lockout
    · rw [due]
      exact lockout
  · exact lockout
  · exact lockout

end Sys2Proof.Machine
end

section
/-! The voter's selection by the table of R107, and the channel frames of a frame close put together (R96, R105). -/

namespace Sys2Proof.Machine

/-! ### The best candidate and the selection (R107) -/

/-- Candidates in position order. -/
abbrev InOrder (cs : List Candidate) : Prop := cs.Pairwise fun x y => x.idx < y.idx

theorem bestCandidate_eq_none {cs : List Candidate} : bestCandidate cs = none ↔ cs = [] := by
  cases cs with
  | nil => simp [bestCandidate]
  | cons x l =>
    simp only [bestCandidate, reduceCtorEq, iff_false]
    cases bestCandidate l with
    | none => simp
    | some y => dsimp only; split <;> simp

theorem bestCandidate_best {cs : List Candidate} {b : Candidate} (ord : InOrder cs) (h : bestCandidate cs = some b) : b.best cs := by
  induction cs generalizing b with
  | nil => cases h
  | cons x l ih =>
    obtain ⟨first, rest⟩ := List.pairwise_cons.1 ord
    simp only [bestCandidate] at h
    cases hl : bestCandidate l with
    | none =>
      rw [hl] at h
      obtain rfl := Option.some.inj h
      obtain rfl := bestCandidate_eq_none.1 hl
      exact ⟨List.mem_cons_self, fun y hy => by
        obtain rfl := List.mem_singleton.1 hy
        exact .inr ⟨rfl, Nat.le_refl _⟩⟩
    | some y =>
      obtain ⟨mem, top⟩ := ih rest hl
      rw [hl] at h
      dsimp only at h
      split at h
      · rename_i lt
        obtain rfl := Option.some.inj h
        exact ⟨List.mem_cons_of_mem x mem, fun z hz => by
          rcases List.mem_cons.1 hz with rfl | hz
          · exact .inl lt
          · exact top z hz⟩
      · rename_i ge
        obtain rfl := Option.some.inj h
        refine ⟨List.mem_cons_self, fun z hz => ?_⟩
        rcases List.mem_cons.1 hz with rfl | hz
        · exact .inr ⟨rfl, Nat.le_refl _⟩
        · have before := first z hz
          have below := top z hz
          omega

/-- The best candidate, where there is one. -/
theorem bestCandidate_selects {cs : List Candidate} (ord : InOrder cs) :
    (cs = [] ∧ (bestCandidate cs).map (·.idx) = none) ∨ ∃ b ∈ cs, b.best cs ∧ (bestCandidate cs).map (·.idx) = some b.idx := by
  cases h : bestCandidate cs with
  | none => exact .inl ⟨bestCandidate_eq_none.1 h, rfl⟩
  | some b =>
    have best := bestCandidate_best ord h
    exact .inr ⟨b, best.1, best, rfl⟩

/-- The voter's selection is that of the table of R107. -/
theorem selectSource_selects {cs : List Candidate} (ord : InOrder cs) (hysteresis : Nat) (current : Option Nat) :
    Selects cs hysteresis current (selectSource cs hysteresis current) := by
  unfold Selects selectSource
  cases current with
  | none =>
    have none : (cs.find? fun x => some x.idx == none) = none := List.find?_eq_none.2 fun x _ => by simp
    rw [none]
    exact bestCandidate_selects ord
  | some i =>
    dsimp only
    cases hf : cs.find? fun x => some x.idx == some i with
    | none =>
      rw [if_neg]
      · exact bestCandidate_selects ord
      · rw [List.any_eq_true]
        rintro ⟨x, hx, here⟩
        exact List.find?_eq_none.1 hf x hx (by simpa using here)
    | some cur =>
      have mem := List.mem_of_find?_eq_some hf
      have idx : cur.idx = i := by simpa using List.find?_some hf
      rw [if_pos (List.any_eq_true.2 ⟨cur, mem, by simp [idx]⟩)]
      refine ⟨cur, mem, idx, ?_⟩
      dsimp only
      rw [idx]
      cases hb : bestCandidate (cs.filter fun x => x.idx != i) with
      | none => exact .inl ⟨bestCandidate_eq_none.1 hb, rfl⟩
      | some b =>
        have best := bestCandidate_best (ord.filter _) hb
        exact .inr ⟨b, best.1, best, rfl⟩

/-- A source that is not a candidate counts as none. -/
theorem Selects.of_absent {cs : List Candidate} {hysteresis : Nat} {result : Option Nat} {i : Nat} (h : ∀ x ∈ cs, x.idx ≠ i)
    (hs : Selects cs hysteresis none result) : Selects cs hysteresis (some i) result := by
  unfold Selects at hs ⊢
  dsimp only at hs ⊢
  rw [if_neg]
  · exact hs
  · rw [List.any_eq_true]
    rintro ⟨x, hx, here⟩
    exact h x hx (by simpa using here)

/-! ### The channel frames (R96, R105) -/

/-- The channel frame of an enabled channel: the lockout release, the candidates, the three steps. -/
def State.voted (s : State) (boundary c : Nat) : ChanWork :=
  (⟨{ s.channel c with lockout := s.keptLockout c, cands := s.candidates c },
    false || s.keptLockout c != (s.channel c).lockout⟩ : ChanWork).frame boundary fun i => s.callOf i c

theorem State.voted_congr {s t : State} (hl : t.lpc = s.lpc) {c : Nat} (hc : t.channel c = s.channel c) (boundary : Nat) :
    t.voted boundary c = s.voted boundary c := by
  have ru : t.ru = s.ru := funext (State.ru_congr hl)
  have n : t.n = s.n := by rw [State.n, State.n, hl]
  have active : t.isActive = s.isActive := by unfold State.isActive; rw [ru]
  have quality : t.qualityOf = s.qualityOf := by unfold State.qualityOf; rw [ru]
  have calls : t.callOf = s.callOf := by unfold State.callOf; rw [ru]
  have kept : t.keptLockout c = s.keptLockout c := by unfold State.keptLockout; rw [hc, active, quality]
  have cands : t.candidates c = s.candidates c := by unfold State.candidates; rw [hc, n, active, quality]
  unfold State.voted
  rw [hc, kept, cands, calls]

section
variable {s : State} (boundary : Nat) {c : Nat}

theorem State.channelFrame_channel (on : (s.channel c).cfg.enabled = true) (hc : c < s.channels.length) :
    (s.channelFrame boundary c).channel c = (s.voted boundary c).ch := by
  unfold State.channelFrame
  rw [if_pos on]
  exact s.workChannel_channel _ hc

theorem State.channelFrame_marked (on : (s.channel c).cfg.enabled = true) (hc : c < 8) (h : (s.voted boundary c).mark = true) :
    (s.channelFrame boundary c).clp.marks.channel.getLsbD c = true := by
  unfold State.channelFrame
  rw [if_pos on]
  exact s.workChannel_marked _ hc h

theorem State.channelFrame_channel_ne {d : Nat} (hd : d ≠ c) : (s.channelFrame boundary c).channel d = s.channel d := by
  unfold State.channelFrame
  split
  · exact s.workChannel_channel_ne _ hd
  · rfl

/-- An enabled channel after the channel frames, and its mark. -/
theorem State.channelFrames_channel (hlen : s.channels.length = 8) (hc : c < 8) (on : (s.channel c).cfg.enabled = true) :
    (s.channelFrames boundary).channel c = (s.voted boundary c).ch ∧
      ((s.voted boundary c).mark = true → (s.channelFrames boundary).clp.marks.channel.getLsbD c = true) := by
  obtain ⟨v, hv, hvc, later, hend⟩ :=
    State.each_at (fun t => t.channel c) (s := s) (p := State.sansRelay) (f := fun t c => t.channelFrame boundary c)
      List.nodup_range (List.mem_range.2 hc) (fun t j _ => t.channelFrame_grows boundary j) fun t _ j _ hne =>
        State.channelFrame_channel_ne boundary hne.symm
  have length := State.channels_length_of_sansRelay hv.same
  have on' : (v.channel c).cfg.enabled = true := by rw [hvc]; exact on
  have same := State.voted_congr hv.lpc_relay hvc boundary
  have frames : s.channelFrames boundary = s.each (List.range 8) fun t c => t.channelFrame boundary c := rfl
  rw [frames]
  refine ⟨?_, fun h => later.marks.channel c (State.channelFrame_marked boundary on' hc (same ▸ h))⟩
  rw [hend, State.channelFrame_channel boundary on' (by omega), same]

end

/-- The candidates by the lockout set that the release leaves: a candidate is not released (R96, R105). -/
theorem State.candidates_kept (s : State) (hn : s.n ≤ 24) (c : Nat) :
    s.candidates c =
      ((List.range s.n).filter fun i =>
        s.isActive i && (s.channel c).cfg.coverage.mem i && !(s.keptLockout c).mem i &&
          decide ((s.channel c).cfg.qClose ≤ s.qualityOf i c)).map fun i => ⟨i, s.qualityOf i c⟩ := by
  unfold State.candidates
  dsimp only
  congr 1
  refine List.filter_congr fun i hi => ?_
  have h24 : i < 24 := by have := List.mem_range.1 hi; omega
  rw [State.keptLockout, ZoneSet.below_mem _ _ _ (Nat.le_refl 24)]
  by_cases hq : (s.channel c).cfg.qClose ≤ s.qualityOf i c
  · have stays : ¬ s.qualityOf i c < (s.channel c).cfg.qClose := by omega
    simp [hq, stays, h24]
  · simp [hq]

theorem State.candidates_inOrder (s : State) (c : Nat) : InOrder (s.candidates c) := by
  unfold State.candidates InOrder
  rw [List.pairwise_map]
  exact List.Pairwise.filter _ List.pairwise_lt_range

theorem State.candidates_active {s : State} {c : Nat} {x : Candidate} (h : x ∈ s.candidates c) : s.isActive x.idx = true := by
  unfold State.candidates at h
  obtain ⟨i, hi, rfl⟩ := List.mem_map.1 h
  have fit := (List.mem_filter.1 hi).2
  simp only [Bool.and_eq_true] at fit
  exact fit.1.1.1

end Sys2Proof.Machine
end

section
/-! The channels at a frame close (R86, R88 to R90, R95, R96, R105, R107): the lockout release, a channel that stays UP, a channel
that may enter UP. -/

namespace Sys2Proof.Machine

/-! ### One channel frame, state by state -/

section
variable {w : ChanWork} {boundary : Nat} (call : Nat → Bool)

/-- A channel that is UP and stays UP: its selection, its marker and its timers (R90, R95, R107). -/
theorem ChanWork.frame_staysUp (up : w.ch.state = .up) (hang : 0 < w.ch.cfg.hang) (hangT : isDue w.ch.hangT boundary = false)
    (talkT : isDue w.ch.talkT boundary = false) (ord : InOrder w.ch.cands) {v : ChanWork} (hv : v = w.frame boundary call)
    {new : Channel} (hn : new = v.ch) :
    new.state = .up ∧ new.cands = w.ch.cands ∧ new.lockout = w.ch.lockout ∧
      Selects w.ch.cands w.ch.cfg.hysteresis w.ch.source new.source ∧
      new.marker = (w.ch.marker || new.source.any call) ∧
      (w.ch.marker = false → new.marker = true → new.talkT = none ∧ v.mark = true) ∧
      (w.ch.cands = [] →
        new.hangT = (match w.ch.hangT with | some d => some d | none => some (boundary + 4 * w.ch.cfg.hang))) ∧
      (w.ch.cands ≠ [] → new.hangT = none) ∧
      new.talkT =
        if w.ch.cands = [] then (if w.ch.hangT = none then none else w.ch.talkT)
        else if w.ch.marker = false ∧ new.marker = true then none
        else if w.ch.hangT ≠ none ∧ w.ch.marker = false ∧ w.ch.cfg.talk ≠ 0 then some (boundary + 4000 * w.ch.cfg.talk)
        else w.ch.talkT := by
  by_cases empty : w.ch.cands = []
  · obtain ⟨flag, later, hch⟩ := ChanWork.frame_up_empty call up hang hangT talkT empty
    rw [hv, hch] at hn
    have selects := selectSource_selects ord w.ch.cfg.hysteresis w.ch.source
    have none : selectSource w.ch.cands w.ch.cfg.hysteresis w.ch.source = Option.none := by rw [empty]; rfl
    rw [none] at selects
    refine ⟨by rw [hn]; exact up, by rw [hn], by rw [hn], by rw [hn]; exact selects, by rw [hn]; simp, fun clear set => ?_,
      fun _ => ?_, fun h => absurd empty h, ?_⟩
    · rw [hn] at set
      exact absurd (clear.symm.trans set) (by decide)
    · rw [hn]
      dsimp only
      cases w.ch.hangT <;> rfl
    · rw [hn, if_pos empty]
  · obtain ⟨flag, later, source, marker, hs, hm, hch, mark⟩ := ChanWork.frame_up_some call up talkT empty
    rw [← hv] at hch mark
    rw [hch] at hn
    have selects := selectSource_selects ord w.ch.cfg.hysteresis w.ch.source
    rw [← hs] at selects
    refine ⟨by rw [hn]; exact up, by rw [hn], by rw [hn], by rw [hn]; exact selects, by rw [hn]; exact hm, fun clear set => ?_,
      fun h => absurd h empty, fun _ => by rw [hn], ?_⟩
    · rw [hn] at set
      have set : marker = true := set
      refine ⟨?_, mark clear set⟩
      rw [hn]
      exact if_pos ⟨clear, set⟩
    · rw [hn, if_neg empty]

/-- A channel that enters UP has the best candidate for its source (R89). -/
theorem ChanWork.enterUp_opens (ord : InOrder w.ch.cands) (opening : hasOpening w.ch.cfg w.ch.cands = true) {new : Channel}
    (hn : new = (w.enterUp boundary call).ch) :
    new.cands = w.ch.cands ∧ new.lockout = w.ch.lockout ∧ new.state = .up ∧ new.turnT = none ∧ new.hangT = none ∧
      (w.enterUp boundary call).mark = true ∧
      ∃ b ∈ w.ch.cands, b.best w.ch.cands ∧ new.source = some b.idx ∧ new.marker = call b.idx ∧
        new.talkT = if new.marker || w.ch.cfg.talk == 0 then none else some (boundary + 4000 * w.ch.cfg.talk) := by
  obtain ⟨flag, later, source, marker, hs, hm, hch, mark⟩ := w.enterUp_ch boundary call
  rw [hch] at hn
  have filled : w.ch.cands ≠ [] := by rintro h; simp [hasOpening, h] at opening
  rcases bestCandidate_selects ord with ⟨empty, -⟩ | ⟨b, mem, best, some⟩
  · exact absurd empty filled
  · have idx : source = Option.some b.idx := hs.trans some
    refine ⟨by rw [hn], by rw [hn], by rw [hn], by rw [hn], by rw [hn], mark, b, mem, best, by rw [hn]; exact idx, ?_, by rw [hn]⟩
    rw [hn, hm, idx]
    rfl

/-- A channel that is not UP: with an opening candidate it enters UP where it is IDLE or its turnaround expires (R86, R88, R89). -/
theorem ChanWork.frame_opens (down : w.ch.state ≠ .up) (ord : InOrder w.ch.cands) {v : ChanWork}
    (hv : v = w.frame boundary call) {new : Channel} (hn : new = v.ch) :
    new.cands = w.ch.cands ∧ new.lockout = w.ch.lockout ∧
      if w.ch.state = .idle ∨ (w.ch.state = .turn ∧ isDue w.ch.turnT boundary = true) then
        if hasOpening w.ch.cfg w.ch.cands then
          new.state = .up ∧ new.turnT = none ∧ new.hangT = none ∧ v.mark = true ∧
            ∃ b ∈ w.ch.cands, b.best w.ch.cands ∧ new.source = some b.idx ∧ new.marker = call b.idx ∧
              new.talkT = if new.marker || w.ch.cfg.talk == 0 then none else some (boundary + 4000 * w.ch.cfg.talk)
        else
          new.state = .idle ∧ new.source = w.ch.source ∧
            (w.ch.state = .turn → new.turnT = none ∧ v.mark = true)
      else
        new.state = w.ch.state ∧ new.source = w.ch.source ∧ new.turnT = w.ch.turnT ∧ new.hangT = w.ch.hangT ∧
          new.talkT = w.ch.talkT ∧ new.marker = w.ch.marker := by
  cases hs : w.ch.state with
  | up => exact absurd hs down
  | down =>
    rw [if_neg (by simp)]
    rw [hv, ChanWork.frame_down call hs] at hn
    subst hn
    exact ⟨rfl, rfl, hs, rfl, rfl, rfl, rfl, rfl⟩
  | idle =>
    rw [if_pos (.inl rfl)]
    have frame := ChanWork.frame_idle (boundary := boundary) call hs
    by_cases opening : hasOpening w.ch.cfg w.ch.cands = true
    · rw [if_pos opening] at frame ⊢
      rw [hv, frame] at hn ⊢
      obtain ⟨cands, lockout, rest⟩ := ChanWork.enterUp_opens call ord opening hn
      exact ⟨cands, lockout, rest⟩
    · rw [if_neg opening] at frame ⊢
      rw [hv, frame] at hn
      subst hn
      exact ⟨rfl, rfl, hs, rfl, fun h => by cases h⟩
  | turn =>
    have frame := ChanWork.frame_turn (boundary := boundary) call hs
    by_cases due : isDue w.ch.turnT boundary = true
    · rw [if_pos (.inr ⟨rfl, due⟩)]
      rw [if_pos due, ChanWork.turnExpire] at frame
      by_cases opening : hasOpening w.ch.cfg w.ch.cands = true
      · rw [if_pos opening] at frame ⊢
        rw [hv, frame] at hn ⊢
        obtain ⟨cands, lockout, rest⟩ := ChanWork.enterUp_opens call ord opening hn
        exact ⟨cands, lockout, rest⟩
      · rw [if_neg opening] at frame ⊢
        rw [hv, frame] at hn ⊢
        subst hn
        exact ⟨rfl, rfl, rfl, rfl, fun _ => ⟨rfl, rfl⟩⟩
    · rw [if_neg (by simp [due])]
      rw [hv, frame, if_neg due] at hn
      subst hn
      exact ⟨rfl, rfl, hs, rfl, rfl, rfl, rfl, rfl⟩

end

/-! ### The channels of the frame close -/

/-- A channel at a frame close: `l` is the state that the loop's stages leave, and the channel is that of its channel frame there. -/
structure State.ChannelClosed (s l u : State) (c : Nat) : Prop where
  lpc : u.lpc = l.lpc
  n : l.n = s.n
  besides : (l.channel c).besidesVoter = (s.channel c).besidesVoter
  voter : ∀ i, (l.channel c).voterAt i =
    if s.isActive i = true ∧ l.isActive i = false then (false, false) else (s.channel c).voterAt i
  frame : ∃ keyed, u.channel c = { (l.voted (s.now + 1) c).ch with keyed := keyed }
  marked : (l.voted (s.now + 1) c).mark = true → u.clp.marks.channel.getLsbD c = true

theorem State.frameClose_channel {s : State} (f : FrameInput) (h : s.begun = true) (hlen : s.channels.length = 8) {c : Nat}
    (hc : c < 8) (on : (s.channel c).cfg.enabled = true) : ∃ l, s.ChannelClosed l (s.frameClose f) c := by
  obtain ⟨t, v, ht, hv, loopOn, hu⟩ := s.frameClose_begun f h
  have onW : ({ v with now := s.now + 1 } : State).loopOn = true := loopOn
  have start : t.channels = s.channels := ht.channels_alarm
  obtain ⟨besides, voter⟩ := State.loopStages_channel (s.now + 1) f (s := t) (by rw [start, hlen]) hc
  have grows := (t.loopStages_grows (s.now + 1) f).channels_length
  have n : (t.loopStages (s.now + 1) f).n = s.n := by rw [State.loopStages_n, State.n, ht.lpc_alarm]; rfl
  generalize t.loopStages (s.now + 1) f = l at *
  have length : l.channels.length = 8 := by rw [grows, (t.reached_grows f).channels_lpc, start, hlen]
  rw [State.channel_congr start] at besides
  have on' : (l.channel c).cfg.enabled = true := by rw [← on]; exact congrArg (fun ch => ch.cfg.enabled) besides
  obtain ⟨frame, mark⟩ := State.channelFrames_channel (s.now + 1) length hc on'
  have gates : State.Grows State.sansGates (l.channelFrames (s.now + 1)) (l.served (s.now + 1)) :=
    State.bandFrames_grows _ (s.now + 1)
  have channels : v.channels = (l.channelFrames (s.now + 1)).channels := by
    rw [hv.channels_alarm, State.withPassed_channels, gates.channels_gates]
  refine ⟨l, ?_, n, besides, fun i => ?_, ⟨(v.channel c).keys, ?_⟩, fun m => ?_⟩
  · rw [hu, State.latchOutputs_lpc]
    exact hv.lpc_alarm.trans ((State.withPassed_lpc _ _).trans (l.served_lpc _))
  · rw [voter i, State.channel_congr start, State.isActive_of_lpc ht.lpc_alarm]
    rfl
  · have hcv : c < v.channels.length := by
      rw [channels, (l.channelFrames_grows (s.now + 1)).loopOfRelay.channels_length]; omega
    rw [hu, State.latchOutputs_channel onW hcv, ← frame, ← State.channel_congr channels]
    rfl
  · rw [hu, State.latchOutputs_clp]
    refine hv.marks.channel c ?_
    rw [State.withPassed_clp]
    exact gates.marks.channel c (mark m)

section
variable {s l u : State} {c : Nat} (k : s.ChannelClosed l u c)
include k

theorem State.ChannelClosed.fields :
    (l.channel c).cfg = (s.channel c).cfg ∧ (l.channel c).state = (s.channel c).state ∧
      (l.channel c).marker = (s.channel c).marker ∧ (l.channel c).turnT = (s.channel c).turnT ∧
      (l.channel c).hangT = (s.channel c).hangT ∧ (l.channel c).talkT = (s.channel c).talkT := by
  have besides := k.besides
  simp only [Channel.besidesVoter, Channel.mk.injEq] at besides
  obtain ⟨cfg, state, -, -, marker, turnT, hangT, talkT, -⟩ := besides
  exact ⟨cfg, state, marker, turnT, hangT, talkT⟩

theorem State.ChannelClosed.views :
    u.n = l.n ∧ u.isActive = l.isActive ∧ (u.qualityOf · c) = (l.qualityOf · c) ∧ (u.callOf · c) = (l.callOf · c) := by
  have ru : u.ru = l.ru := funext (State.ru_congr k.lpc)
  refine ⟨by rw [State.n, k.lpc]; rfl, ?_, ?_, ?_⟩
  · unfold State.isActive; rw [ru]
  · unfold State.qualityOf; rw [ru]
  · unfold State.callOf; rw [ru]

/-- The source that a channel frame finds is the channel's, unless its unit has left ACTIVE. -/
theorem State.ChannelClosed.source :
    (l.channel c).source = (s.channel c).source ∨
      (l.channel c).source = none ∧ ∃ i, (s.channel c).source = some i ∧ l.isActive i = false := by
  have sources : ∀ i, (l.channel c).source = some i ↔
      (s.channel c).source = some i ∧ ¬ (s.isActive i = true ∧ l.isActive i = false) := fun i => by
    have here := congrArg Prod.snd (k.voter i)
    by_cases left : s.isActive i = true ∧ l.isActive i = false
    · rw [if_pos left] at here
      have off : ((l.channel c).source == some i) = false := here
      simpa [left] using off
    · rw [if_neg left] at here
      have same : ((l.channel c).source == some i) = ((s.channel c).source == some i) := here
      rw [Bool.eq_iff_iff, beq_iff_eq, beq_iff_eq] at same
      simpa [left] using same
  cases hl : (l.channel c).source with
  | some i => exact .inl ((sources i).1 hl).1.symm
  | none =>
    cases hs : (s.channel c).source with
    | none => exact .inl rfl
    | some i =>
      refine .inr ⟨rfl, i, rfl, ?_⟩
      by_contra on
      have stays := (sources i).2 ⟨hs, fun left => on left.2⟩
      rw [hl] at stays
      cases stays

/-- The lockout set after a frame in which no talk timer is due (R96). -/
theorem State.ChannelClosed.lockout (talkT : isDue (s.channel c).talkT (s.now + 1) = false) {i : Nat} (hi : i < 24) :
    (u.channel c).lockout.mem i =
      ((s.channel c).lockout.mem i && !(s.isActive i && !u.isActive i) &&
        !(u.isActive i && decide (u.qualityOf i c < (s.channel c).cfg.qClose))) := by
  obtain ⟨cfg, -, -, -, -, talk⟩ := k.fields
  obtain ⟨-, active, quality, -⟩ := k.views
  obtain ⟨keyed, frame⟩ := k.frame
  have kept : (u.channel c).lockout = l.keptLockout c := by
    rw [frame]
    exact ChanWork.frame_lockout _ (by rw [← talk] at talkT; exact talkT)
  have was : (l.channel c).lockout.mem i = ((s.channel c).lockout.mem i && !(s.isActive i && !l.isActive i)) := by
    have here := congrArg Prod.fst (k.voter i)
    cases hs : s.isActive i <;> cases hl : l.isActive i <;> simp_all [Channel.voterAt]
  have q : u.qualityOf i c = l.qualityOf i c := congrFun quality i
  rw [kept, State.keptLockout, ZoneSet.below_mem _ _ _ (Nat.le_refl 24), was, active, q, cfg, decide_eq_true hi, Bool.true_and]

/-- The candidates of a channel after the frame, by the lockout set that the frame leaves (R105). -/
theorem State.ChannelClosed.cands (hn : s.n ≤ 24) (cands : (u.channel c).cands = l.candidates c)
    (lockout : (u.channel c).lockout = l.keptLockout c) :
    (u.channel c).cands =
      ((List.range s.n).filter fun i =>
        u.isActive i && (s.channel c).cfg.coverage.mem i && !(u.channel c).lockout.mem i &&
          decide ((s.channel c).cfg.qClose ≤ u.qualityOf i c)).map fun i => ⟨i, u.qualityOf i c⟩ := by
  obtain ⟨cfg, -⟩ := k.fields
  obtain ⟨-, active, quality, -⟩ := k.views
  have q : ∀ i, u.qualityOf i c = l.qualityOf i c := fun i => congrFun quality i
  rw [cands, l.candidates_kept (k.n ▸ hn) c, lockout, k.n, active, cfg]
  simp only [q]

/-- A channel that is UP and stays UP (R90, R95, R105, R107). -/
theorem State.ChannelClosed.staysUp (hn : s.n ≤ 24) (up : (s.channel c).state = .up)
    (hang : 0 < (s.channel c).cfg.hang) (hangT : isDue (s.channel c).hangT (s.now + 1) = false)
    (talkT : isDue (s.channel c).talkT (s.now + 1) = false) :
    (u.channel c).state = .up ∧
      (u.channel c).cands =
        ((List.range s.n).filter fun i =>
          u.isActive i && (s.channel c).cfg.coverage.mem i && !(u.channel c).lockout.mem i &&
            decide ((s.channel c).cfg.qClose ≤ u.qualityOf i c)).map (fun i => ⟨i, u.qualityOf i c⟩) ∧
      Selects (u.channel c).cands (s.channel c).cfg.hysteresis (s.channel c).source (u.channel c).source ∧
      (u.channel c).marker = ((s.channel c).marker || (u.channel c).source.any fun i => u.callOf i c) ∧
      ((s.channel c).marker = false → (u.channel c).marker = true →
        (u.channel c).talkT = none ∧ u.clp.marks.channel.getLsbD c = true) ∧
      ((u.channel c).cands = [] →
        (u.channel c).hangT =
          (match (s.channel c).hangT with
            | some d => some d
            | none => some (s.now + 1 + 4 * (s.channel c).cfg.hang))) ∧
      ((u.channel c).cands ≠ [] → (u.channel c).hangT = none) ∧
      (u.channel c).talkT =
        if (u.channel c).cands = [] then (if (s.channel c).hangT = none then none else (s.channel c).talkT)
        else if (s.channel c).marker = false ∧ (u.channel c).marker = true then none
        else if (s.channel c).hangT ≠ none ∧ (s.channel c).marker = false ∧ (s.channel c).cfg.talk ≠ 0 then
          some (s.now + 1 + 4000 * (s.channel c).cfg.talk)
        else (s.channel c).talkT := by
  obtain ⟨cfg, state, marker, -, hang', talk'⟩ := k.fields
  obtain ⟨-, -, -, calls⟩ := k.views
  obtain ⟨keyed, frame⟩ := k.frame
  have result := ChanWork.frame_staysUp (boundary := s.now + 1) (fun i => l.callOf i c)
    (w := ⟨{ l.channel c with lockout := l.keptLockout c, cands := l.candidates c },
      false || l.keptLockout c != (l.channel c).lockout⟩)
    (state.trans up) (by rw [← cfg] at hang; exact hang) (by rw [← hang'] at hangT; exact hangT)
    (by rw [← talk'] at talkT; exact talkT) (l.candidates_inOrder c) (v := l.voted (s.now + 1) c) rfl rfl
  dsimp only at result
  rw [cfg, marker, hang', talk', ← calls] at result
  obtain ⟨up', cands, lockout, selects, marks, turns, starts, stops, talks⟩ := result
  have candsU : (u.channel c).cands = l.candidates c := by rw [frame]; exact cands
  have lockoutU : (u.channel c).lockout = l.keptLockout c := by rw [frame]; exact lockout
  have formed := k.cands hn candsU lockoutU
  have selectsU : Selects (l.candidates c) (s.channel c).cfg.hysteresis (s.channel c).source (l.voted (s.now + 1) c).ch.source := by
    rcases k.source with same | ⟨none, i, was, left⟩
    · rw [← same]; exact selects
    · rw [none] at selects
      rw [was]
      refine Selects.of_absent (fun x hx idx => ?_) selects
      rw [← idx, State.candidates_active hx] at left
      cases left
  refine ⟨by rw [frame]; exact up', formed, ?_⟩
  rw [candsU, frame]
  exact ⟨selectsU, marks, fun clear set => ⟨(turns clear set).1, k.marked (turns clear set).2⟩, starts, stops, talks⟩

/-- A channel that is not UP: where it is IDLE or its turnaround expires, it enters UP with the best candidate if there is an opening
one (R86, R88, R89). -/
theorem State.ChannelClosed.opens (hn : s.n ≤ 24) (down : (s.channel c).state ≠ .up) :
    let old := s.channel c
    let new := u.channel c
    let opening := new.cands.any fun x => decide (old.cfg.qOpen ≤ x.q)
    new.cands =
        ((List.range s.n).filter fun i =>
          u.isActive i && old.cfg.coverage.mem i && !new.lockout.mem i &&
            decide (old.cfg.qClose ≤ u.qualityOf i c)).map (fun i => ⟨i, u.qualityOf i c⟩) ∧
      if old.state = .idle ∨ (old.state = .turn ∧ isDue old.turnT (s.now + 1) = true) then
        if opening then
          new.state = .up ∧ new.turnT = none ∧ new.hangT = none ∧ u.clp.marks.channel.getLsbD c = true ∧
            ∃ b ∈ new.cands, b.best new.cands ∧ new.source = some b.idx ∧ new.marker = u.callOf b.idx c ∧
              new.talkT = if new.marker || old.cfg.talk == 0 then none else some (s.now + 1 + 4000 * old.cfg.talk)
        else
          new.state = .idle ∧ (old.source = none → new.source = none) ∧
            (old.state = .turn → new.turnT = none ∧ u.clp.marks.channel.getLsbD c = true)
      else
        new.state = old.state ∧ (old.source = none → new.source = none) ∧ new.turnT = old.turnT ∧
          new.hangT = old.hangT ∧ new.talkT = old.talkT ∧ new.marker = old.marker := by
  intro old new opening
  obtain ⟨cfg, state, marker, turnT, hangT, talkT⟩ := k.fields
  obtain ⟨-, -, -, calls⟩ := k.views
  obtain ⟨keyed, frame⟩ := k.frame
  have result := ChanWork.frame_opens (boundary := s.now + 1) (fun i => l.callOf i c)
    (w := ⟨{ l.channel c with lockout := l.keptLockout c, cands := l.candidates c },
      false || l.keptLockout c != (l.channel c).lockout⟩)
    (by rw [← state] at down; exact down) (l.candidates_inOrder c) (v := l.voted (s.now + 1) c) rfl rfl
  dsimp only at result
  rw [cfg, state, marker, turnT, hangT, talkT] at result
  obtain ⟨cands, lockout, result⟩ := result
  have candsU : (u.channel c).cands = l.candidates c := by rw [frame]; exact cands
  have lockoutU : (u.channel c).lockout = l.keptLockout c := by rw [frame]; exact lockout
  have silent : old.source = none → (l.channel c).source = none := fun none => by
    rcases k.source with same | ⟨gone, -⟩
    · rw [same]; exact none
    · exact gone
  have openingL : opening = hasOpening old.cfg (l.candidates c) := by rw [← candsU]; rfl
  have call : ∀ i, u.callOf i c = l.callOf i c := fun i => congrFun calls i
  refine ⟨k.cands hn candsU lockoutU, ?_⟩
  rw [openingL, show new.cands = l.candidates c from candsU]
  have newEq : new = { (l.voted (s.now + 1) c).ch with keyed := keyed } := frame
  clear_value new
  subst newEq
  by_cases due : old.state = .idle ∨ (old.state = .turn ∧ isDue old.turnT (s.now + 1) = true)
  · rw [if_pos due] at result ⊢
    by_cases ho : hasOpening old.cfg (l.candidates c) = true
    · rw [if_pos ho] at result ⊢
      obtain ⟨up, turn, hang, mark, b, mem, best, source, calls, talk⟩ := result
      exact ⟨up, turn, hang, k.marked mark, b, mem, best, source, by rw [call]; exact calls, talk⟩
    · rw [if_neg ho] at result ⊢
      obtain ⟨idle, source, turn⟩ := result
      exact ⟨idle, fun none => source.trans (silent none), fun h => ⟨(turn h).1, k.marked (turn h).2⟩⟩
  · rw [if_neg due] at result ⊢
    obtain ⟨state', source, rest⟩ := result
    exact ⟨state', fun none => source.trans (silent none), rest⟩

end

end Sys2Proof.Machine
end

section
/-! The gates of a band (R115, R116, R119 to R121): what each operation of the arbiter leaves of every gate, an OPEN gate and a
PENDING one counted alike, since promotion and displacement exchange them. -/

namespace Sys2Proof.Machine

/-! ### Gates and the work on them -/

/-- A gate, OPEN where it is PENDING. -/
def Gate.view (g : Gate) : Gate := { g with state := if g.state = .pending then .opened else g.state }

theorem Gate.view_asked {g : Gate} : g.view.state = .opened ↔ (g.state = .opened ∨ g.state = .pending) := by
  cases h : g.state <;> simp [Gate.view, h]

theorem Gate.view_closed {g : Gate} : g.view.state = .closed ↔ g.state = .closed := by
  cases h : g.state <;> simp [Gate.view, h]

/-- What the arbiter leaves of a band: its record, threshold in use, feed and the number of its gates, and the latest A of each. -/
structure Band.Like (b b' : Band) : Prop where
  cfg : b'.cfg = b.cfg
  inUse : b'.inUse = b.inUse
  feed : b'.feed = b.feed
  length : b'.gates.length = b.gates.length
  latest : ∀ i, (b'.gate i).latest = (b.gate i).latest

theorem Band.Like.refl (b : Band) : b.Like b := ⟨rfl, rfl, rfl, rfl, fun _ => rfl⟩

theorem Band.Like.trans {b b' b'' : Band} (h : b.Like b') (k : b'.Like b'') : b.Like b'' :=
  ⟨k.cfg.trans h.cfg, k.inUse.trans h.inUse, k.feed.trans h.feed, k.length.trans h.length,
    fun i => (k.latest i).trans (h.latest i)⟩

theorem Band.gate_modify (b : Band) (i : Nat) (f : Gate → Gate) (hi : i < b.gates.length) :
    Band.gate { b with gates := b.gates.modify i f } i = f (b.gate i) := by
  simp [Band.gate, List.getD_eq_getElem?_getD, hi]

theorem Band.gate_modify_ne (b : Band) {i j : Nat} (f : Gate → Gate) (h : i ≠ j) :
    Band.gate { b with gates := b.gates.modify j f } i = b.gate i := by
  simp [Band.gate, List.getD_eq_getElem?_getD, h.symm]

theorem Band.gate_modify_ge (b : Band) {i : Nat} (f : Gate → Gate) (h : b.gates.length ≤ i) :
    Band.gate { b with gates := b.gates.modify i f } i = b.gate i := by
  simp [Band.gate, List.getD_eq_getElem?_getD, h]

theorem BandWork.set_gate (w : BandWork) {i : Nat} (st : GateState) (hold : Option Nat) (hi : i < w.band.gates.length) :
    (w.set i st hold).band.gate i = { w.band.gate i with state := st, hold := hold } :=
  w.band.gate_modify i _ hi

theorem BandWork.set_gate_ne (w : BandWork) {i j : Nat} (st : GateState) (hold : Option Nat) (h : i ≠ j) :
    (w.set j st hold).band.gate i = w.band.gate i :=
  w.band.gate_modify_ne _ h

theorem BandWork.set_like (w : BandWork) (i : Nat) (st : GateState) (hold : Option Nat) : w.band.Like (w.set i st hold).band := by
  refine ⟨rfl, rfl, rfl, by simp [BandWork.set], fun j => ?_⟩
  by_cases h : j = i
  · subst h
    by_cases hj : j < w.band.gates.length
    · rw [BandWork.set_gate w st hold hj]
    · exact congrArg Gate.latest (w.band.gate_modify_ge _ (by omega))
  · rw [BandWork.set_gate_ne w st hold h]

/-- A gate that is OPEN or PENDING and becomes the one or the other with its hold kept looks the same. -/
theorem BandWork.keepHold_view (w : BandWork) {i : Nat} {st : GateState} (hst : st = .opened ∨ st = .pending)
    (h : (w.band.gate i).state = .opened ∨ (w.band.gate i).state = .pending) (j : Nat) :
    ((w.keepHold i st).band.gate j).view = (w.band.gate j).view := by
  unfold BandWork.keepHold
  by_cases hj : j = i
  · subst hj
    by_cases hl : j < w.band.gates.length
    · rw [BandWork.set_gate w _ _ hl]
      rcases hst with rfl | rfl <;> rcases h with h | h <;> simp [Gate.view, h]
    · exact congrArg Gate.view (w.band.gate_modify_ge _ (by omega))
  · rw [BandWork.set_gate_ne w _ _ hj]

/-! ### The arbiter's choices -/

theorem pickBest_mem (beats : Nat → Nat → Bool) {l : List Nat} {i : Nat} (h : pickBest beats l = some i) : i ∈ l := by
  induction l generalizing i with
  | nil => cases h
  | cons x l ih =>
    unfold pickBest at h
    cases hl : pickBest beats l with
    | none => rw [hl] at h; obtain rfl := Option.some.inj h; exact List.mem_cons_self
    | some j =>
      rw [hl] at h
      dsimp only at h
      split at h
      · obtain rfl := Option.some.inj h; exact List.mem_cons_of_mem x (ih hl)
      · obtain rfl := Option.some.inj h; exact List.mem_cons_self

theorem Band.quietest_opened {b : Band} {i : Nat} (h : b.quietest = some i) : (b.gate i).state = .opened := by
  simpa using (List.mem_filter.1 (pickBest_mem _ h)).2

theorem Band.loudestPending_pending {b : Band} {i : Nat} (h : b.loudestPending = some i) : (b.gate i).state = .pending := by
  simpa using (List.mem_filter.1 (pickBest_mem _ h)).2

/-- Promotions leave the look of every gate. -/
theorem BandWork.promote_like (w : BandWork) :
    w.band.Like w.promote.band ∧ ∀ j, (w.promote.band.gate j).view = (w.band.gate j).view := by
  unfold BandWork.promote
  cases h : w.band.loudestPending with
  | none => exact ⟨.refl _, fun _ => rfl⟩
  | some i => exact ⟨w.set_like i _ _, w.keepHold_view (.inl rfl) (.inr (Band.loudestPending_pending h))⟩

theorem BandWork.vacate_like (w : BandWork) (i : Nat) (st : GateState) :
    w.band.Like (w.vacate i st).band ∧ ∀ j, j ≠ i → ((w.vacate i st).band.gate j).view = (w.band.gate j).view := by
  have like := w.set_like i st none
  have others : ∀ j, j ≠ i → ((w.set i st none).band.gate j).view = (w.band.gate j).view := fun j hj => by
    rw [BandWork.set_gate_ne w st none hj]
  unfold BandWork.vacate
  dsimp only
  split
  · obtain ⟨promoted, views⟩ := (w.set i st none).promote_like
    exact ⟨like.trans promoted, fun j hj => (views j).trans (others j hj)⟩
  · exact ⟨like, others⟩

/-- A gate that asks to open is OPEN or PENDING then, with its hold running; no other gate changes its look (R119). -/
theorem BandWork.ask_like (w : BandWork) {i : Nat} (due : Nat) (closed : (w.band.gate i).state = .closed) (hi : i < w.band.gates.length) :
    w.band.Like (w.ask i due).band ∧ ((w.ask i due).band.gate i).view = { w.band.gate i with state := .opened, hold := some due } ∧
      ∀ j, j ≠ i → ((w.ask i due).band.gate j).view = (w.band.gate j).view := by
  have sets : ∀ st, st = .opened ∨ st = .pending →
      w.band.Like (w.set i st (some due)).band ∧
        ((w.set i st (some due)).band.gate i).view = { w.band.gate i with state := .opened, hold := some due } ∧
        ∀ j, j ≠ i → ((w.set i st (some due)).band.gate j).view = (w.band.gate j).view := fun st hst => by
    refine ⟨w.set_like i st _, ?_, fun j hj => by rw [BandWork.set_gate_ne w st _ hj]⟩
    rw [BandWork.set_gate w st _ hi]
    rcases hst with rfl | rfl <;> rfl
  unfold BandWork.ask
  split
  · exact sets _ (.inl rfl)
  · cases hq : w.band.quietest with
    | none => exact sets _ (.inr rfl)
    | some q =>
      dsimp only
      split
      · have opened := Band.quietest_opened hq
        have ne : i ≠ q := by rintro rfl; rw [closed] at opened; cases opened
        have like := w.set_like q .pending (w.band.gate q).hold
        have views := w.keepHold_view (st := .pending) (.inr rfl) (.inl opened)
        have same : (w.keepHold q .pending).band.gate i = w.band.gate i := w.set_gate_ne _ _ ne
        obtain ⟨cfg, inUse, feed, length, latest⟩ := like.trans ((w.keepHold q .pending).set_like i .opened (some due))
        refine ⟨⟨cfg, inUse, feed, length, latest⟩, ?_, fun j hj => ?_⟩
        · show (((w.keepHold q .pending).set i .opened (some due)).band.gate i).view = _
          rw [BandWork.set_gate _ _ _ (by rw [BandWork.keepHold, like.length]; exact hi), same]
          rfl
        · show (((w.keepHold q .pending).set i .opened (some due)).band.gate j).view = _
          rw [BandWork.set_gate_ne _ _ _ hj]
          exact views j
      · exact sets _ (.inr rfl)

end Sys2Proof.Machine
end

section
/-! One band frame (R120): what it leaves of every gate, as a function of the gate it finds. -/

namespace Sys2Proof.Machine

/-! ### One index's part in a fold -/

/-- Where the steps of a fold at all other numbers keep `q`, the fold makes of `q` what the step at that number makes of it. -/
theorem foldl_at {σ β : Type} {P : σ → Prop} (q : σ → β) {f : σ → Nat → σ} {l : List Nat} {s : σ} {i : Nat} (nodup : l.Nodup)
    (hs : P s) (hP : ∀ x, ∀ j ∈ l, P x → P (f x j)) (hq : ∀ x, P x → ∀ j ∈ l, j ≠ i → q (f x j) = q x) :
    P (l.foldl f s) ∧ (i ∉ l → q (l.foldl f s) = q s) ∧ (i ∈ l → ∃ x, P x ∧ q x = q s ∧ q (l.foldl f s) = q (f x i)) := by
  induction l generalizing s with
  | nil => exact ⟨hs, fun _ => rfl, fun h => absurd h List.not_mem_nil⟩
  | cons j l ih =>
    obtain ⟨fresh, nodup⟩ := List.nodup_cons.1 nodup
    obtain ⟨keeps, outside, inside⟩ := ih nodup (hP s j List.mem_cons_self hs)
      (fun x k hk => hP x k (List.mem_cons_of_mem j hk)) fun x hx k hk => hq x hx k (List.mem_cons_of_mem j hk)
    refine ⟨keeps, fun out => ?_, fun mem => ?_⟩
    · rw [List.mem_cons, not_or] at out
      exact (outside out.2).trans (hq s hs j List.mem_cons_self (Ne.symm out.1))
    · rcases List.mem_cons.1 mem with rfl | mem
      · exact ⟨s, hs, rfl, outside fresh⟩
      · obtain ⟨x, hx, same, last⟩ := inside mem
        exact ⟨x, hx, same.trans (hq s hs j List.mem_cons_self (by rintro rfl; exact fresh mem)), last⟩

/-! ### The steps of a band frame on one gate -/

/-- Step 1 on a gate that is OPEN or PENDING and heard: its hold restarts. -/
def Gate.restarted (g : Gate) (threshold due : Nat) : Gate :=
  if (g.state = .opened ∨ g.state = .pending) ∧ threshold ≤ g.latest then { g with hold := some due } else g

/-- Step 2 on a gate whose hold is due: it closes. -/
def Gate.expired (g : Gate) (boundary : Nat) : Gate :=
  if (g.state = .opened ∨ g.state = .pending) ∧ isDue g.hold boundary = true then { g with state := .closed, hold := none } else g

/-- Step 3 on a gate that is CLOSED and heard: it asks to open. -/
def Gate.asking (g : Gate) (threshold due : Nat) : Gate :=
  if g.state = .closed ∧ threshold ≤ g.latest then { g with state := .opened, hold := some due } else g

theorem Gate.restarted_view (g : Gate) (threshold due : Nat) : (g.restarted threshold due).view = g.view.restarted threshold due := by
  by_cases h : threshold ≤ g.latest <;> cases hs : g.state <;> simp [Gate.restarted, Gate.view, hs, h]

theorem Gate.expired_view (g : Gate) (boundary : Nat) : (g.expired boundary).view = g.view.expired boundary := by
  cases h : isDue g.hold boundary <;> cases hs : g.state <;> simp [Gate.expired, Gate.view, hs, h]

theorem Gate.asking_view (g : Gate) (threshold due : Nat) : (g.asking threshold due).view = g.view.asking threshold due := by
  by_cases h : threshold ≤ g.latest <;> cases hs : g.state <;> simp [Gate.asking, Gate.view, hs, h]

/-! ### The steps of a band frame on a band -/

/-- The latest activities of a band, heard from the units of a list. -/
theorem Band.hear_fold (b : Band) {l : List Nat} (nodup : l.Nodup) (a : Nat → Nat) :
    let b' := l.foldl (fun (x : Band) i => x.hear i (a i)) b
    b'.cfg = b.cfg ∧ b'.inUse = b.inUse ∧ b'.feed = b.feed ∧ b'.gates.length = b.gates.length ∧
      ∀ i < b.gates.length, b'.gate i = { b.gate i with latest := if i ∈ l then a i else (b.gate i).latest } := by
  intro b'
  have steps := fun i => foldl_at (P := fun x : Band => x.cfg = b.cfg ∧ x.inUse = b.inUse ∧ x.feed = b.feed ∧
      x.gates.length = b.gates.length) (fun x => x.gate i) (f := fun (x : Band) i => x.hear i (a i)) (s := b) (i := i) nodup
    ⟨rfl, rfl, rfl, rfl⟩ (fun x j _ h => ⟨h.1, h.2.1, h.2.2.1, by simpa [Band.hear] using h.2.2.2⟩)
    fun x _ j _ hne => x.gate_modify_ne _ hne.symm
  obtain ⟨cfg, inUse, feed, length⟩ := (steps 0).1
  refine ⟨cfg, inUse, feed, length, fun i hi => ?_⟩
  obtain ⟨-, outside, inside⟩ := steps i
  by_cases mem : i ∈ l
  · obtain ⟨x, ⟨-, -, -, hl⟩, same, last⟩ := inside mem
    rw [if_pos mem, ← same]
    exact last.trans (x.gate_modify i _ (by omega))
  · rw [if_neg mem]
    exact outside mem

theorem Band.restartHold_like (b : Band) (boundary i : Nat) : b.Like (b.restartHold boundary i) := by
  unfold Band.restartHold
  split
  · refine ⟨rfl, rfl, rfl, by simp, fun j => ?_⟩
    by_cases h : j = i
    · subst h
      by_cases hj : j < b.gates.length
      · rw [b.gate_modify j _ hj]
      · exact congrArg Gate.latest (b.gate_modify_ge _ (by omega))
    · exact congrArg Gate.latest (b.gate_modify_ne _ h)
  · exact .refl b

theorem Band.restartHold_gate (b : Band) (boundary : Nat) {i : Nat} (hi : i < b.gates.length) :
    (b.restartHold boundary i).gate i = (b.gate i).restarted b.inUse (boundary + 4 * b.cfg.hold) := by
  unfold Band.restartHold Gate.restarted
  by_cases h : ((b.gate i).state = .opened ∨ (b.gate i).state = .pending) ∧ b.inUse ≤ (b.gate i).latest
  · rw [if_pos h, if_pos (by simpa [Band.heard] using h)]
    exact b.gate_modify i _ hi
  · rw [if_neg h, if_neg (by simpa [Band.heard] using h)]

theorem Band.restartHold_gate_ne (b : Band) (boundary : Nat) {i j : Nat} (h : i ≠ j) : (b.restartHold boundary j).gate i = b.gate i := by
  unfold Band.restartHold
  split
  · exact b.gate_modify_ne _ h
  · rfl

theorem Band.restart_fold (b : Band) (boundary : Nat) :
    let b' := (List.range b.gates.length).foldl (fun (x : Band) i => x.restartHold boundary i) b
    b.Like b' ∧ ∀ i < b.gates.length, b'.gate i = (b.gate i).restarted b.inUse (boundary + 4 * b.cfg.hold) := by
  intro b'
  have steps := fun i => foldl_at (P := b.Like) (fun x => x.gate i) (f := fun (x : Band) i => x.restartHold boundary i) (s := b)
    (i := i) (List.nodup_range (n := b.gates.length)) (.refl b) (fun x j _ h => h.trans (x.restartHold_like boundary j))
    fun x _ j _ hne => x.restartHold_gate_ne boundary hne.symm
  refine ⟨(steps 0).1, fun i hi => ?_⟩
  obtain ⟨x, like, same, last⟩ := (steps i).2.2 (List.mem_range.2 hi)
  rw [← same]
  refine last.trans ?_
  rw [x.restartHold_gate boundary (by rw [like.length]; exact hi), like.inUse, like.cfg]

theorem Band.holdDue_iff (b : Band) (boundary i : Nat) :
    b.holdDue boundary i = true ↔
      ((b.gate i).state = .opened ∨ (b.gate i).state = .pending) ∧ isDue (b.gate i).hold boundary = true := by
  simp [Band.holdDue]

/-- The look of a gate whose state and hold are replaced depends on its look alone. -/
theorem Gate.view_replace {g g' : Gate} (h : g.view = g'.view) (st : GateState) (hold : Option Nat) :
    ({ g with state := st, hold := hold } : Gate) = { g' with state := st, hold := hold } := by
  have latest : g.view.latest = g'.view.latest := by rw [h]
  rw [Gate.mk.injEq]
  exact ⟨rfl, latest, rfl⟩

/-- Step 2 of a band frame: every due gate closes; the promotions change no look. -/
theorem BandWork.expire_like (w : BandWork) (boundary : Nat) :
    w.band.Like (w.expire boundary).band ∧
      ∀ i < w.band.gates.length, ((w.expire boundary).band.gate i).view = ((w.band.gate i).expired boundary).view := by
  unfold BandWork.expire
  dsimp only
  generalize hdue : (List.range w.band.gates.length).filter (w.band.holdDue boundary) = due
  have nodup : due.Nodup := hdue ▸ List.nodup_range.filter _
  have mem : ∀ i < w.band.gates.length, i ∈ due ↔ w.band.holdDue boundary i = true := fun i hi => by
    rw [← hdue, List.mem_filter, List.mem_range]
    exact and_iff_right hi
  have steps := fun i => foldl_at (P := fun x : BandWork => w.band.Like x.band) (fun x => (x.band.gate i).view)
    (f := fun (x : BandWork) i => x.set i .closed none) (s := w) (i := i) nodup (.refl _)
    (fun x j _ h => h.trans (x.set_like j _ _)) fun x _ j _ hne => congrArg Gate.view (x.set_gate_ne _ _ hne.symm)
  have closed : ∀ i < w.band.gates.length,
      ((due.foldl (fun (x : BandWork) i => x.set i .closed none) w).band.gate i).view = ((w.band.gate i).expired boundary).view := by
    intro i hi
    obtain ⟨-, outside, inside⟩ := steps i
    unfold Gate.expired
    by_cases h : w.band.holdDue boundary i = true
    · obtain ⟨x, like, same, last⟩ := inside ((mem i hi).2 h)
      rw [if_pos ((w.band.holdDue_iff boundary i).1 h)]
      refine last.trans ?_
      rw [x.set_gate _ _ (by rw [like.length]; exact hi), Gate.view_replace same]
    · rw [if_neg (mt (w.band.holdDue_iff boundary i).2 h)]
      exact outside (mt (mem i hi).1 h)
  have like := (steps 0).1
  generalize due.foldl (fun (x : BandWork) i => x.set i .closed none) w = v at closed like
  generalize due.filter (fun i => (w.band.gate i).state == .opened) = freed
  have promotions : v.band.Like (freed.foldl (fun (x : BandWork) _ => x.promote) v).band ∧
      ∀ i, ((freed.foldl (fun (x : BandWork) _ => x.promote) v).band.gate i).view = (v.band.gate i).view := by
    clear closed like
    induction freed generalizing v with
    | nil => exact ⟨.refl _, fun _ => rfl⟩
    | cons j freed ih =>
      obtain ⟨like, views⟩ := v.promote_like
      obtain ⟨like', views'⟩ := ih v.promote
      exact ⟨like.trans like', fun i => (views' i).trans (views i)⟩
  exact ⟨like.trans promotions.1, fun i hi => (promotions.2 i).trans (closed i hi)⟩

/-- One gate's turn in step 3 of a band frame. -/
def BandWork.turn (boundary : Nat) (w : BandWork) (i : Nat) : BandWork :=
  if (w.band.gate i).state == .closed then w.askIfHeard i (dueAtClose boundary w.band.cfg.hold) else w

theorem BandWork.turn_like (w : BandWork) (boundary : Nat) {i : Nat} (hi : i < w.band.gates.length) :
    w.band.Like (w.turn boundary i).band ∧
      ((w.turn boundary i).band.gate i).view = ((w.band.gate i).asking w.band.inUse (boundary + 4 * w.band.cfg.hold)).view ∧
      ∀ j, j ≠ i → ((w.turn boundary i).band.gate j).view = (w.band.gate j).view := by
  unfold BandWork.turn BandWork.askIfHeard Gate.asking
  by_cases h : (w.band.gate i).state = .closed ∧ w.band.inUse ≤ (w.band.gate i).latest
  · obtain ⟨like, here, others⟩ := w.ask_like (dueAtClose boundary w.band.cfg.hold) h.1 hi
    rw [if_pos (by simpa using h.1), if_pos (by simpa [Band.heard] using h.2), if_pos h]
    exact ⟨like, here, others⟩
  · have still : (if ((w.band.gate i).state == .closed) = true then
        if w.band.heard i = true then w.ask i (dueAtClose boundary w.band.cfg.hold) else w else w) = w := by
      by_cases hc : (w.band.gate i).state = .closed
      · rw [if_pos (by simpa using hc), if_neg]
        intro heard
        exact h ⟨hc, by simpa [Band.heard] using heard⟩
      · rw [if_neg (by simpa using hc)]
    rw [still, if_neg h]
    exact ⟨.refl _, rfl, fun _ _ => rfl⟩

/-- Step 3 of a band frame: every CLOSED gate that is heard asks to open. -/
theorem BandWork.openings_like (w : BandWork) (boundary : Nat) :
    w.band.Like (w.openings boundary).band ∧
      ∀ i < w.band.gates.length,
        ((w.openings boundary).band.gate i).view =
          ((w.band.gate i).asking w.band.inUse (boundary + 4 * w.band.cfg.hold)).view := by
  have eq : w.openings boundary = (List.range w.band.gates.length).foldl (BandWork.turn boundary) w := rfl
  have steps := fun i => foldl_at (P := fun x : BandWork => w.band.Like x.band) (fun x => (x.band.gate i).view)
    (f := BandWork.turn boundary) (s := w) (i := i) (List.nodup_range (n := w.band.gates.length)) (.refl _)
    (fun x j hj h => h.trans (x.turn_like boundary (by rw [h.length]; exact List.mem_range.1 hj)).1)
    fun x h j hj hne => (x.turn_like boundary (by rw [h.length]; exact List.mem_range.1 hj)).2.2 i hne.symm
  rw [eq]
  refine ⟨(steps 0).1, fun i hi => ?_⟩
  obtain ⟨x, like, same, last⟩ := (steps i).2.2 (List.mem_range.2 hi)
  refine last.trans ?_
  rw [(x.turn_like boundary (by rw [like.length]; exact hi)).2.1, Gate.asking_view, same, Gate.asking_view, like.inUse, like.cfg]

/-! ### The band frame put together -/

/-- The work of a band frame: `active` are the ACTIVE units, `a` is their reported activity. -/
def BandWork.frame (active : List Nat) (a : Nat → Nat) (boundary : Nat) (w : BandWork) : BandWork :=
  let heard := active.foldl (fun (x : Band) i => x.hear i (a i)) w.band.takeThreshold
  let held := (List.range heard.gates.length).foldl (fun (x : Band) i => x.restartHold boundary i) heard
  if w.band.feed then ((⟨held, w.changed⟩ : BandWork).expire boundary).openings boundary else ⟨held, w.changed⟩

theorem State.bandFrame_eq (s : State) (boundary b : Nat) :
    s.bandFrame boundary b =
      s.workBand b (BandWork.frame ((List.range s.n).filter s.isActive) (fun i => s.activityOf i b) boundary) := rfl

/-- What a band frame makes of a gate of a band with its feed. -/
def Gate.framed (g : Gate) (threshold due boundary : Nat) : Gate :=
  ((g.restarted threshold due).expired boundary).asking threshold due

theorem BandWork.frame_gate (w : BandWork) {active : List Nat} (nodup : active.Nodup) (a : Nat → Nat) (boundary : Nat) :
    (w.frame active a boundary).band.inUse = w.band.cfg.threshold ∧ (w.frame active a boundary).band.feed = w.band.feed ∧
      ∀ i < w.band.gates.length,
        ((w.frame active a boundary).band.gate i).latest = (if i ∈ active then a i else (w.band.gate i).latest) ∧
        (w.band.feed = true →
          ((w.frame active a boundary).band.gate i).view =
            ({ (w.band.gate i).view with latest := if i ∈ active then a i else (w.band.gate i).latest } : Gate).framed
              w.band.cfg.threshold (boundary + 4 * w.band.cfg.hold) boundary) := by
  obtain ⟨cfg, inUse, feed, length, gates⟩ := w.band.takeThreshold.hear_fold nodup a
  unfold BandWork.frame
  dsimp only
  generalize active.foldl (fun (x : Band) i => x.hear i (a i)) w.band.takeThreshold = heard at *
  obtain ⟨held, holds⟩ := heard.restart_fold boundary
  generalize (List.range heard.gates.length).foldl (fun (x : Band) i => x.restartHold boundary i) heard = b at *
  have size : heard.gates.length = w.band.gates.length := length
  have latest : ∀ i < w.band.gates.length, (heard.gate i).latest = if i ∈ active then a i else (w.band.gate i).latest :=
    fun i hi => by rw [gates i hi]; rfl
  by_cases on : w.band.feed = true
  · rw [if_pos on]
    obtain ⟨expired, closes⟩ := BandWork.expire_like ⟨b, w.changed⟩ boundary
    obtain ⟨opened, opens⟩ := ((⟨b, w.changed⟩ : BandWork).expire boundary).openings_like boundary
    have like := (held.trans expired).trans opened
    refine ⟨like.inUse.trans inUse, like.feed.trans feed, fun i hi => ⟨(like.latest i).trans (latest i hi), fun _ => ?_⟩⟩
    have hb : i < b.gates.length := by rw [held.length]; omega
    have he : i < ((⟨b, w.changed⟩ : BandWork).expire boundary).band.gates.length := by rw [expired.length]; exact hb
    rw [opens i he, Gate.asking_view, closes i hb, (held.trans expired).inUse, (held.trans expired).cfg]
    dsimp only
    rw [holds i (by omega), Gate.expired_view, Gate.restarted_view, gates i hi, inUse, cfg]
    rfl
  · rw [if_neg on]
    exact ⟨held.inUse.trans inUse, held.feed.trans feed,
      fun i hi => ⟨(held.latest i).trans (latest i hi), fun h => absurd h on⟩⟩

end Sys2Proof.Machine
end

section
/-! The gates through the loop's stages of a frame close (R122): the gates of a unit that leaves ACTIVE are DISABLED, those of one
that enters it CLOSED or FORCED; every other gate keeps its look. -/

namespace Sys2Proof.Machine

/-! ### Work on a band -/

theorem State.Grows.bands_relay {s t : State} (h : State.Grows State.sansRelay s t) : t.bands = s.bands :=
  show t.sansRelay.bands = s.sansRelay.bands by rw [h.same]

theorem State.Grows.bands_units {s t : State} (h : State.Grows State.sansUnits s t) : t.bands = s.bands :=
  show t.sansUnits.bands = s.sansUnits.bands by rw [h.same]

theorem State.Grows.bands_lpc {s t : State} (h : State.Grows State.sansLpc s t) : t.bands = s.bands :=
  show t.sansLpc.bands = s.sansLpc.bands by rw [h.same]

theorem State.band_congr {s t : State} (h : t.bands = s.bands) (b : Nat) : t.band b = s.band b := by
  rw [State.band, State.band, h]

theorem State.bands_length_of_sansGates {s t : State} (h : t.sansGates = s.sansGates) : t.bands.length = s.bands.length := by
  have same : t.sansGates.bands.length = s.sansGates.bands.length := by rw [h]
  simpa [State.sansGates] using same

theorem State.bands_length_of_sansLoop {s t : State} (h : t.sansLoop = s.sansLoop) : t.bands.length = s.bands.length := by
  have same : t.sansLoop.bands.length = s.sansLoop.bands.length := by rw [h]
  simpa [State.sansLoop] using same

section
variable (s : State) {b : Nat} (f : BandWork → BandWork)

theorem State.workBand_band (hb : b < s.bands.length) : (s.workBand b f).band b = (f ⟨s.band b, false⟩).band := by
  rw [State.workBand_eq]
  simp [State.band, hb]

theorem State.workBand_band_ne {d : Nat} (hd : d ≠ b) : (s.workBand b f).band d = s.band d := by
  rw [State.workBand_eq]
  simp only [State.band, List.getD_eq_getElem?_getD, List.getElem?_set_ne hd.symm]

end

section
variable {s : State} {i b : Nat} (hlen : s.bands.length = 4) (hb : b < 4)
include hlen hb

theorem State.gatesLeave_band : (s.gatesLeave i).band b = (BandWork.vacate ⟨s.band b, false⟩ i .disabled).band := by
  obtain ⟨v, hv, hvb, -, hend⟩ :=
    State.each_at (fun t => t.band b) (s := s) (p := State.sansGates)
      (f := fun t d => t.workBand d fun w => w.vacate i .disabled) List.nodup_range (List.mem_range.2 hb)
      (fun t d _ => t.workBand_grows d _) fun t _ d _ hne => t.workBand_band_ne _ hne.symm
  have length := State.bands_length_of_sansGates hv.same
  have eq : s.gatesLeave i = s.each (List.range 4) fun t d => t.workBand d fun w => w.vacate i .disabled := rfl
  rw [eq, hend, v.workBand_band _ (by omega), hvb]

theorem State.gatesEnter_band :
    (s.gatesEnter i).band b =
      if s.eligible b i then (BandWork.set ⟨s.band b, false⟩ i (if s.isEmergency i then .forced else .closed) none).band
      else s.band b := by
  obtain ⟨v, hv, hvb, -, hend⟩ :=
    State.each_at (fun t => t.band b) (s := s) (p := State.sansGates)
      (f := fun t d => if t.eligible d i then
        t.workBand d fun w => w.set i (if t.isEmergency i then .forced else .closed) none else t)
      List.nodup_range (List.mem_range.2 hb)
      (fun t d _ => by
        split
        · exact t.workBand_grows d _
        · exact .refl t)
      fun t _ d _ hne => by
        split
        · exact t.workBand_band_ne _ hne.symm
        · rfl
  have length := State.bands_length_of_sansGates hv.same
  have cfgs : v.pbe = s.pbe := show v.sansGates.pbe = s.sansGates.pbe by rw [hv.same]
  have zmg : v.zmg = s.zmg := show v.sansGates.zmg = s.sansGates.zmg by rw [hv.same]
  have eligible : v.eligible b i = s.eligible b i := by
    rw [State.eligible, State.isActive_of_lpc hv.lpc_gates, State.powerCfg, cfgs, hvb]
    rfl
  have emergency : v.isEmergency i = s.isEmergency i := by rw [State.isEmergency, State.modeOf, zmg]; rfl
  have eq : s.gatesEnter i = s.each (List.range 4) fun t d => if t.eligible d i then
      t.workBand d fun w => w.set i (if t.isEmergency i then .forced else .closed) none else t := rfl
  rw [eq, hend, eligible]
  split
  · rw [v.workBand_band _ (by omega), hvb, emergency]
  · exact hvb

end

/-! ### One unit's turn in stage 3 -/

/-- What a step for the unit of index `i` makes of the gates of band `b`. -/
structure State.GatesStep (s t : State) (i b : Nat) : Prop where
  like : (s.band b).Like (t.band b)
  others : ∀ j, j ≠ i → ((t.band b).gate j).view = ((s.band b).gate j).view
  stays : s.isActive i = true → t.isActive i = true → t.band b = s.band b
  enters : s.isActive i = false → t.isActive i = true → (s.powerCfg i).bands.getLsbD b = true → (s.band b).feed = true →
    s.isEmergency i = false → i < (s.band b).gates.length →
    (t.band b).gate i = { (s.band b).gate i with state := .closed, hold := none }

theorem State.GatesStep.of_same {s t : State} {i : Nat} (b : Nat) (h : t.bands = s.bands)
    (old : t.isActive i = true → s.isActive i = true) : s.GatesStep t i b := by
  have same := State.band_congr h b
  refine ⟨by rw [same]; exact .refl _, fun j _ => by rw [same], fun _ _ => same, fun off on => ?_⟩
  rw [old on] at off
  cases off

theorem State.GatesStep.keep {s t u : State} {i b : Nat} (h : s.GatesStep t i b) (bands : u.bands = t.bands)
    (active : u.isActive i = t.isActive i) : s.GatesStep u i b := by
  have same := State.band_congr bands b
  exact ⟨by rw [same]; exact h.like, by rw [same]; exact h.others, by rw [same, active]; exact h.stays,
    by rw [same, active]; exact h.enters⟩

section
variable {s : State} {i b : Nat} (hlen : s.bands.length = 4) (hb : b < 4) (hi : i < s.n)
include hlen hb hi

theorem State.lose_gates : s.GatesStep (s.lose i) i b := by
  have gone : (s.lose i).isActive i = false := by rw [(s.lose_puts hi).isActive hi, RuEntry.lost_state]; rfl
  have work := (s.workRu_grows i fun r => { r with state := .lost, serving := none, heal := none, parts := [] }).bands_units
  have out : ∀ {p : Prop}, (s.lose i).isActive i = true → p := fun on => by rw [gone] at on; cases on
  by_cases active : s.isActive i = true
  · have lose : s.lose i =
        (s.workRu i fun r => { r with state := .lost, serving := none, heal := none, parts := [] }).leaveActive i := by
      unfold State.lose
      dsimp only
      rw [if_pos active]
    have before : ∀ (v : State) c g, (((v.modRu i g).markIf c (·.markRu i)).recompute i |>.votersLeave i).bands = v.bands :=
      fun v c g => (((State.recompute_grows _ i).relay.trans (State.votersLeave_grows _ i)).bands_relay).trans
        ((v.modRu_grows i g).trans (.markIf (State.markRu_grows _ i))).bands_units
    have band : (s.lose i).band b = (BandWork.vacate ⟨s.band b, false⟩ i .disabled).band := by
      rw [lose, State.leaveActive, State.gatesLeave_band (by rw [before, work]; exact hlen) hb,
        State.band_congr ((before _ _ _).trans work)]
    obtain ⟨like, views⟩ := BandWork.vacate_like ⟨s.band b, false⟩ i .disabled
    exact ⟨by rw [band]; exact like, by rw [band]; exact views, fun _ => out, fun _ => out⟩
  · have lose : s.lose i = s.workRu i fun r => { r with state := .lost, serving := none, heal := none, parts := [] } := by
      unfold State.lose
      dsimp only
      rw [if_neg active]
    exact .of_same b (by rw [lose]; exact work) out

theorem State.standing_gates (boundary : Nat) : s.GatesStep (s.standing boundary i) i b := by
  have lose := State.lose_gates hlen hb hi
  have stay : s.GatesStep s i b := .of_same b rfl id
  have works : ∀ g : RuEntry → RuEntry, (g (s.ru i)).state ≠ .active → s.GatesStep (s.workRu i g) i b := fun g hg =>
    .of_same b (s.workRu_grows i g).bands_units fun on => by
      rw [(s.workRu_puts hi g).isActive hi] at on; simp [hg] at on
  have keeps : ∀ g : RuEntry → RuEntry, (g (s.ru i)).state = (s.ru i).state → s.GatesStep (s.modRu i g) i b := fun g hg =>
    .of_same b rfl fun on => by rw [(s.modRu_puts hi g).isActive hi, hg] at on; exact on
  unfold State.standing
  dsimp only
  split <;> rename_i hs
  · split
    · exact works _ RuState.noConfusion
    · exact stay
  · split
    · exact works _ RuState.noConfusion
    · exact stay
  · split <;> assumption
  · split
    · exact lose
    · split
      · exact stay
      · exact keeps _ rfl
  · split
    · exact lose
    · split
      · exact stay
      · split
        · exact keeps _ (by rw [RuEntry.tendHeal_eq])
        · exact .of_same b (s.workRu_grows i _).bands_units fun _ => by simp [State.isActive, hs]

omit hi in
/-- The gates of a unit that has just become ACTIVE: CLOSED, or FORCED, where they are eligible (R122). -/
theorem State.gatesEnter_gates {v : State} (off : s.isActive i = false) (on : v.isActive i = true) (bands : v.bands = s.bands)
    (cfgs : v.pbe.cfgs = s.pbe.cfgs) (zmg : v.zmg = s.zmg) : s.GatesStep (v.gatesEnter i) i b := by
  have same := State.band_congr bands b
  have band := State.gatesEnter_band (s := v) (i := i) (by rw [bands]; exact hlen) hb
  have emergency : v.isEmergency i = s.isEmergency i := by rw [State.isEmergency, State.modeOf, zmg]; rfl
  rw [same, emergency] at band
  by_cases eligible : v.eligible b i = true
  · rw [if_pos eligible] at band
    refine ⟨by rw [band]; exact BandWork.set_like ⟨s.band b, false⟩ i _ none,
      fun j hj => by rw [band, BandWork.set_gate_ne _ _ _ hj], fun k => absurd k (by simp [off]), fun _ _ _ _ normal hl => ?_⟩
    rw [band, BandWork.set_gate ⟨s.band b, false⟩ _ _ hl, normal]
    rfl
  · rw [if_neg eligible] at band
    refine ⟨by rw [band]; exact .refl _, fun j _ => by rw [band], fun k => absurd k (by simp [off]), fun _ _ bit feed => ?_⟩
    refine absurd ?_ eligible
    rw [State.eligible, on, State.powerCfg, cfgs, same]
    simp only [Bool.true_and, Bool.and_eq_true]
    exact ⟨bit, feed⟩

/-- A unit whose identity read completes with a match: its gates follow it into ACTIVE (R14, R122). -/
theorem State.completeRead_gates (off : s.isActive i = false) (x : BitVec 32) : s.GatesStep (s.completeRead i x) i b := by
  unfold State.completeRead
  dsimp only
  split
  · generalize hg : (fun r : RuEntry =>
      ({ r with state := .active, learned := some x, serving := some r.chosenEnd, heal := none, parts := [] } : RuEntry)) = g
    have work := s.workRu_puts hi g
    have entered := work.trans (State.modRu_puts (s.workRu i g) (work.n ▸ hi) fun r => { r with hold := some 0 })
    have units := (s.workRu_grows i g).trans ((s.workRu i g).modRu_grows i fun r => { r with hold := some 0 })
    unfold State.enterActive
    generalize (s.workRu i g).modRu i (fun r => { r with hold := some 0 }) = v at entered units
    have allocs := v.recompute_grows i
    have cfgs : (v.recompute i).pbe.cfgs = v.pbe.cfgs := show (v.recompute i).sansAllocs.pbe.cfgs = v.sansAllocs.pbe.cfgs by
      rw [allocs.same]
    have zmg : (v.recompute i).zmg = v.zmg := show (v.recompute i).sansAllocs.zmg = v.sansAllocs.zmg by rw [allocs.same]
    have cfgs' : v.pbe.cfgs = s.pbe.cfgs := show v.sansUnits.pbe.cfgs = s.sansUnits.pbe.cfgs by rw [units.same]
    have zmg' : v.zmg = s.zmg := show v.sansUnits.zmg = s.sansUnits.zmg by rw [units.same]
    refine State.gatesEnter_gates hlen hb off ?_ (allocs.relay.bands_relay.trans units.bands_units) (cfgs.trans cfgs')
      (zmg.trans zmg')
    rw [State.isActive_of_lpc allocs.relay.lpc_relay, entered.isActive hi, work.ru hi, ← hg]
    rfl
  · exact .of_same b (s.workRu_grows i _).bands_units fun on => by
      rw [(s.workRu_puts hi _).isActive hi] at on
      cases on

theorem State.stage3_gates (boundary : Nat) (f : FrameInput) : s.GatesStep (s.stage3 boundary f i) i b := by
  unfold State.stage3
  dsimp only
  split
  · rename_i joining
    have off : s.isActive i = false := by simp [State.isActive, joining.1]
    have keeps : ∀ g : RuEntry → RuEntry, (g (s.ru i)).state = (s.ru i).state → s.GatesStep (s.modRu i g) i b := fun g hg =>
      .of_same b rfl fun on => by rw [(s.modRu_puts hi g).isActive hi, hg] at on; exact on
    split
    · unfold State.readFrame State.takePart
      dsimp only
      split
      · exact keeps _ rfl
      · split
        · exact keeps _ rfl
        · exact State.completeRead_gates hlen hb hi off _
    · exact .of_same b rfl id
  · have stands := State.standing_gates hlen hb hi boundary
    have hn := (s.standing_puts hi boundary).n
    split
    · exact stands.keep ((s.standing boundary i).workRu_grows i _).bands_units
        (((s.standing boundary i).workRu_puts (hn ▸ hi) fun r =>
          { r with serving := some ((s.standing boundary i).ru i).preferred, swings := satInc r.swings, heal := none }).isActive
          (hn ▸ hi))
    · exact stands

end

/-! ### The stages put together -/

theorem State.stage4_bands (s : State) (f : FrameInput) (i : Nat) : (s.stage4 f i).bands = s.bands := by
  unfold State.stage4
  dsimp only
  repeat' split
  · rfl
  · rfl
  · exact (State.recomputeActive_grows _ i).relay.bands_relay.trans
      ((s.modRu_grows i _).trans (State.markRu_grows _ i)).bands_units
  · rfl

theorem State.loopStages_bands (s : State) (boundary : Nat) (f : FrameInput) :
    (s.loopStages boundary f).bands = (s.stood boundary f).bands := by
  rw [State.loopStages_eq]
  exact State.each_frame State.bands fun t i _ => t.stage4_bands f i

/-- What the stages of a frame close make of the gates of band `b`. -/
structure State.GatesStaged (s t : State) (b : Nat) : Prop where
  like : (s.band b).Like (t.band b)
  stays : ∀ i < s.n, s.isActive i = true → t.isActive i = true → ((t.band b).gate i).view = ((s.band b).gate i).view
  enters : ∀ i < s.n, s.isActive i = false → t.isActive i = true → (s.powerCfg i).bands.getLsbD b = true →
    (s.band b).feed = true → s.isEmergency i = false → i < (s.band b).gates.length →
    ((t.band b).gate i).view = { (s.band b).gate i with state := .closed, hold := none }

theorem State.loopStages_gates {s : State} (boundary : Nat) (f : FrameInput) {b : Nat} (hlen : s.bands.length = 4) (hb : b < 4) :
    s.GatesStaged (s.loopStages boundary f) b := by
  have start : (s.reached f).bands = s.bands := (s.reached_grows f).bands_lpc
  have kept : ∀ v : State, v.sansLoop = (s.reached f).sansLoop → v.bands.length = 4 ∧ v.n = s.n ∧ v.pbe.cfgs = s.pbe.cfgs ∧
      v.zmg = s.zmg := fun v hv => by
    have loop : v.sansLoop.pbe.cfgs = (s.reached f).sansLoop.pbe.cfgs ∧ v.sansLoop.zmg = (s.reached f).sansLoop.zmg := by
      rw [hv]; exact ⟨rfl, rfl⟩
    have reach : (s.reached f).sansLpc.pbe.cfgs = s.sansLpc.pbe.cfgs ∧ (s.reached f).sansLpc.zmg = s.sansLpc.zmg := by
      rw [(s.reached_grows f).same]; exact ⟨rfl, rfl⟩
    exact ⟨by rw [State.bands_length_of_sansLoop hv, start, hlen], by rw [State.n_of_sansLoop hv, State.reached_n],
      loop.1.trans reach.1, loop.2.trans reach.2⟩
  have steps := fun i => foldl_at (P := fun v : State => v.sansLoop = (s.reached f).sansLoop ∧ ((s.reached f).band b).Like (v.band b))
    (fun v => (v.ru i, ((v.band b).gate i).view)) (f := fun v j => v.stage3 boundary f j) (l := List.range s.n) (s := s.reached f)
    (i := i) List.nodup_range ⟨rfl, .refl _⟩
    (fun v j hj h => by
      obtain ⟨length, n, -⟩ := kept v h.1
      exact ⟨(v.stage3_grows boundary f j).same.trans h.1,
        h.2.trans (State.stage3_gates length hb (n ▸ List.mem_range.1 hj) boundary f).like⟩)
    fun v h j hj hne => by
      obtain ⟨length, n, -⟩ := kept v h.1
      exact Prod.ext ((v.stage3_puts (n ▸ List.mem_range.1 hj) boundary f).ru_ne hne.symm)
        ((State.stage3_gates length hb (n ▸ List.mem_range.1 hj) boundary f).others i hne.symm)
  have eq : s.stood boundary f = (List.range s.n).foldl (fun v j => v.stage3 boundary f j) (s.reached f) := rfl
  have band : (s.loopStages boundary f).band b = (s.stood boundary f).band b := State.band_congr (s.loopStages_bands boundary f) b
  have unit : ∀ i < s.n, ∃ v : State, (v.bands.length = 4 ∧ v.n = s.n ∧ v.pbe.cfgs = s.pbe.cfgs ∧ v.zmg = s.zmg) ∧
      (s.band b).Like (v.band b) ∧ v.isActive i = s.isActive i ∧ ((v.band b).gate i).view = ((s.band b).gate i).view ∧
      (v.stage3 boundary f i).isActive i = (s.loopStages boundary f).isActive i ∧
      (((s.loopStages boundary f).band b).gate i).view = (((v.stage3 boundary f i).band b).gate i).view := by
    intro i hi
    obtain ⟨v, ⟨hv, like⟩, same, last⟩ := (steps i).2.2 (List.mem_range.2 hi)
    rw [← eq, Prod.mk.injEq] at last
    rw [Prod.mk.injEq, State.band_congr start] at same
    refine ⟨v, kept v hv, State.band_congr start b ▸ like, ?_, same.2, ?_, by rw [band]; exact last.2⟩
    · rw [State.isActive, same.1]; exact s.reached_isActive f i
    · rw [State.loopStages_isActive, State.isActive, ← last.1]; rfl
  refine ⟨?_, fun i hi before after => ?_, fun i hi before after bit feed normal hl => ?_⟩
  · rw [band, ← State.band_congr start, eq]
    exact (steps 0).1.2
  · obtain ⟨v, ⟨length, n, -⟩, -, was, view, now, result⟩ := unit i hi
    have step := State.stage3_gates length hb (n ▸ hi) boundary f
    rw [result, step.stays (was.trans before) (now.trans after)]
    exact view
  · obtain ⟨v, ⟨length, n, cfgs, zmg⟩, like, was, view, now, result⟩ := unit i hi
    have step := State.stage3_gates length hb (n ▸ hi) boundary f
    have emergency : v.isEmergency i = s.isEmergency i := by rw [State.isEmergency, State.modeOf, zmg]; rfl
    rw [result, step.enters (was.trans before) (now.trans after) (by rw [State.powerCfg, cfgs]; exact bit)
      (by rw [like.feed]; exact feed) (emergency.trans normal) (by rw [like.length]; exact hl), Gate.view_replace view]
    rfl

end Sys2Proof.Machine
end

section
/-! The gates at a frame close (R115, R120), and the frame close from the reports on put together. -/

namespace Sys2Proof.Machine

/-! ### A frame close at which the alarm timer does not expire -/

/-- A timer that was not due, or starts at this boundary with 100 ms, is not due at it (R51). -/
theorem State.alarmSample_quiet (s : State) {boundary : Nat} (level : Bool) (h : isDue s.zmg.alarmTimer boundary = false) :
    (s.alarmSample boundary level).alarmDue boundary = false := by
  obtain ⟨timer, hz, ht⟩ : ∃ timer, (s.alarmSample boundary level).zmg = { s.zmg with level := some level, alarmTimer := timer } ∧
      isDue timer boundary = false := by
    refine ⟨_, State.markIf_frame State.zmg rfl, ?_⟩
    cases level with
    | false => rfl
    | true =>
      cases ht : s.zmg.alarmTimer with
      | some d => rw [ht] at h; exact h
      | none =>
        have later : ¬ dueAtClose boundary 100 ≤ boundary := by unfold dueAtClose; omega
        dsimp only
        split
        · split
          · rfl
          · exact decide_eq_false later
        · rfl
  rw [State.alarmDue, hz]
  exact ht

/-- What the sample of the ALARM input leaves of what the gates follow. -/
theorem State.sampled_eq (s : State) (f : FrameInput) :
    (s.sampled f).lpc = s.lpc ∧ (s.sampled f).bands = s.bands ∧ (s.sampled f).pbe = s.pbe ∧
      (s.sampled f).zmg.zones = s.zmg.zones ∧ (s.sampled f).loopOn = s.loopOn :=
  ⟨State.markIf_frame State.lpc rfl, State.markIf_frame State.bands rfl, State.markIf_frame State.pbe rfl,
    State.markIf_frame (fun v => v.zmg.zones) rfl, State.markIf_frame State.loopOn rfl⟩

/-- What the gates follow of a state, the gates apart. -/
def State.gateInputs (s : State) : Lpc × List PowerCfg × Zmg := (s.lpc, s.pbe.cfgs, s.zmg)

theorem State.frameClose_quiet {s : State} (f : FrameInput) (h : s.begun = true)
    (quiet : isDue s.zmg.alarmTimer (s.now + 1) = false) :
    (s.frameClose f).bands = (((s.sampled f).loopStages (s.now + 1) f).served (s.now + 1)).bands ∧
      (s.frameClose f).gateInputs = (((s.sampled f).loopStages (s.now + 1) f).served (s.now + 1)).gateInputs := by
  have due : (s.sampled f).alarmDue (s.now + 1) = false := State.alarmSample_quiet _ f.alarm quiet
  have on : (s.sampled f).loopOn = true := (s.sampled_eq f).2.2.2.2.trans (s.begun_iff.1 h).2
  have close : s.frameClose f =
      ({ (((s.sampled f).loopStages (s.now + 1) f).served (s.now + 1)).withPassed
          ((List.range 8).map (((s.sampled f).loopStages (s.now + 1) f).passedOn f)) with now := s.now + 1 } : State).latchOutputs := by
    rw [← State.closeFrame_eq (s.now + 1) f on]
    unfold State.frameClose State.closeWithAlarm
    dsimp only
    rw [← State.sampled, due]
    rfl
  have latched : ∀ v : State, v.latchOutputs.bands = v.bands ∧ v.latchOutputs.gateInputs = v.gateInputs := fun v => by
    unfold State.latchOutputs
    split <;> exact ⟨rfl, rfl⟩
  have passed : ∀ (v : State) p, ({ v.withPassed p with now := s.now + 1 } : State).bands = v.bands ∧
      State.gateInputs { v.withPassed p with now := s.now + 1 } = v.gateInputs := fun _ _ => ⟨rfl, rfl⟩
  rw [close, (latched _).1, (latched _).2]
  exact passed _ _

/-! ### The band frames -/

theorem State.views_of_lpc {s t : State} (h : t.lpc = s.lpc) : t.n = s.n ∧ t.isActive = s.isActive ∧ t.activityOf = s.activityOf := by
  have ru : t.ru = s.ru := funext (State.ru_congr h)
  refine ⟨by rw [State.n, State.n, h], ?_, ?_⟩
  · unfold State.isActive; rw [ru]
  · unfold State.activityOf; rw [ru]

/-- The band frame of a band, on the state that the loop's stages leave. -/
theorem State.served_band (s : State) (boundary : Nat) {b : Nat} (hlen : s.bands.length = 4) (hb : b < 4) :
    (s.served boundary).band b =
      (BandWork.frame ((List.range s.n).filter s.isActive) (fun i => s.activityOf i b) boundary ⟨s.band b, false⟩).band := by
  have channels := s.channelFrames_grows boundary
  unfold State.served
  generalize s.channelFrames boundary = t at channels
  obtain ⟨v, hv, hvb, -, hend⟩ :=
    State.each_at (fun t => t.band b) (s := t) (p := State.sansGates) (f := fun t d => t.bandFrame boundary d)
      List.nodup_range (List.mem_range.2 hb) (fun t d _ => t.workBand_grows d _) fun t _ d _ hne => t.workBand_band_ne _ hne.symm
  have length : v.bands.length = 4 := by rw [State.bands_length_of_sansGates hv.same, channels.bands_relay, hlen]
  have band : v.band b = s.band b := hvb.trans (State.band_congr channels.bands_relay b)
  obtain ⟨n, active, activity⟩ := State.views_of_lpc (hv.lpc_gates.trans channels.lpc_relay)
  have eq : t.bandFrames boundary = t.each (List.range 4) fun t d => t.bandFrame boundary d := rfl
  rw [eq, hend, State.bandFrame_eq, v.workBand_band _ (by omega), band, n, active, activity]

/-- The table of R120 for one gate of a band with its feed, `g` before the frame and `h` after it. -/
def Gate.Framed (g h : Gate) (threshold hold boundary : Nat) : Prop :=
  if threshold ≤ h.latest then (h.state = .opened ∨ h.state = .pending) ∧ h.hold = some (boundary + 4 * hold)
  else if (g.state = .opened ∨ g.state = .pending) ∧ isDue g.hold boundary = false then
    (h.state = .opened ∨ h.state = .pending) ∧ h.hold = g.hold
  else h.state = .closed ∧ h.hold = none

theorem Gate.framed_table {g h : Gate} {a threshold hold boundary : Nat}
    (live : g.state = .opened ∨ g.state = .pending ∨ g.state = .closed)
    (holds : g.hold.isSome = true ↔ (g.state = .opened ∨ g.state = .pending)) (latest : h.latest = a)
    (hh : h.view = ({ g.view with latest := a } : Gate).framed threshold (boundary + 4 * hold) boundary) :
    g.Framed h threshold hold boundary := by
  unfold Gate.Framed
  rw [latest]
  have holdOf : h.view.hold = h.hold := rfl
  rw [← Gate.view_asked (g := h), ← Gate.view_closed (g := h), ← holdOf, hh]
  by_cases asked : g.state = .opened ∨ g.state = .pending
  · have view : ({ g.view with latest := a } : Gate) = ⟨.opened, a, g.hold⟩ := by
      rw [Gate.mk.injEq]; exact ⟨Gate.view_asked.2 asked, rfl, rfl⟩
    rw [view]
    by_cases heard : threshold ≤ a
    · cases due : isDue (some (boundary + 4 * hold)) boundary <;> simp [Gate.framed, Gate.restarted, Gate.expired, Gate.asking, heard, due]
    · cases due : isDue g.hold boundary <;> simp [Gate.framed, Gate.restarted, Gate.expired, Gate.asking, heard, due, asked]
  · have closed : g.state = .closed := by
      rcases live with k | k | k
      · exact absurd (.inl k) asked
      · exact absurd (.inr k) asked
      · exact k
    have none : g.hold = none := by
      cases hg : g.hold with
      | none => rfl
      | some d => exact absurd (holds.1 (by rw [hg]; rfl)) asked
    have view : ({ g.view with latest := a } : Gate) = ⟨.closed, a, Option.none⟩ := by
      rw [Gate.mk.injEq]; exact ⟨Gate.view_closed.2 closed, rfl, none⟩
    rw [view]
    by_cases heard : threshold ≤ a <;> simp [Gate.framed, Gate.restarted, Gate.expired, Gate.asking, heard, closed]

/-- What the stages of a frame close leave of what the gates follow. -/
theorem State.loopStages_gateInputs (s : State) (boundary : Nat) (f : FrameInput) :
    (s.loopStages boundary f).pbe.cfgs = s.pbe.cfgs ∧ (s.loopStages boundary f).zmg = s.zmg := by
  have stages := (s.loopStages_grows boundary f).map (q := fun v => (v.pbe.cfgs, v.zmg)) (fun v => (v.pbe.cfgs, v.zmg)) fun _ => rfl
  have reach := (s.reached_grows f).map (q := fun v => (v.pbe.cfgs, v.zmg)) (fun v => (v.pbe.cfgs, v.zmg)) fun _ => rfl
  exact Prod.mk.inj (stages.same.trans reach.same)

theorem State.served_gateInputs (s : State) (boundary : Nat) : (s.served boundary).gateInputs = s.gateInputs := by
  have grows := (s.served_grows boundary).map (q := fun v => (v.pbe.cfgs, v.zmg)) (fun v => (v.pbe.cfgs, v.zmg)) fun _ => rfl
  obtain ⟨cfgs, zmg⟩ := Prod.mk.inj grows.same
  rw [State.gateInputs, State.served_lpc, cfgs, zmg]
  rfl

/-- The gates of a band after its band frame, by the gate law of the state before the frame close. -/
theorem State.GatesStaged.framed {s l u : State} {b boundary : Nat} (k : s.GatesStaged l b) (hb : b < 4) (law : s.gateLaw)
    (n : l.n = s.n) (length : l.bands.length = 4) (band : u.band b = (l.served boundary).band b)
    (inputs : u.gateInputs = l.gateInputs) (cfgs : l.pbe.cfgs = s.pbe.cfgs) (zones : l.zmg.zones = s.zmg.zones) :
    (u.band b).inUse = (s.band b).cfg.threshold ∧
      ∀ i < s.n,
        ((u.band b).gate i).latest = (if u.isActive i then u.activityOf i b else ((s.band b).gate i).latest) ∧
          (u.eligible b i = true → u.modeOf i = .normal →
            ((s.band b).gate i).Framed ((u.band b).gate i) (s.band b).cfg.threshold (s.band b).cfg.hold boundary) := by
  obtain ⟨-, -, gates⟩ := law
  obtain ⟨size, gates⟩ := gates b (List.mem_range.2 hb)
  simp only [State.gateInputs, Prod.mk.injEq] at inputs
  obtain ⟨lpc, cfgs', zmg⟩ := inputs
  obtain ⟨-, active, activity⟩ := State.views_of_lpc lpc
  obtain ⟨inUse, feed, frames⟩ := BandWork.frame_gate ⟨l.band b, false⟩ (active := (List.range l.n).filter l.isActive)
    (List.nodup_range.filter _) (fun i => l.activityOf i b) boundary
  rw [l.served_band boundary length hb, ← active, ← activity] at band
  rw [← active, ← activity, ← band] at inUse feed frames
  refine ⟨inUse.trans (congrArg BandCfg.threshold k.like.cfg), fun i hi => ?_⟩
  have hl : i < (l.band b).gates.length := by rw [k.like.length, size]; exact hi
  obtain ⟨latest, view⟩ := frames i hl
  have mem : i ∈ (List.range l.n).filter u.isActive ↔ u.isActive i = true := by
    rw [List.mem_filter, List.mem_range]
    exact and_iff_right (n.symm ▸ hi)
  simp only [mem] at latest view
  rw [k.like.latest i] at latest view
  refine ⟨latest, fun eligible normal => ?_⟩
  simp only [State.eligible, Bool.and_eq_true] at eligible
  obtain ⟨⟨on, bit⟩, fed⟩ := eligible
  rw [State.powerCfg, cfgs', cfgs] at bit
  rw [feed, k.like.feed] at fed
  have mode : s.modeOf i = .normal := by rw [State.modeOf, ← zones, ← zmg]; exact normal
  have frame := view (by rw [k.like.feed]; exact fed)
  obtain ⟨holds, table⟩ := gates i (List.mem_range.2 hi)
  rw [k.like.cfg] at frame
  cases before : s.isActive i with
  | true =>
    have was : s.eligible b i = true := by rw [State.eligible, before, State.powerCfg, bit, fed]; rfl
    rw [if_pos was, mode, if_neg (by decide)] at table
    rw [k.stays i hi before (by rw [← active]; exact on)] at frame
    refine Gate.framed_table ?_ holds latest frame
    cases hs : ((s.band b).gate i).state with
    | disabled => exact absurd hs table.2
    | forced => exact absurd hs table.1
    | opened => exact .inl rfl
    | pending => exact .inr (.inl rfl)
    | closed => exact .inr (.inr rfl)
  | false =>
    have was : s.eligible b i = false := by rw [State.eligible, before]; rfl
    rw [if_neg (by simp [was])] at table
    have calm : s.isEmergency i = false := by rw [State.isEmergency, mode]; rfl
    rw [k.enters i hi before (by rw [← active]; exact on) bit fed calm (by omega)] at frame
    have closed := Gate.framed_table (g := { (s.band b).gate i with state := .closed, hold := none }) (.inr (.inr rfl))
      (by simp) latest frame
    unfold Gate.Framed at closed ⊢
    simpa [table] using closed

theorem State.gateLaw_congr {s t : State} (lpc : t.lpc = s.lpc) (bands : t.bands = s.bands) (pbe : t.pbe = s.pbe)
    (zones : t.zmg.zones = s.zmg.zones) (h : s.gateLaw) : t.gateLaw := by
  obtain ⟨n, active, -⟩ := State.views_of_lpc lpc
  have band : t.band = s.band := funext (State.band_congr bands)
  have mode : t.modeOf = s.modeOf := by unfold State.modeOf; rw [zones]
  have eligible : t.eligible = s.eligible := by unfold State.eligible State.powerCfg; rw [active, pbe, band]
  unfold State.gateLaw
  rw [zones, n, bands, band, mode, eligible]
  exact h

/-- The gates of a band at a frame close at which the alarm timer does not expire (R115, R120). -/
theorem State.frameClose_gates {s : State} (f : FrameInput) (h : s.begun = true) {b : Nat} (hb : b < 4) (law : s.gateLaw)
    (quiet : isDue s.zmg.alarmTimer (s.now + 1) = false) :
    ((s.frameClose f).band b).inUse = (s.band b).cfg.threshold ∧
      ∀ i < s.n,
        (((s.frameClose f).band b).gate i).latest =
            (if (s.frameClose f).isActive i then (s.frameClose f).activityOf i b else ((s.band b).gate i).latest) ∧
          ((s.frameClose f).eligible b i = true → (s.frameClose f).modeOf i = .normal →
            ((s.band b).gate i).Framed (((s.frameClose f).band b).gate i) (s.band b).cfg.threshold (s.band b).cfg.hold
              (s.now + 1)) := by
  have bands : s.bands.length = 4 := law.2.1
  obtain ⟨closedBands, closedInputs⟩ := State.frameClose_quiet f h quiet
  obtain ⟨lpc₀, bands₀, pbe₀, zones₀, -⟩ := s.sampled_eq f
  generalize s.sampled f = t at *
  have tn : t.n = s.n := by rw [State.n, State.n, lpc₀]
  obtain ⟨cfgs, zmg⟩ := t.loopStages_gateInputs (s.now + 1) f
  have staged := State.loopStages_gates (s := t) (s.now + 1) f (by rw [bands₀, bands]) hb
  have n := t.loopStages_n (s.now + 1) f
  have length : (t.loopStages (s.now + 1) f).bands.length = 4 := by
    rw [State.bands_length_of_sansLoop (t.loopStages_grows (s.now + 1) f).same, (t.reached_grows f).bands_lpc, bands₀, bands]
  generalize t.loopStages (s.now + 1) f = l at *
  have framed := staged.framed (u := s.frameClose f) hb (State.gateLaw_congr lpc₀ bands₀ pbe₀ zones₀ law) n length
    (State.band_congr closedBands b) (closedInputs.trans (l.served_gateInputs _)) cfgs (congrArg Zmg.zones zmg)
  rw [tn, State.band_congr bands₀] at framed
  exact framed

/-! ### The frame close from the reports on -/

/-- Settles O27: the reports from the entries, the channels from their channel frames, the gates from their band frames. -/
theorem frameCloseSelectsTheSource : Obligations.FrameCloseSelectsTheSource := by
  intro s f h hlen hn
  refine ⟨_, exec_loopFrameClose f h, fun i hi => ?_, fun c hc on talkT i hi => ?_, fun c hc on up hang hangT talkT => ?_,
    fun c hc on down => ?_, fun b hb law quiet => ?_⟩
  · exact State.frameClose_reports f h hn (List.mem_range.1 hi)
  · obtain ⟨l, closed⟩ := State.frameClose_channel f h hlen (List.mem_range.1 hc) on
    exact closed.lockout talkT (List.mem_range.1 hi)
  · obtain ⟨l, closed⟩ := State.frameClose_channel f h hlen (List.mem_range.1 hc) on
    exact closed.staysUp hn up hang hangT talkT
  · obtain ⟨l, closed⟩ := State.frameClose_channel f h hlen (List.mem_range.1 hc) on
    exact closed.opens hn down
  · obtain ⟨inUse, gates⟩ := State.frameClose_gates f h (List.mem_range.1 hb) law quiet
    exact ⟨inUse, fun i hi => gates i (List.mem_range.1 hi)⟩

end Sys2Proof.Machine
end

section
/-! A mode change set to either mode over the whole loop (R46, R48, R49): what it makes of the zone table, and what the engine, the
relay and the gates keep as they take it; a request that is handled at once and answered (R175, R176). -/

namespace Sys2Proof.Machine

/-! ### Requests answered at once (R175, R176) -/

/-- The part after it has taken a request into a slot: the receiver hunts, the slot waits. -/
def State.seat (s : State) (kind tag : Octet) : State := s.hunt.takeSlot kind tag

/-- A state without the slots of the requests that wait in it: the slots are `l`, the receiver is as before the request. -/
def State.unseated (r : State) (receiver : Receiver) (l : List Slot) : State :=
  { r with clp := { r.clp with receiver := receiver, slots := l } }

/-- A request that is accepted and answered: its handling from the state that has taken its slot leaves `r`, in which it waits in
the youngest slot, and then its reply. -/
theorem State.frameIn_replied {s r : State} {kind tag : Octet} {b : Bool} {handle : State → State} {st : Status}
    {fields : List Octet} {l : List Slot} (h : s.accepts tag) (fits : b = true)
    (hr : handle (s.seat kind tag) = r.answer tag st fields) (hunts : r.clp.receiver = .hunting)
    (slots : r.clp.slots = l ++ [⟨kind, tag, .waiting⟩]) (free : ∀ x ∈ l, x.tag ≠ tag) :
    s.frameIn (fun v => v.request kind tag b handle) =
      .next ((r.unseated s.clp.receiver l).replied kind tag st fields) := by
  have seated : r = ({ r.unseated s.clp.receiver l with
      clp := { (r.unseated s.clp.receiver l).clp with
        receiver := .hunting, slots := (r.unseated s.clp.receiver l).clp.slots ++ [⟨kind, tag, .waiting⟩] } } : State) := by
    simp only [State.unseated, ← slots, ← hunts]
  obtain ⟨slot, running⟩ := h
  rw [State.frameIn, State.whenOn, if_pos slot.1, fits,
    State.request_replied slot (.inl running) (hr.trans (congrArg (State.answer · tag st fields) seated)) free]

/-- A request whose handling is its reply alone. -/
theorem State.frameIn_answered {s : State} {kind tag : Octet} {b : Bool} {handle : State → State} {st : Status}
    {fields : List Octet} (h : s.accepts tag) (fits : b = true)
    (hr : handle (s.seat kind tag) = (s.seat kind tag).answer tag st fields) :
    s.frameIn (fun v => v.request kind tag b handle) = .next (s.replied kind tag st fields) :=
  State.frameIn_replied (r := s.seat kind tag) h fits hr rfl rfl h.1.2.2.1

/-! ### The zone table under a mode change set (R48) -/

/-- The zones of a set change to a mode, and the count follows. -/
def Zmg.changed (z : Zmg) (zones : ZoneSet) (m : Mode) : Zmg :=
  { z with
    zones := z.zones.zipIdx.map fun x => if zones.mem x.2 then { x.1 with mode := m } else x.1
    changes := wrapInc z.changes }

theorem Zmg.changed_zones (z : Zmg) (zones : ZoneSet) (m : Mode) :
    (z.changed zones m).zones =
      (List.range z.zones.length).map fun i =>
        if zones.mem i then { z.zones.getD i ⟨0, .normal⟩ with mode := m } else z.zones.getD i ⟨0, .normal⟩ :=
  zipIdx_map_eq z.zones ⟨0, .normal⟩ _

/-- A mode change set keeps the thresholds. -/
theorem Zmg.changed_thresholds (z : Zmg) (zones : ZoneSet) (m : Mode) :
    (z.changed zones m).zones.map (·.threshold) = z.zones.map (·.threshold) := by
  rw [Zmg.changed_zones]
  conv_rhs => rw [← map_range_getD z.zones ⟨0, .normal⟩]
  rw [List.map_map, List.map_map]
  refine List.map_congr_left fun i _ => ?_
  dsimp only [Function.comp]
  split <;> rfl

/-- The mode of a zone after a mode change set. -/
theorem State.modeOf_changed {s t : State} {zones : ZoneSet} {m : Mode} (h : t.zmg.zones = (s.zmg.changed zones m).zones) {i : Nat}
    (hi : i < s.zmg.zones.length) : t.modeOf i = if zones.mem i then m else s.modeOf i := by
  have at_i : (s.zmg.changed zones m).zones.getD i ⟨0, .normal⟩ =
      if zones.mem i then { s.zmg.zones.getD i ⟨0, .normal⟩ with mode := m } else s.zmg.zones.getD i ⟨0, .normal⟩ := by
    rw [Zmg.changed_zones, List.getD_eq_getElem?_getD, List.getElem?_map, List.getElem?_range hi]
    rfl
  rw [State.modeOf, State.modeOf, h, at_i]
  split <;> rfl

theorem State.anyEmergency_iff (s : State) : s.anyEmergency = true ↔ ∃ i < s.n, s.modeOf i = .emergency := by
  simp [State.anyEmergency]

theorem State.emergencyZones_mem {s : State} (hn : s.n ≤ 24) (i : Nat) :
    s.emergencyZones.mem i = true ↔ i < s.n ∧ s.modeOf i = .emergency := by
  rw [State.emergencyZones, ZoneSet.below_mem _ _ _ hn]
  simp

/-- A zone set without a member is the empty one. -/
theorem ZoneSet.eq_zero_iff (z : ZoneSet) : z = 0#24 ↔ ∀ i, z.mem i = false := by
  refine ⟨fun h i => by simp [h, ZoneSet.mem], fun h => BitVec.eq_of_getLsbD_eq fun i _ => ?_⟩
  rw [BitVec.getLsbD_zero]
  exact h i

/-- Some zone is EMERGENCY exactly where the set of the EMERGENCY zones has a member. -/
theorem State.emergencyZones_eq_zero_iff {s : State} (hn : s.n ≤ 24) : s.emergencyZones = 0#24 ↔ s.anyEmergency = false := by
  rw [ZoneSet.eq_zero_iff, ← Bool.not_eq_true, s.anyEmergency_iff]
  exact ⟨fun h ⟨i, hi⟩ => Bool.false_ne_true ((h i).symm.trans ((State.emergencyZones_mem hn i).2 hi)),
    fun h i => Bool.eq_false_iff.2 fun hi => h ⟨i, (State.emergencyZones_mem hn i).1 hi⟩⟩

/-! ### The engine, the relay and the gates take the set (R49) -/

/-- The state without the allocation records, the bands and the notice marks. -/
def State.besidesModes (s : State) : State :=
  { s with
    pbe := { s.pbe with allocs := [] }
    bands := []
    clp := { s.clp with marks := Marks.clear } }

/-- What a mode change set keeps of the players, the clip store, the slots and the replies. -/
theorem State.kept_of_besidesModes {s t : State} (h : t.besidesModes = s.besidesModes) :
    t.apl = s.apl ∧ t.csc = s.csc ∧ t.zmg = s.zmg ∧ t.clp.slots = s.clp.slots ∧ t.clp.replies = s.clp.replies :=
  ⟨congrArg (·.apl) h, congrArg (·.csc) h, congrArg (·.zmg) h, congrArg (·.clp.slots) h, congrArg (·.clp.replies) h⟩

/-- The zones of a set have changed to a mode with the count and the mark, and the engine and the relay have taken the set. -/
def State.modesTaken (s : State) (zones : ZoneSet) (m : Mode) : State :=
  (((s.setModes zones m).modZmg fun z => { z with changes := wrapInc z.changes }).markIncident).powerAndRelay s zones

theorem State.modesTaken_besides (s : State) (zones : ZoneSet) (m : Mode) :
    (s.modesTaken zones m).besidesModes = ({ s with zmg := s.zmg.changed zones m } : State).besidesModes :=
  ((State.powerAndRelay_grows _ s zones).map (q := State.besidesModes) State.besidesModes fun _ => rfl).same

theorem State.Grows.besidesModes_gates {s t : State} (h : State.Grows State.sansGates s t) : t.besidesModes = s.besidesModes :=
  (h.map (q := State.besidesModes) State.besidesModes fun _ => rfl).same

/-- A mode change set to EMERGENCY changes the zone table, the allocation records, the bands and marks alone before an emergency
begins with it. -/
theorem State.emergencyTaken_besidesModes (s : State) (zones : ZoneSet) :
    (s.emergencyTaken zones).besidesModes = ({ s with zmg := s.zmg.changed zones .emergency } : State).besidesModes :=
  (State.forceGates_grows (s.modesTaken zones .emergency) zones).besidesModes_gates.trans (s.modesTaken_besides zones .emergency)

/-- The zones of a mode change set to NORMAL have changed mode, and the engine, the relay and the gates have taken the set. -/
def State.normalTaken (s : State) (zones : ZoneSet) : State := (s.modesTaken zones .normal).releaseGates zones

theorem State.normalSet_eq (s : State) (zones : ZoneSet) :
    s.normalSet zones =
      if (s.normalTaken zones).anyEmergency then s.normalTaken zones else (s.normalTaken zones).evacuationEnd.lowerLive := rfl

/-- The same for a mode change set to NORMAL. -/
theorem State.normalTaken_besidesModes (s : State) (zones : ZoneSet) :
    (s.normalTaken zones).besidesModes = ({ s with zmg := s.zmg.changed zones .normal } : State).besidesModes := by
  have released : State.Grows State.sansGates (s.modesTaken zones .normal) (s.normalTaken zones) :=
    .each fun v b _ => v.workBand_grows b _
  exact released.besidesModes_gates.trans (s.modesTaken_besides zones .normal)

end Sys2Proof.Machine
end

section
/-! The run of one evacuation player begun or ended (R155, R156): everything but that player's run is kept, and what the takeover
makes of it by the head item of the evacuation plan. -/

namespace Sys2Proof.Machine

/-! ### What a change of one player's run keeps -/

/-- The state without the run of player `p`: its record, its place in the activation list, its mark; and without the winners and the
operation on the flash port. -/
def State.sansRun (s : State) (p : Nat) : State :=
  { s with
    apl := { s.apl with players := s.apl.players.set p Player.initial }
    bim := ⟨s.bim.activation.filter (· != .player p), [], []⟩
    csc := { s.csc with port := none }
    clp := { s.clp with marks := { s.clp.marks with player := s.clp.marks.player &&& ~~~ BitVec.twoPow 4 p } } }

theorem BitVec.or_twoPow_andNot {w : Nat} (b : BitVec w) (p : Nat) :
    (b ||| BitVec.twoPow w p) &&& ~~~ BitVec.twoPow w p = b &&& ~~~ BitVec.twoPow w p := by
  refine BitVec.eq_of_getLsbD_eq fun i _ => ?_
  simp only [BitVec.getLsbD_and, BitVec.getLsbD_or, BitVec.getLsbD_not]
  cases (BitVec.twoPow w p).getLsbD i <;> simp

section
variable (s : State) (p : Nat)

theorem State.markPlayer_sansRun : (s.markPlayer p).sansRun p = s.sansRun p := by
  simp only [State.sansRun, State.markPlayer, State.modMarks, State.modClp, BitVec.or_twoPow_andNot]

theorem State.workPlayer_sansRun (f : Player → Player) : (s.workPlayer p f).sansRun p = s.sansRun p := by
  have written : (s.modApl fun a => { a with players := a.players.set p (f (s.player p)) }).sansRun p = s.sansRun p := by
    simp only [State.sansRun, State.modApl, List.set_set]
  refine Eq.trans ?_ written
  exact State.markIf_frame (State.sansRun · p) (State.markPlayer_sansRun _ p)

theorem State.activate_sansRun : (s.activate (.player p)).sansRun p = s.sansRun p := by
  simp [State.sansRun]

theorem State.deactivate_sansRun : (s.deactivate (.player p)).sansRun p = s.sansRun p := by
  refine (State.markIf_frame (State.sansRun · p) (State.markPlayer_sansRun _ p)).trans ?_
  simp only [State.sansRun, State.modBim, List.filter_filter, Bool.and_self]

theorem State.endPlayer_sansRun (r : PlayEndReason) : (s.endPlayer p r).sansRun p = s.sansRun p :=
  (State.markPlayer_sansRun _ p).trans
    ((State.deactivate_sansRun _ p).trans ((State.workPlayer_sansRun (s.orphanRead p) p _).trans rfl))

theorem State.walkFrom_sansRun (start : Option Nat) (pends : Bool) : (s.walkFrom p start pends).sansRun p = s.sansRun p := by
  have orphaned : (s.orphanRead p).sansRun p = s.sansRun p := rfl
  unfold State.walkFrom
  dsimp only
  split
  · exact (State.workPlayer_sansRun _ p _).trans orphaned
  · exact (State.workPlayer_sansRun _ p _).trans orphaned
  · split
    · exact (State.workPlayer_sansRun _ p _).trans orphaned
    · exact (State.endPlayer_sansRun _ p _).trans ((State.workPlayer_sansRun _ p _).trans orphaned)

theorem State.startPlayer_sansRun (prio : Nat) (b : Binding) (head : Nat) :
    (s.startPlayer p prio b head).sansRun p = s.sansRun p :=
  (State.walkFrom_sansRun _ p _ _).trans ((State.activate_sansRun _ p).trans (s.workPlayer_sansRun p _))

theorem State.evacuate_sansRun : (s.evacuate p).sansRun p = s.sansRun p := by
  unfold State.evacuate
  dsimp only
  split
  · exact (State.markPlayer_sansRun _ p).trans (s.workPlayer_sansRun p _)
  · exact s.startPlayer_sansRun p _ _ _

/-- A player that is ended where it runs. -/
def State.halted (r : PlayEndReason) : State := if (s.player p).running then s.endPlayer p r else s

theorem State.halted_sansRun (r : PlayEndReason) : (s.halted p r).sansRun p = s.sansRun p := by
  unfold State.halted
  split
  · exact s.endPlayer_sansRun p r
  · rfl

theorem State.takeOver_eq : s.takeOver p = (s.halted p .preEmpted).evacuate p := rfl

theorem State.takeOver_sansRun : (s.takeOver p).sansRun p = s.sansRun p := by
  rw [State.takeOver_eq]
  exact (State.evacuate_sansRun _ p).trans (s.halted_sansRun p _)

/-- An evacuation player at rest, as an emergency ends. -/
def State.standDown : State := (s.halted p .stopped).setMissing p false

theorem State.evacuationEnd_eq : s.evacuationEnd = s.each [0, 1] State.standDown := rfl

theorem State.standDown_sansRun : (s.standDown p).sansRun p = s.sansRun p := by
  rw [State.standDown]
  exact (State.workPlayer_sansRun _ p _).trans (s.halted_sansRun p _)

end

section
variable {s t : State} {p q : Nat} (h : t.sansRun p = s.sansRun p)
include h

/-- The run of another player is kept: its record, its place in the activation list and its mark. -/
theorem State.player_of_sansRun (hq : q ≠ p) : t.player q = s.player q := by
  have players : (t.apl.players.set p Player.initial).getD q Player.initial =
      (s.apl.players.set p Player.initial).getD q Player.initial := congrArg (State.player · q) h
  simpa [State.player, List.getElem?_set_ne hq.symm] using players

theorem State.activation_of_sansRun (hq : q ≠ p) : .player q ∈ t.bim.activation ↔ .player q ∈ s.bim.activation := by
  have lists : t.bim.activation.filter (· != .player p) = s.bim.activation.filter (· != .player p) :=
    congrArg (·.bim.activation) h
  have other : (Source.player q != .player p) = true := by simp [hq]
  have kept := congrArg (Source.player q ∈ ·) lists
  simpa only [List.mem_filter, other, and_true, eq_iff_iff] using kept

theorem State.mark_of_sansRun (hq : q ≠ p) : t.clp.marks.player.getLsbD q = s.clp.marks.player.getLsbD q := by
  have bits := congrArg (fun v => v.clp.marks.player.getLsbD q) h
  simp only [State.sansRun, BitVec.getLsbD_and, BitVec.getLsbD_not, BitVec.getLsbD_twoPow] at bits
  by_cases hq4 : q < 4
  · simpa [hq4, hq.symm] using bits
  · simp [BitVec.getLsbD_of_ge _ _ (Nat.not_lt.1 hq4)]

theorem State.players_length_of_sansRun : t.apl.players.length = s.apl.players.length := by
  have lengths := congrArg (·.apl.players.length) h
  simpa [State.sansRun] using lengths

end

/-- The state without the runs of the players: their records, the mixer, the operation on the flash port, the notice marks. -/
def State.besidesRuns (s : State) : State :=
  { s with
    apl := { s.apl with players := s.apl.players.map fun _ => Player.initial }
    bim := ⟨[], [], []⟩
    csc := { s.csc with port := none }
    clp := { s.clp with marks := Marks.clear } }

theorem State.besidesRuns_of_sansRun {s t : State} {p : Nat} (h : t.sansRun p = s.sansRun p) : t.besidesRuns = s.besidesRuns := by
  have masked : ∀ v : State, v.besidesRuns = (v.sansRun p).besidesRuns := fun v => by
    simp [State.besidesRuns, State.sansRun, List.map_const']
  rw [masked t, masked s, h]

/-- The run of player `p`: its record, its place in the activation list, its mark. -/
def State.run (s : State) (p : Nat) : Player × Bool × Bool :=
  (s.player p, s.bim.activation.contains (.player p), s.clp.marks.player.getLsbD p)

theorem State.run_of_sansRun {s t : State} {p q : Nat} (h : t.sansRun p = s.sansRun p) (hq : q ≠ p) : t.run q = s.run q := by
  have listed : t.bim.activation.contains (.player q) = s.bim.activation.contains (.player q) := by
    rw [Bool.eq_iff_iff, List.contains_iff_mem, List.contains_iff_mem]
    exact State.activation_of_sansRun h hq
  rw [State.run, State.run, State.player_of_sansRun h hq, listed, State.mark_of_sansRun h hq]

theorem State.run_eq {s t : State} {p : Nat} (h : t.run p = s.run p) :
    t.player p = s.player p ∧ (.player p ∈ t.bim.activation ↔ .player p ∈ s.bim.activation) ∧
      t.clp.marks.player.getLsbD p = s.clp.marks.player.getLsbD p := by
  simp only [State.run, Prod.mk.injEq] at h
  obtain ⟨player, listed, marked⟩ := h
  refine ⟨player, ?_, marked⟩
  rw [← List.contains_iff_mem, listed, List.contains_iff_mem]

/-! ### A player's record after work on it -/

theorem State.workPlayer_player {s : State} {p : Nat} (hp : p < s.apl.players.length) (f : Player → Player) :
    (s.workPlayer p f).player p = f (s.player p) := by
  have kept : (s.workPlayer p f).apl = { s.apl with players := s.apl.players.set p (f (s.player p)) } :=
    State.markIf_frame State.apl rfl
  rw [State.player, kept]
  simp [hp]

theorem State.deactivate_apl (s : State) (src : Source) : (s.deactivate src).apl = s.apl :=
  State.markIf_frame State.apl (by cases src <;> rfl)

theorem State.endPlayer_player {s : State} {p : Nat} (hp : p < s.apl.players.length) (r : PlayEndReason) :
    (s.endPlayer p r).player p = (s.player p).finish r := by
  have left : ∀ v : State, ((v.deactivate (.player p)).markPlayer p).player p = v.player p := fun v =>
    congrArg (fun a : Apl => a.players.getD p Player.initial) (v.deactivate_apl _)
  rw [State.endPlayer, left]
  exact State.workPlayer_player (s := s.orphanRead p) hp _

/-- A player that is ended where it runs is not running, and its end reason is that of the end. -/
theorem State.halted_player {s : State} {p : Nat} (hp : p < s.apl.players.length) (r : PlayEndReason) :
    ((s.halted p r).player p).running = false ∧
      ((s.halted p r).player p).ended = if (s.player p).running then some r else (s.player p).ended := by
  unfold State.halted
  by_cases runs : (s.player p).running = true
  · rw [if_pos runs, if_pos runs, State.endPlayer_player hp]
    exact ⟨rfl, rfl⟩
  · rw [if_neg runs, if_neg runs]
    exact ⟨Bool.eq_false_iff.2 runs, rfl⟩

theorem State.halted_length (s : State) (p : Nat) (r : PlayEndReason) :
    (s.halted p r).apl.players.length = s.apl.players.length :=
  State.players_length_of_sansRun (s.halted_sansRun p r)

/-- An evacuation player at rest does not run. -/
theorem State.standDown_player {s : State} {p : Nat} (hp : p < s.apl.players.length) :
    ((s.standDown p).player p).running = false := by
  have halted := (State.halted_player hp .stopped).1
  rw [State.standDown, State.setMissing, State.workPlayer_player (by rwa [State.halted_length])]
  exact halted

/-! ### The takeover of one player (R156) -/

/-- Without a head item the player is left at rest with its flag and its mark set. -/
theorem State.takeOver_of_none {s : State} {p : Nat} (hp : p < s.apl.players.length) (h4 : p < 4)
    (head : s.zmg.plan.head p = none) :
    ((s.takeOver p).player p).running = false ∧ ((s.takeOver p).player p).missing = true ∧
      ((s.takeOver p).player p).ended = (if (s.player p).running then some .preEmpted else (s.player p).ended) ∧
      (s.takeOver p).clp.marks.player.getLsbD p = true := by
  obtain ⟨rest, ended⟩ := State.halted_player hp .preEmpted
  have same := s.halted_sansRun p .preEmpted
  have plan : (s.halted p .preEmpted).zmg = s.zmg := congrArg (·.zmg) same
  have length := s.halted_length p .preEmpted
  rw [State.takeOver_eq]
  generalize s.halted p .preEmpted = t at *
  have evacuated : t.evacuate p = (t.setMissing p true).markPlayer p := by
    unfold State.evacuate
    dsimp only
    rw [plan, show (if p = 0 then s.zmg.plan.headA else s.zmg.plan.headB) = none from head]
  have marked : ∀ v : State, (v.markPlayer p).player p = v.player p := fun _ => rfl
  rw [evacuated, marked, State.setMissing, State.workPlayer_player (by rwa [length])]
  refine ⟨rest, rfl, ended, ?_⟩
  simp [State.markPlayer, h4]

/-- The record with which a run starts (R149 step 5). -/
def Player.started (p : Nat) : Player :=
  { Player.initial with
    state := .starting, priority := some 15, binding := some (if p = 0 then .evacuationA else .evacuationB) }

/-- A head item that plays audio is a pause or a clip that is READY (R150), and the record is that of the run that enters it. -/
theorem State.evacuating_cases {s : State} {p i : Nat} {x : Player} (h : s.evacuating p i = some x) :
    (∃ n, (s.item i).kind = .pause n ∧
      x = { Player.started p with state := .playing, item := some i, progress := .pause n }) ∨
    ∃ slot, (s.item i).kind = .clip slot ∧ (s.dirEntry slot).state = .ready ∧
      x = { Player.started p with item := some i, progress := .clip slot (s.dirEntry slot).length 0 0 } := by
  unfold State.evacuating State.progressAt at h
  cases kind : (s.item i).kind <;> simp only [kind] at h
  case pause n => cases h; exact .inl ⟨n, rfl, rfl⟩
  case loop => cases h
  case clip slot =>
    by_cases ready : (s.dirEntry slot).state = .ready
    · rw [if_pos ready] at h
      cases h
      exact .inr ⟨slot, rfl, ready, rfl⟩
    · rw [if_neg ready] at h
      cases h

/-- A walk from an item that plays audio enters it at once (R150). -/
theorem State.walk_of_evacuating {s : State} {p i : Nat} {x : Player} (h : s.evacuating p i = some x) (cs : List LoopCounter)
    (skips : Nat) : walk s.item s.playable 16 (some i) cs skips = ⟨.enters i, cs, skips⟩ := by
  obtain ⟨n, kind, -⟩ | ⟨slot, kind, ready, -⟩ := State.evacuating_cases h
  · simp [walk, kind]
  · simp [walk, kind, State.playable, ready]

/-- The record of a run that has just started and enters the head item (R151, R152). -/
theorem State.entered_started {s : State} {p i : Nat} {x : Player} (h : s.evacuating p i = some x) :
    s.entered (Player.started p) i = x := by
  have target : s.entryTarget (Player.started p).binding 0#24 = 0#24 := by
    unfold Player.started
    by_cases hp : p = 0 <;> simp [hp, State.entryTarget]
  obtain ⟨n, kind, rfl⟩ | ⟨slot, kind, -, rfl⟩ := State.evacuating_cases h <;>
    simp only [State.entered, State.entryProgress, kind, show (Player.started p).target = 0#24 from rfl, target] <;> rfl

theorem State.evacuating_congr {s t : State} (pool : t.apl.pool = s.apl.pool) (dir : t.csc.directory = s.csc.directory) :
    t.evacuating = s.evacuating := by
  have item : t.item = s.item := by unfold State.item; rw [pool]
  have dirEntry : t.dirEntry = s.dirEntry := by unfold State.dirEntry; rw [dir]
  unfold State.evacuating State.progressAt
  rw [item, dirEntry]

theorem State.evacuating_of_sansRun {s t : State} {p : Nat} (h : t.sansRun p = s.sansRun p) : t.evacuating = s.evacuating :=
  State.evacuating_congr (congrArg (·.apl.pool) h) (congrArg (·.csc.directory) h)

/-- The walk of a player that enters its item. -/
theorem State.walkFrom_enters {s : State} {p i : Nat} {pends : Bool} {cs : List LoopCounter} {skips : Nat}
    (h : walk s.item s.playable 16 (some i) (s.player p).counters (s.player p).skips = ⟨.enters i, cs, skips⟩) :
    s.walkFrom p (some i) pends =
      (s.orphanRead p).workPlayer p fun x => { s.entered x i with counters := cs, skips := skips } := by
  have orphaned : walk (s.orphanRead p).item (s.orphanRead p).playable 16 (some i) ((s.orphanRead p).player p).counters
      ((s.orphanRead p).player p).skips = ⟨.enters i, cs, skips⟩ := h
  unfold State.walkFrom
  simp only [orphaned]
  rfl

/-- With a head item that plays audio the player's run begins there, and it joins the activation list. -/
theorem State.takeOver_of_some {s : State} {p i : Nat} {x : Player} (hp : p < s.apl.players.length)
    (head : s.zmg.plan.head p = some i) (h : s.evacuating p i = some x) :
    (s.takeOver p).player p = x ∧ .player p ∈ (s.takeOver p).bim.activation := by
  have same := s.halted_sansRun p .preEmpted
  have plan : (s.halted p .preEmpted).zmg = s.zmg := congrArg (·.zmg) same
  have length := s.halted_length p .preEmpted
  rw [← State.evacuating_of_sansRun same] at h
  rw [State.takeOver_eq]
  generalize s.halted p .preEmpted = t at *
  obtain ⟨v, hv⟩ : ∃ v, v = (t.workPlayer p fun _ => Player.started p).activate (.player p) := ⟨_, rfl⟩
  have evacuated : t.evacuate p = v.walkFrom p (some i) false := by
    unfold State.evacuate
    dsimp only
    rw [plan, show (if p = 0 then s.zmg.plan.headA else s.zmg.plan.headB) = some i from head, hv]
    by_cases h0 : p = 0 <;> simp only [h0, if_true, if_false, Player.started] <;> rfl
  have kept : v.sansRun p = t.sansRun p := by
    rw [hv]
    exact (State.activate_sansRun _ p).trans (t.workPlayer_sansRun p _)
  have record : v.player p = Player.started p := by
    rw [hv]
    exact State.workPlayer_player (s := t) (by rwa [length]) _
  have listed : .player p ∈ v.bim.activation := by
    rw [hv, State.activate_eq]
    exact List.mem_append_right _ List.mem_cons_self
  have vlength : v.apl.players.length = s.apl.players.length := (State.players_length_of_sansRun kept).trans length
  rw [← State.evacuating_of_sansRun kept] at h
  have bim : ∀ f, ((v.orphanRead p).workPlayer p f).bim = v.bim := fun f => State.markIf_frame State.bim rfl
  have entered := State.entered_started h
  rw [← record] at entered
  rw [evacuated, State.walkFrom_enters (State.walk_of_evacuating h _ _), bim,
    State.workPlayer_player (s := v.orphanRead p) (vlength ▸ hp), ← entered]
  exact ⟨rfl, listed⟩

end Sys2Proof.Machine
end

section
/-! An emergency begins or ends at the Announcement Players (R156), and an upload is given up (R169): what each leaves of the
players, of the directory and of the replies that are owed. -/

namespace Sys2Proof.Machine

/-! ### The two evacuation players (R156) -/

theorem State.takeOver_growsRuns (s : State) (p : Nat) : State.Grows State.besidesRuns s (s.takeOver p) :=
  ⟨State.besidesRuns_of_sansRun (s.takeOver_sansRun p), (s.takeOver_grows p).marks⟩

theorem State.evacuationStart_growsRuns (s : State) : State.Grows State.besidesRuns s s.evacuationStart :=
  .each fun v p _ => v.takeOver_growsRuns p

theorem State.halted_grows (s : State) (p : Nat) (r : PlayEndReason) : State.Grows State.sansPlayers s (s.halted p r) := by
  unfold State.halted
  split
  · exact s.endPlayer_grows p r
  · exact .refl s

theorem State.standDown_grows (s : State) (p : Nat) : State.Grows State.sansPlayers s (s.standDown p) := by
  rw [State.standDown, State.setMissing]
  exact (s.halted_grows p _).trans (State.workPlayer_grows _ p _)

theorem State.standDown_growsRuns (s : State) (p : Nat) : State.Grows State.besidesRuns s (s.standDown p) :=
  ⟨State.besidesRuns_of_sansRun (s.standDown_sansRun p), (s.standDown_grows p).marks⟩

theorem State.evacuationEnd_growsRuns (s : State) : State.Grows State.besidesRuns s s.evacuationEnd :=
  .each fun v p _ => v.standDown_growsRuns p

theorem State.players_length_of_besidesRuns {s t : State} (h : t.besidesRuns = s.besidesRuns) :
    t.apl.players.length = s.apl.players.length := by
  have lengths := congrArg (·.apl.players.length) h
  simpa [State.besidesRuns] using lengths

/-- What the runs of the players leave unchanged of the Zone Manager, the clip store and the link. -/
theorem State.kept_of_besidesRuns {s t : State} (h : t.besidesRuns = s.besidesRuns) :
    t.zmg = s.zmg ∧ { t.csc with port := none } = { s.csc with port := none } ∧ t.csc.upload = s.csc.upload ∧
      t.clp.slots = s.clp.slots ∧ t.clp.replies = s.clp.replies :=
  ⟨congrArg (·.zmg) h, congrArg (·.csc) h, congrArg (·.csc.upload) h, congrArg (·.clp.slots) h, congrArg (·.clp.replies) h⟩

theorem State.evacuating_of_besidesRuns {s t : State} (h : t.besidesRuns = s.besidesRuns) : t.evacuating = s.evacuating :=
  State.evacuating_congr (congrArg (·.apl.pool) h) (congrArg (·.csc.directory) h)

/-- The beginning of an emergency, as one evacuation player sees it: its own takeover. -/
theorem State.evacuationStart_at (s : State) {p : Nat} (hp : p ∈ [0, 1]) :
    ∃ v : State, v.besidesRuns = s.besidesRuns ∧ v.player p = s.player p ∧
      s.evacuationStart.run p = (v.takeOver p).run p := by
  obtain ⟨v, grows, run, -, last⟩ := State.each_at (s := s) (State.run · p) (by decide) hp
    (fun v j _ => v.takeOver_growsRuns j) fun v _ j _ hj => State.run_of_sansRun (v.takeOver_sansRun j) hj.symm
  exact ⟨v, grows.same, (State.run_eq run).1, last⟩

/-- An evacuation player without a head item as emergency begins. -/
theorem State.evacuationStart_of_none {s : State} {p : Nat} (hp : p ∈ [0, 1]) (length : s.apl.players.length = 4)
    (head : s.zmg.plan.head p = none) :
    (s.evacuationStart.player p).running = false ∧ (s.evacuationStart.player p).missing = true ∧
      (s.evacuationStart.player p).ended = (if (s.player p).running then some .preEmpted else (s.player p).ended) ∧
      s.evacuationStart.clp.marks.player.getLsbD p = true := by
  obtain ⟨v, besides, player, last⟩ := s.evacuationStart_at hp
  obtain ⟨record, -, mark⟩ := State.run_eq last
  have h4 : p < 4 := by fin_cases hp <;> decide
  have plan : v.zmg = s.zmg := (State.kept_of_besidesRuns besides).1
  rw [record, mark, ← player]
  exact State.takeOver_of_none (by rw [State.players_length_of_besidesRuns besides, length]; exact h4) h4 (by rwa [plan])

/-- An evacuation player whose head item plays audio as emergency begins. -/
theorem State.evacuationStart_of_some {s : State} {p i : Nat} {x : Player} (hp : p ∈ [0, 1])
    (length : s.apl.players.length = 4) (head : s.zmg.plan.head p = some i) (h : s.evacuating p i = some x) :
    s.evacuationStart.player p = x ∧ .player p ∈ s.evacuationStart.bim.activation := by
  obtain ⟨v, besides, -, last⟩ := s.evacuationStart_at hp
  obtain ⟨record, listed, -⟩ := State.run_eq last
  have h4 : p < 4 := by fin_cases hp <;> decide
  have plan : v.zmg = s.zmg := (State.kept_of_besidesRuns besides).1
  rw [record, listed]
  exact State.takeOver_of_some (by rw [State.players_length_of_besidesRuns besides, length]; exact h4) (by rwa [plan])
    (by rwa [State.evacuating_of_besidesRuns besides])

theorem State.not_evacuation_player {p j : Nat} (hp : p ∈ [2, 3]) (hj : j ∈ [0, 1]) : p ≠ j := by
  fin_cases hp <;> fin_cases hj <;> decide

/-- The other players as emergency begins. -/
theorem State.evacuationStart_player_ne (s : State) {p : Nat} (hp : p ∈ [2, 3]) : s.evacuationStart.player p = s.player p :=
  State.each_frame (State.player · p) fun v j hj =>
    State.player_of_sansRun (v.takeOver_sansRun j) (State.not_evacuation_player hp hj)

/-- The evacuation players as emergency ends: neither runs. -/
theorem State.evacuationEnd_player {s : State} {p : Nat} (hp : p ∈ [0, 1]) (length : s.apl.players.length = 4) :
    (s.evacuationEnd.player p).running = false := by
  obtain ⟨v, grows, -, -, last⟩ := State.each_at (s := s) (State.run · p) (by decide) hp
    (fun v j _ => v.standDown_growsRuns j) fun v _ j _ hj => State.run_of_sansRun (v.standDown_sansRun j) hj.symm
  have h4 : p < 4 := by fin_cases hp <;> decide
  rw [State.evacuationEnd_eq, (State.run_eq last).1]
  exact State.standDown_player (by rw [State.players_length_of_besidesRuns grows.same, length]; exact h4)

/-- The other players as emergency ends. -/
theorem State.evacuationEnd_player_ne (s : State) {p : Nat} (hp : p ∈ [2, 3]) : s.evacuationEnd.player p = s.player p :=
  State.each_frame (State.player · p) fun v j hj =>
    State.player_of_sansRun (v.standDown_sansRun j) (State.not_evacuation_player hp hj)

/-! ### A slot that becomes DAMAGED (R154, R169) -/

/-- A player's record after the report that a slot has become DAMAGED: its item has failed, or it is kept. -/
def Player.Told (x y : Player) (slot : Nat) : Prop := y = x ∨ x.clipSlot = some slot ∧ y = { x with failed := true }

theorem Player.Told.of_other {x y : Player} {slot : Nat} (h : x.Told y slot) (other : x.clipSlot ≠ some slot) : y = x :=
  h.elim id fun told => absurd told.1 other

/-- A player whose item has failed runs as before. -/
theorem Player.Told.run {x y : Player} {slot : Nat} (h : x.Told y slot) :
    y.running = x.running ∧ y.missing = x.missing ∧ y.ended = x.ended := by
  obtain rfl | ⟨-, rfl⟩ := h <;> exact ⟨rfl, rfl, rfl⟩

theorem State.reportDamaged_player (s : State) (slot p : Nat) : (s.player p).Told ((s.reportDamaged slot).player p) slot := by
  refine State.each_keeps (P := fun v => (s.player p).Told (v.player p) slot) (fun v j hj told => ?_) (.inl rfl)
  obtain ⟨-, plays⟩ := List.mem_filter.1 hj
  by_cases hjp : p = j
  · subst hjp
    by_cases hp : p < v.apl.players.length
    · rw [State.failItem, State.workPlayer_player hp]
      obtain same | ⟨-, failed⟩ := told
      · rw [same]; exact .inr ⟨by simpa using plays, rfl⟩
      · rw [failed]; exact .inr ⟨by simpa using plays, rfl⟩
    · have stays : (v.failItem p).player p = v.player p := by
        have length := State.players_length_of_sansRun (v.workPlayer_sansRun p fun x => { x with failed := true })
        rw [State.failItem, State.player, State.player, List.getD_eq_default _ _ (by omega), List.getD_eq_default _ _ (by omega)]
      rwa [stays]
  · rwa [State.failItem, State.player_of_sansRun (v.workPlayer_sansRun j _) hjp]

theorem State.workPlayer_csc (s : State) (p : Nat) (f : Player → Player) : (s.workPlayer p f).csc = s.csc :=
  State.markIf_frame State.csc rfl

theorem State.workPlayer_bim (s : State) (p : Nat) (f : Player → Player) : (s.workPlayer p f).bim = s.bim :=
  State.markIf_frame State.bim rfl

theorem State.workPlayer_marked {s : State} {p q : Nat} {f : Player → Player} (h : s.clp.marks.player.getLsbD p = true) :
    (s.workPlayer q f).clp.marks.player.getLsbD p = true := by
  rw [State.workPlayer_eq]
  dsimp only
  split
  · rw [BitVec.getLsbD_or, h, Bool.true_or]
  · exact h

theorem State.reportDamaged_marked {s : State} {slot p : Nat} (h : s.clp.marks.player.getLsbD p = true) :
    (s.reportDamaged slot).clp.marks.player.getLsbD p = true :=
  State.each_keeps (P := fun v => v.clp.marks.player.getLsbD p = true) (fun _ _ _ marked => State.workPlayer_marked marked) h

/-- What a slot that becomes DAMAGED leaves unchanged as far as the players are concerned, and its directory. -/
theorem State.damaged_cases (s : State) (slot : Nat) :
    ((s.dirEntry slot).state = .damaged ∧ s.damaged slot = s) ∨
      ∃ v : State, v.apl = s.apl ∧ v.bim = s.bim ∧ v.clp.marks.player = s.clp.marks.player ∧ slot < s.csc.directory.length ∧
        v.csc.directory = s.csc.directory.set slot { s.dirEntry slot with state := .damaged, verified := false } ∧
        s.damaged slot = v.reportDamaged slot := by
  unfold State.damaged
  by_cases damaged : (s.dirEntry slot).state = .damaged
  · exact .inl ⟨damaged, if_pos damaged⟩
  · have listed : slot < s.csc.directory.length := by
      by_contra out
      exact damaged (by rw [State.dirEntry, List.getD_eq_default _ _ (Nat.not_lt.1 out)]; rfl)
    have told : ((s.dirEntry slot).state != .damaged && SlotState.damaged == .damaged) = true := by simp [damaged]
    rw [if_neg damaged, State.damage, State.setDir]
    dsimp only
    rw [if_pos told]
    refine .inr ⟨_, ?_, ?_, ?_, listed, ?_, rfl⟩
    · exact State.markIf_frame State.apl rfl
    · exact State.markIf_frame State.bim rfl
    · exact State.markIf_frame (·.clp.marks.player) rfl
    · exact State.markIf_frame (·.csc.directory) rfl

/-- The players, the mixer, the players' marks and the entry of a slot that is given up. -/
theorem State.damaged_eq (s : State) (slot : Nat) :
    (∀ p, (s.player p).Told ((s.damaged slot).player p) slot) ∧ (s.damaged slot).bim = s.bim ∧
      (∀ p, s.clp.marks.player.getLsbD p = true → (s.damaged slot).clp.marks.player.getLsbD p = true) ∧
      ((s.damaged slot).dirEntry slot).state = .damaged := by
  obtain ⟨damaged, same⟩ | ⟨v, apl, bim, marks, listed, directory, same⟩ := s.damaged_cases slot
  · rw [same]
    exact ⟨fun _ => .inl rfl, rfl, fun _ h => h, damaged⟩
  · have player : ∀ p, v.player p = s.player p := fun p => by rw [State.player, State.player, apl]
    have csc : (v.reportDamaged slot).csc = v.csc := State.each_frame State.csc fun w j _ => State.workPlayer_csc w j _
    rw [same]
    refine ⟨fun p => player p ▸ v.reportDamaged_player slot p, ?_, fun p h => State.reportDamaged_marked (by rwa [marks]), ?_⟩
    · exact (State.each_frame State.bim fun w j _ => State.workPlayer_bim w j _).trans bim
    · rw [State.dirEntry, csc, directory]
      simp [listed]

/-! ### The replies that are owed (R169, R177) -/

/-- Other requests that wait are found as before once one has been answered. -/
theorem Clp.answer_find {c : Clp} {t t' : Octet} (ht : t' ≠ t) (st : Status) (fields : List Octet) :
    (c.answer t st fields).slots.find? (Slot.waits t') = c.slots.find? (Slot.waits t') := by
  unfold Clp.answer
  split
  · rfl
  · have stays : ∀ y : Slot, Slot.waits t' (if y.waits t then { y with phase := .queued } else y) = Slot.waits t' y := fun y => by
      by_cases waits : y.waits t = true
      · have tag : y.tag = t := by
          simp only [Slot.waits, Bool.and_eq_true, beq_iff_eq] at waits
          exact waits.1
        rw [if_pos waits]
        simp [Slot.waits, tag, beq_eq_false_iff_ne.2 ht.symm]
      · rw [if_neg waits]
    dsimp only
    rw [List.find?_map]
    rw [show Slot.waits t' ∘ (fun y : Slot => if y.waits t then { y with phase := .queued } else y) = Slot.waits t' from
      funext stays]
    cases found : c.slots.find? (Slot.waits t') with
    | none => rfl
    | some y =>
      have waits' := List.find?_some found
      have free : y.waits t = false := by
        simp only [Slot.waits, Bool.and_eq_true, beq_iff_eq] at waits'
        simp [Slot.waits, waits'.1, ht]
      simp [free]

/-- The replies of requests answered one after another are those of the port that the first of them finds. -/
theorem Clp.statusReplies_congr {c c' : Clp} {l : List Octet} {st : Status}
    (h : ∀ t ∈ l, c'.slots.find? (Slot.waits t) = c.slots.find? (Slot.waits t)) :
    c'.statusReplies (l.map (·, st)) = c.statusReplies (l.map (·, st)) := by
  rw [Clp.statusReplies, Clp.statusReplies, List.filterMap_map, List.filterMap_map]
  refine List.filterMap_congr fun t ht => ?_
  dsimp only [Function.comp]
  rw [h t ht]

theorem Clp.answer_replies (c : Clp) (t : Octet) (st : Status) :
    (c.answer t st []).replies = c.replies ++ c.statusReplies [(t, st)] := by
  have body : replyBody st [] = [st.code] := by cases st <;> rfl
  cases found : c.slots.find? (Slot.waits t) with
  | none => simp only [Clp.answer_of_not_waiting st [] found, Clp.statusReplies, List.filterMap_cons, found, Option.map_none,
      List.filterMap_nil, List.append_nil]
  | some x => simp only [Clp.answer_of_waiting st [] found, Clp.statusReplies, List.filterMap_cons, found, Option.map_some,
      List.filterMap_nil, body]

/-- The replies of a list of requests with different tags, answered one after another with one status. -/
theorem State.answerAll_replies (st : Status) {l : List Octet} (nodup : l.Nodup) (s : State) :
    (l.foldl (fun v t => v.answer t st []) s).clp.replies = s.clp.replies ++ s.clp.statusReplies (l.map (·, st)) := by
  induction l generalizing s with
  | nil => simp [Clp.statusReplies]
  | cons t l ih =>
    obtain ⟨first, rest⟩ := List.nodup_cons.1 nodup
    have one : (s.answer t st []).clp.replies = s.clp.replies ++ s.clp.statusReplies [(t, st)] := s.clp.answer_replies t st
    have others : (s.answer t st []).clp.statusReplies (l.map (·, st)) = s.clp.statusReplies (l.map (·, st)) :=
      Clp.statusReplies_congr fun t' ht' => Clp.answer_find (ne_of_mem_of_not_mem ht' first) st []
    rw [List.foldl_cons, ih rest, one, others, List.append_assoc, Clp.statusReplies, Clp.statusReplies, ← List.filterMap_append]
    rfl

/-! ### An upload that is given up (R169) -/

/-- The requests that an upload owes replies to are answered in the order of log entry 62. -/
theorem State.abortUpload_eq {s : State} {u : Upload} (h : s.csc.upload = some u) :
    s.abortUpload = (u.owes.foldl (fun v t => v.answer t .aborted []) (s.damaged u.slot)).endUpload := by
  have optional : ∀ (v : State) (t : Option Octet),
      v.answerOpt t .aborted [] = t.toList.foldl (fun v t => v.answer t .aborted []) v := fun v t => by cases t <;> rfl
  rw [State.abortUpload_of_some h, Upload.owes, List.foldl_append, List.foldl_append, List.foldl_map, optional, optional]
  rfl

/-- What the replies and the end of the upload leave unchanged, giving it up leaves as its slot that is DAMAGED left it. -/
theorem State.abortUpload_frame {α : Type} (p : State → α) {s : State} {u : Upload} (h : s.csc.upload = some u)
    (answered : ∀ v t, p (State.answer v t .aborted []) = p v) (ended : ∀ v, p (State.endUpload v) = p v) :
    p s.abortUpload = p (s.damaged u.slot) := by
  rw [State.abortUpload_eq h, ended]
  exact foldl_frame p _ _ answered

/-- What an upload that is given up leaves of the players, the mixer, the players' marks and the directory. -/
theorem State.abortUpload_players {s : State} {u : Upload} (h : s.csc.upload = some u) :
    (∀ p, (s.player p).Told (s.abortUpload.player p) u.slot) ∧ s.abortUpload.bim = s.bim ∧
      (∀ p, s.clp.marks.player.getLsbD p = true → s.abortUpload.clp.marks.player.getLsbD p = true) ∧
      (s.abortUpload.dirEntry u.slot).state = .damaged := by
  obtain ⟨told, bim, marked, damaged⟩ := s.damaged_eq u.slot
  have kept := State.abortUpload_frame (fun v => (v.apl, v.bim, v.clp.marks.player, v.csc.directory)) h
    (fun v t => by rw [State.answer_eq]) fun v => rfl
  simp only [Prod.mk.injEq] at kept
  obtain ⟨apl, bim', marks, directory⟩ := kept
  simp only [State.player, State.dirEntry, apl, bim', marks, directory]
  exact ⟨told, bim, marked, damaged⟩

/-- What giving up an upload, where there is one, keeps of a player whose current clip slot is not the upload's, and of every
player. -/
theorem State.abortUpload_keeps (s : State) (p : Nat) :
    ((∀ u ∈ s.csc.upload, (s.player p).clipSlot ≠ some u.slot) → s.abortUpload.player p = s.player p) ∧
      (s.abortUpload.player p).running = (s.player p).running ∧ (s.abortUpload.player p).missing = (s.player p).missing ∧
      (s.abortUpload.player p).ended = (s.player p).ended ∧ s.abortUpload.bim = s.bim ∧
      (s.clp.marks.player.getLsbD p = true → s.abortUpload.clp.marks.player.getLsbD p = true) := by
  cases h : s.csc.upload with
  | none =>
    rw [State.abortUpload_of_none h]
    exact ⟨fun _ => rfl, rfl, rfl, rfl, rfl, id⟩
  | some u =>
    obtain ⟨told, bim, marked, -⟩ := State.abortUpload_players h
    obtain ⟨running, missing, ended⟩ := (told p).run
    exact ⟨fun other => (told p).of_other (other u rfl), running, missing, ended, bim, marked p⟩

/-- The replies that an upload that is given up sends: each that it owes, ABORTED. -/
theorem State.abortUpload_replies {s : State} {u : Upload} (h : s.csc.upload = some u) (nodup : u.owes.Nodup) :
    s.abortUpload.clp.replies = s.clp.replies ++ s.clp.statusReplies (u.owes.map (·, .aborted)) := by
  have clp : (s.damaged u.slot).clp.replies = s.clp.replies ∧ (s.damaged u.slot).clp.slots = s.clp.slots := by
    have kept := ((s.damaged_grows u.slot).map (q := fun v => (v.clp.replies, v.clp.slots)) (fun v => (v.clp.replies, v.clp.slots))
      fun _ => rfl).same
    exact Prod.mk.injEq .. ▸ kept
  obtain ⟨replies, slots⟩ := clp
  have ended : ∀ v : State, v.endUpload.clp.replies = v.clp.replies := fun _ => rfl
  rw [State.abortUpload_eq h, ended, State.answerAll_replies _ nodup, replies]
  exact congrArg _ (Clp.statusReplies_congr fun t _ => by rw [slots])

end Sys2Proof.Machine
end

section
/-! The EMERGENCY set derived afresh over the whole loop (R46 to R48), and what an emergency that begins with it does to the
players, the upload and the link (R156, R169). -/

namespace Sys2Proof.Machine

/-! ### The EMERGENCY set (R46) -/

/-- The zones that the incident state puts in EMERGENCY. -/
def State.declares (s : State) (i : Nat) : Bool :=
  emergencyTable s.n s.zmg.plan.spread s.zmg.incident (s.zmg.whole || (s.zmg.latch && s.clp.part == .running)) i

theorem emergencyTable_lt {n spread : Nat} {z : ZoneSet} {e : Bool} {i : Nat} (h : emergencyTable n spread z e i = true) :
    i < n := by
  simp only [emergencyTable, Bool.and_eq_true, decide_eq_true_eq] at h
  exact h.1

/-- More declared positions put no fewer zones in EMERGENCY. -/
theorem emergencyTable_mono {n spread : Nat} {z z' : ZoneSet} {e e' : Bool} (hz : ∀ k, z.mem k = true → z'.mem k = true)
    (he : e = true → e' = true) {i : Nat} (h : emergencyTable n spread z e i = true) : emergencyTable n spread z' e' i = true := by
  simp only [emergencyTable, Bool.and_eq_true, Bool.or_eq_true, List.any_eq_true, decide_eq_true_eq] at h ⊢
  obtain ⟨lt, everywhere | ⟨k, hk, ⟨declared, below⟩, above⟩⟩ := h
  · exact ⟨lt, .inl (he everywhere)⟩
  · exact ⟨lt, .inr ⟨k, hk, ⟨hz k declared, below⟩, above⟩⟩

theorem State.derived_mem {s : State} (hn : s.n ≤ 24) (i : Nat) : s.derivedEmergency.mem i = s.declares i := by
  unfold State.derivedEmergency State.declares emergencyTable
  by_cases everywhere : (s.zmg.whole || (s.zmg.latch && s.clp.part == .running)) = true
  · rw [if_pos everywhere, everywhere, State.allZones, ZoneSet.below_mem _ _ _ hn, Bool.true_or]
  · rw [if_neg everywhere, Bool.eq_false_iff.2 everywhere, ZoneSet.below_mem _ _ _ hn, Bool.false_or, State.nearIncident,
      State.members, List.any_filter]
    simp only [Bool.and_assoc]

theorem State.joined_mem_iff {s : State} (hn : s.n ≤ 24) (i : Nat) :
    s.joined.mem i = true ↔ s.declares i = true ∧ s.modeOf i ≠ .emergency := by
  rw [State.joined, ZoneSet.mem, BitVec.getLsbD_and, BitVec.getLsbD_not, Bool.and_eq_true, Bool.and_eq_true, Bool.not_eq_true',
    ← ZoneSet.mem, ← ZoneSet.mem, State.derived_mem hn, ← Bool.not_eq_true, State.emergencyZones_mem hn, decide_eq_true_eq]
  refine and_congr_right fun declared => ?_
  have lt : i < s.n := emergencyTable_lt declared
  constructor
  · exact fun ⟨_, other⟩ mode => other ⟨lt, mode⟩
  · exact fun mode => ⟨by omega, fun ⟨_, same⟩ => mode same⟩

/-! ### The EMERGENCY set derived afresh (R47, R48) -/

theorem State.applyEmergency_of_none {s : State} (h : s.joined = 0#24) : s.applyEmergency = s := if_pos h

theorem State.applyEmergency_of_during {s : State} (h : s.joined ≠ 0#24) (emergency : s.anyEmergency = true) :
    s.applyEmergency = s.emergencyTaken s.joined := by
  rw [show s.applyEmergency = s.emergencySet s.joined from if_neg h, State.emergencySet_eq, if_pos emergency]

theorem State.applyEmergency_of_begins {s : State} (h : s.joined ≠ 0#24) (calm : s.anyEmergency = false) :
    s.applyEmergency = (s.emergencyTaken s.joined).evacuationStart.abortUpload := by
  rw [show s.applyEmergency = s.emergencySet s.joined from if_neg h, State.emergencySet_eq, calm, if_neg (by simp)]

theorem State.Grows.zmg_upload {s t : State} (h : State.Grows State.sansUpload s t) : t.zmg = s.zmg :=
  (h.map (q := State.zmg) State.zmg fun _ => rfl).same

/-- The Zone Manager's record after the EMERGENCY set has been derived. -/
theorem State.applyEmergency_zmg (s : State) : s.applyEmergency.zmg = s.zmg.joining s.joined := by
  by_cases none : s.joined = 0#24
  · rw [State.applyEmergency_of_none none, none, Zmg.joining_none]
  · have taken : (s.emergencyTaken s.joined).zmg = s.zmg.joining s.joined := by
      rw [Zmg.joining, if_neg none]
      obtain ⟨-, -, zmg, -⟩ := State.kept_of_besidesModes (s.emergencyTaken_besidesModes s.joined)
      exact zmg
    cases emergency : s.anyEmergency with
    | true => rw [State.applyEmergency_of_during none emergency, taken]
    | false =>
      rw [State.applyEmergency_of_begins none emergency, ← taken]
      exact ((State.evacuationStart_grows _).upload.trans (State.abortUpload_grows _)).zmg_upload

theorem State.applyEmergency_n (s : State) : s.applyEmergency.n = s.n := by
  rw [State.n, State.n, s.applyEmergency_grows.lpc_alarm]

section
variable {s : State} (length : s.zmg.zones.length = s.n) (hn : s.n ≤ 24)
include length

theorem State.applyEmergency_modeOf {i : Nat} (hi : i < s.n) :
    s.applyEmergency.modeOf i = if s.joined.mem i then .emergency else s.modeOf i :=
  State.modeOf_changed (by rw [s.applyEmergency_zmg]; rfl) (length ▸ hi)

include hn

/-- Where the zones in EMERGENCY are among those that the incident state puts there, they are those once the set is derived. -/
theorem State.applyEmergency_modes (law : ∀ i < s.n, s.modeOf i = .emergency → s.declares i = true) {i : Nat} (hi : i < s.n) :
    s.applyEmergency.modeOf i = .emergency ↔ s.declares i = true := by
  rw [State.applyEmergency_modeOf length hi]
  by_cases joins : s.joined.mem i = true
  · simp [if_pos joins, ((State.joined_mem_iff hn i).1 joins).1]
  · rw [if_neg joins]
    rw [State.joined_mem_iff hn] at joins
    exact ⟨law i hi, fun declared => by_contra fun mode => joins ⟨declared, mode⟩⟩

/-- A zone joins the EMERGENCY set exactly where the set of the EMERGENCY zones changes. -/
theorem State.joined_eq_zero_iff : s.joined = 0#24 ↔ s.emergencyZones = s.applyEmergency.emergencyZones := by
  refine ⟨fun none => by rw [State.applyEmergency_of_none none], fun same => ?_⟩
  rw [ZoneSet.eq_zero_iff]
  intro i
  by_contra joins
  rw [Bool.not_eq_false] at joins
  obtain ⟨declared, other⟩ := (State.joined_mem_iff hn i).1 joins
  have lt : i < s.n := emergencyTable_lt declared
  have mode : s.applyEmergency.modeOf i = .emergency := by rw [State.applyEmergency_modeOf length lt, if_pos joins]
  have member := (State.emergencyZones_mem (s := s.applyEmergency) (by rwa [s.applyEmergency_n]) i).2
    ⟨by rwa [s.applyEmergency_n], mode⟩
  rw [← same, State.emergencyZones_mem hn] at member
  exact other member.2

/-- An emergency has begun exactly where a zone has joined the EMERGENCY set outside one. -/
theorem State.applyEmergency_calm (calm : s.anyEmergency = false) :
    s.applyEmergency.anyEmergency = false ↔ s.joined = 0#24 := by
  have zones := (State.emergencyZones_eq_zero_iff hn).2 calm
  rw [State.joined_eq_zero_iff length hn, zones,
    ← State.emergencyZones_eq_zero_iff (s := s.applyEmergency) (by rwa [s.applyEmergency_n])]
  exact eq_comm

/-- The Zone Manager's record once the set is derived: the zone table, and the count where the EMERGENCY zones change. -/
theorem State.applyEmergency_record :
    s.applyEmergency.zmg =
      { s.zmg with
        zones := s.applyEmergency.zmg.zones
        changes := if s.emergencyZones = s.applyEmergency.emergencyZones then s.zmg.changes
          else (s.zmg.changes + 1) % 65536 } := by
  rw [if_congr (State.joined_eq_zero_iff length hn).symm rfl rfl, State.applyEmergency_zmg]
  rfl

end

/-! ### What the derived set leaves of the players, the clip store and the link (R156, R169) -/

/-- Where no emergency begins, the players, the clip store, the slots and the replies are kept. -/
theorem State.applyEmergency_quiet {s : State} (h : s.joined = 0#24 ∨ s.anyEmergency = true) :
    s.applyEmergency.apl = s.apl ∧ s.applyEmergency.csc = s.csc ∧ s.applyEmergency.clp.slots = s.clp.slots ∧
      s.applyEmergency.clp.replies = s.clp.replies := by
  by_cases none : s.joined = 0#24
  · rw [State.applyEmergency_of_none none]
    exact ⟨rfl, rfl, rfl, rfl⟩
  · obtain ⟨apl, csc, -, slots, replies⟩ := State.kept_of_besidesModes (s.emergencyTaken_besidesModes s.joined)
    rw [State.applyEmergency_of_during none (h.resolve_left none)]
    exact ⟨apl, csc, slots, replies⟩

section
variable {s : State} (joins : s.joined ≠ 0#24) (calm : s.anyEmergency = false)
include joins calm

/-- An emergency that begins: the takeover of the players and the end of an upload, from a state that agrees with the one before in
everything that they read. -/
theorem State.applyEmergency_begins :
    ∃ t : State, s.applyEmergency = t.evacuationStart.abortUpload ∧ t.apl = s.apl ∧ t.csc = s.csc ∧ t.zmg.plan = s.zmg.plan ∧
      t.clp.slots = s.clp.slots ∧ t.clp.replies = s.clp.replies := by
  obtain ⟨apl, csc, zmg, slots, replies⟩ := State.kept_of_besidesModes (s.emergencyTaken_besidesModes s.joined)
  exact ⟨_, State.applyEmergency_of_begins joins calm, apl, csc, by rw [zmg]; rfl, slots, replies⟩

/-- With no upload to give up, the clip store but for its port, the slots and the replies are kept. -/
theorem State.applyEmergency_of_no_upload (free : s.csc.upload = none) :
    { s.applyEmergency.csc with port := none } = { s.csc with port := none } ∧
      s.applyEmergency.clp.slots = s.clp.slots ∧ s.applyEmergency.clp.replies = s.clp.replies := by
  obtain ⟨t, begins, -, csc, -, slots, replies⟩ := State.applyEmergency_begins joins calm
  obtain ⟨-, store, upload, slots', replies'⟩ := State.kept_of_besidesRuns t.evacuationStart_growsRuns.same
  rw [begins, State.abortUpload_of_none (by rw [upload, csc, free]), ← slots, ← replies, ← csc]
  exact ⟨store, slots', replies'⟩

/-- An upload is given up: its slot is DAMAGED and each reply that it owes is ABORTED. -/
theorem State.applyEmergency_of_upload {up : Upload} (h : s.csc.upload = some up) (nodup : up.owes.Nodup) :
    s.applyEmergency.csc.upload = none ∧ (s.applyEmergency.dirEntry up.slot).state = .damaged ∧
      s.applyEmergency.clp.replies = s.clp.replies ++ s.clp.statusReplies (up.owes.map (·, .aborted)) := by
  obtain ⟨t, begins, -, csc, -, slots, replies⟩ := State.applyEmergency_begins joins calm
  obtain ⟨-, -, upload, slots', replies'⟩ := State.kept_of_besidesRuns t.evacuationStart_growsRuns.same
  have up' : t.evacuationStart.csc.upload = some up := by rw [upload, csc, h]
  obtain ⟨-, -, -, damaged⟩ := State.abortUpload_players up'
  rw [begins, State.abortUpload_replies up' nodup, replies', replies]
  exact ⟨State.abortUpload_upload _, damaged, congrArg _ (Clp.statusReplies_congr fun x _ => by rw [slots', slots])⟩

/-- The players as an emergency begins, before an upload is given up: a player that is not told of the upload's slot is as the
takeover leaves it. -/
theorem State.applyEmergency_told (p : Nat) :
    ∃ t : State, t.apl = s.apl ∧ t.csc = s.csc ∧ t.zmg.plan = s.zmg.plan ∧
      ((∀ u ∈ s.csc.upload, (t.evacuationStart.player p).clipSlot ≠ some u.slot) →
        s.applyEmergency.player p = t.evacuationStart.player p) ∧
      (s.applyEmergency.player p).running = (t.evacuationStart.player p).running ∧
      (s.applyEmergency.player p).missing = (t.evacuationStart.player p).missing ∧
      (s.applyEmergency.player p).ended = (t.evacuationStart.player p).ended ∧
      s.applyEmergency.bim = t.evacuationStart.bim ∧
      (t.evacuationStart.clp.marks.player.getLsbD p = true → s.applyEmergency.clp.marks.player.getLsbD p = true) := by
  obtain ⟨t, begins, apl, csc, plan, -⟩ := State.applyEmergency_begins joins calm
  obtain ⟨-, -, upload, -⟩ := State.kept_of_besidesRuns t.evacuationStart_growsRuns.same
  have keeps := t.evacuationStart.abortUpload_keeps p
  rw [upload, csc, ← begins] at keeps
  exact ⟨t, apl, csc, plan, keeps⟩

/-- Players 2 and 3 are left alone, unless they play the slot of an upload that is given up. -/
theorem State.applyEmergency_player_ne {p : Nat} (hp : p ∈ [2, 3])
    (other : ∀ u ∈ s.csc.upload, (s.player p).clipSlot ≠ some u.slot) : s.applyEmergency.player p = s.player p := by
  obtain ⟨t, apl, -, -, told, -⟩ := State.applyEmergency_told joins calm p
  have same : t.evacuationStart.player p = s.player p := by
    rw [t.evacuationStart_player_ne hp, State.player, State.player, apl]
  rw [told (by rwa [same]), same]

section
variable {p : Nat} (hp : p ∈ [0, 1]) (length : s.apl.players.length = 4)
include hp length

/-- An evacuation player without a head item is left at rest, its flag and mark set. -/
theorem State.applyEmergency_of_no_head (head : s.zmg.plan.head p = none) :
    (s.applyEmergency.player p).running = false ∧ (s.applyEmergency.player p).missing = true ∧
      s.applyEmergency.clp.marks.player.getLsbD p = true ∧
      (s.applyEmergency.player p).ended = if (s.player p).running then some .preEmpted else (s.player p).ended := by
  obtain ⟨t, apl, -, plan, -, running, missing, ended, -, marked⟩ := State.applyEmergency_told joins calm p
  obtain ⟨rest, flag, reason, mark⟩ := State.evacuationStart_of_none (s := t) hp (by rw [apl, length]) (by rw [plan, head])
  have player : t.player p = s.player p := by rw [State.player, State.player, apl]
  rw [running, missing, ended, ← player]
  exact ⟨rest, flag, marked mark, reason⟩

/-- An evacuation player whose head item plays audio runs it. -/
theorem State.applyEmergency_of_head {i : Nat} {x : Player} (head : s.zmg.plan.head p = some i) (h : s.evacuating p i = some x)
    (other : ∀ u ∈ s.csc.upload, x.clipSlot ≠ some u.slot) :
    s.applyEmergency.player p = x ∧ .player p ∈ s.applyEmergency.bim.activation := by
  obtain ⟨t, apl, csc, plan, told, -, -, -, bim, -⟩ := State.applyEmergency_told joins calm p
  obtain ⟨record, listed⟩ := State.evacuationStart_of_some (s := t) (x := x) hp (by rw [apl, length]) (by rw [plan, head])
    (by rw [State.evacuating_congr (congrArg Apl.pool apl) (congrArg Csc.directory csc), h])
  rw [told (by rwa [record]), bim]
  exact ⟨record, listed⟩

end

end

/-- Outside an emergency that begins, or without an upload to give up, the clip store but for its port, the slots and the replies
are kept. -/
theorem State.applyEmergency_store {s : State} (length : s.zmg.zones.length = s.n) (hn : s.n ≤ 24)
    (h : s.csc.upload = none ∨ s.anyEmergency = true ∨ s.applyEmergency.anyEmergency = false) :
    { s.applyEmergency.csc with port := none } = { s.csc with port := none } ∧
      s.applyEmergency.clp.slots = s.clp.slots ∧ s.applyEmergency.clp.replies = s.clp.replies := by
  by_cases quiet : s.joined = 0#24 ∨ s.anyEmergency = true
  · obtain ⟨-, csc, slots, replies⟩ := State.applyEmergency_quiet quiet
    rw [csc]
    exact ⟨rfl, slots, replies⟩
  · rw [not_or, Bool.not_eq_true] at quiet
    obtain ⟨joins, calm⟩ := quiet
    rw [State.applyEmergency_calm length hn calm, calm] at h
    exact State.applyEmergency_of_no_upload joins calm (by simpa [joins] using h)

/-- Where no emergency begins the players are kept. -/
theorem State.applyEmergency_apl {s : State} (length : s.zmg.zones.length = s.n) (hn : s.n ≤ 24)
    (h : s.anyEmergency = true ∨ s.applyEmergency.anyEmergency = false) : s.applyEmergency.apl = s.apl := by
  refine (State.applyEmergency_quiet ?_).1
  cases calm : s.anyEmergency with
  | true => exact .inr rfl
  | false => exact .inl ((State.applyEmergency_calm length hn calm).1 (h.resolve_left (by simp [calm])))

/-- The slots of the requests while an emergency begins: the request that has begun it waits in the youngest, and where the slots
are kept so are the others. -/
theorem State.applyEmergency_slots {s : State} {kind tag : Octet} {l : List Slot}
    (slots : s.clp.slots = l ++ [⟨kind, tag, .waiting⟩]) (free : ∀ x ∈ l, x.tag ≠ tag) (owes : ∀ u ∈ s.csc.upload, tag ∉ u.owes) :
    ∃ l', s.applyEmergency.clp.slots = l' ++ [⟨kind, tag, .waiting⟩] ∧ (∀ x ∈ l', x.tag ≠ tag) ∧
      (s.applyEmergency.clp.slots = s.clp.slots → l' = l) := by
  have waits : s.waitsLast kind tag := ⟨l, slots, free⟩
  suffices after : s.applyEmergency.waitsLast kind tag by
    obtain ⟨l', slots', free'⟩ := after
    refine ⟨l', slots', free', fun same => ?_⟩
    rw [slots', slots] at same
    exact List.append_cancel_right same
  by_cases quiet : s.joined = 0#24 ∨ s.anyEmergency = true
  · exact State.waitsLast_of_slots waits (State.applyEmergency_quiet quiet).2.2.1
  · rw [not_or, Bool.not_eq_true] at quiet
    obtain ⟨t, begins, -, csc, -, same, -⟩ := State.applyEmergency_begins quiet.1 quiet.2
    obtain ⟨-, -, upload, slots', -⟩ := State.kept_of_besidesRuns t.evacuationStart_growsRuns.same
    rw [begins]
    exact State.waitsLast_abortUpload (State.waitsLast_of_slots waits (slots'.trans same)) (by rwa [upload, csc])

/-- What the derived set leaves unchanged of the loop, the session, the flash, the outputs and the link. -/
theorem State.applyEmergency_besides (s : State) :
    s.applyEmergency.lpc = s.lpc ∧ s.applyEmergency.sau = s.sau ∧ s.applyEmergency.lvq = s.lvq ∧
      s.applyEmergency.flash = s.flash ∧ s.applyEmergency.out = s.out ∧
      s.applyEmergency.clp = { s.clp with
        marks := s.applyEmergency.clp.marks, slots := s.applyEmergency.clp.slots, replies := s.applyEmergency.clp.replies } := by
  have kept := s.applyEmergency_grows.same
  refine ⟨congrArg (·.lpc) kept, congrArg (·.sau) kept, congrArg (·.lvq) kept, congrArg (·.flash) kept, congrArg (·.out) kept, ?_⟩
  exact congrArg (fun v : State => { v.clp with
    marks := s.applyEmergency.clp.marks, slots := s.applyEmergency.clp.slots, replies := s.applyEmergency.clp.replies }) kept

end Sys2Proof.Machine
end

section
/-! DECLARE_INCIDENT (R47): the request by its checks, the declaration, and the EMERGENCY set derived from it. -/

namespace Sys2Proof.Machine

/-! ### The request (R47) -/

/-- The incident set and the WHOLE marker grown, with the mark where they change. -/
def State.declared (s : State) (zones : ZoneSet) (whole : Bool) : State :=
  let t := s.modZmg fun z => { z with incident := z.incident ||| zones, whole := z.whole || whole }
  t.markIf (t.zmg.incident != s.zmg.incident || t.zmg.whole != s.zmg.whole) State.markIncident

/-- A declaration changes the incident set, the WHOLE marker and marks alone. -/
theorem State.declared_eq (s : State) (zones : ZoneSet) (whole : Bool) :
    ∃ marks, s.declared zones whole =
      { s with
        zmg := { s.zmg with incident := s.zmg.incident ||| zones, whole := s.zmg.whole || whole }
        clp := { s.clp with marks := marks } } := by
  unfold State.declared
  dsimp only
  generalize (_ || _ : Bool) = b
  cases b <;> exact ⟨_, rfl⟩

theorem handleDeclare_of_invalid {s : State} {tag : Octet} {body : List Octet}
    (h : u8 body 3 > 1 ∨ (u8 body 3 = 0 ∧ zonesAt body 0 = 0#24)) : handleDeclare tag body s = s.answer tag .invalid [] := by
  unfold handleDeclare
  exact if_pos h

theorem handleDeclare_of_valid {s : State} {tag : Octet} {body : List Octet}
    (h : u8 body 3 = 1 ∨ (u8 body 3 = 0 ∧ zonesAt body 0 ≠ 0#24)) :
    handleDeclare tag body s =
      (s.declared (zonesAt body 0) (u8 body 3 == 1)).applyEmergency.answer tag .ok
        (eZones (s.declared (zonesAt body 0) (u8 body 3 == 1)).applyEmergency.emergencyZones ++
          e16 (s.declared (zonesAt body 0) (u8 body 3 == 1)).applyEmergency.zmg.changes) := by
  unfold handleDeclare
  refine if_neg ?_
  rintro (many | ⟨zero, empty⟩)
  · omega
  · obtain one | ⟨-, some⟩ := h
    · omega
    · exact some empty

/-! ### The replies that an upload owes while the request waits (R169, R175) -/

/-- The tags that an upload owes replies to are different (R175). -/
theorem State.owes_nodup {s : State} (owed : s.owedLaw) {u : Upload} (h : s.csc.upload = some u) : u.owes.Nodup := by
  obtain ⟨nodup, perm, -⟩ := owed
  have tags : s.owedTags.Nodup := perm.nodup_iff.1 (nodup.sublist (List.filter_sublist.map _))
  rw [State.owedTags, h] at tags
  exact ((List.nodup_append.1 (List.nodup_append.1 (List.nodup_append.1 tags).1).1).2).1

/-- The replies that an upload owes are found as before once another request has taken a slot. -/
theorem Clp.find_of_other {c d : Clp} {kind tag t : Octet} {ph : SlotPhase} (h : d.slots = c.slots ++ [⟨kind, tag, ph⟩])
    (other : t ≠ tag) : d.slots.find? (Slot.waits t) = c.slots.find? (Slot.waits t) := by
  have passes : Slot.waits t ⟨kind, tag, ph⟩ = false := by simp [Slot.waits, other.symm]
  rw [h, List.find?_append, List.find?_cons, passes, List.find?_nil, Option.or_none]

/-! ### The declaration -/

/-- A state that differs from another in its incident state and its control link: the zone table, the players and the clip store are
read as before. -/
theorem State.views_of_declared {s d : State} (zones : d.zmg.zones = s.zmg.zones) (lpc : d.lpc = s.lpc) (apl : d.apl = s.apl)
    (csc : d.csc = s.csc) :
    d.n = s.n ∧ d.modeOf = s.modeOf ∧ d.anyEmergency = s.anyEmergency ∧ d.emergencyZones = s.emergencyZones ∧
      d.player = s.player ∧ d.evacuating = s.evacuating := by
  have n : d.n = s.n := by rw [State.n, State.n, lpc]
  have mode : d.modeOf = s.modeOf := by unfold State.modeOf; rw [zones]
  refine ⟨n, mode, ?_, ?_, ?_, State.evacuating_congr (congrArg Apl.pool apl) (congrArg Csc.directory csc)⟩
  · rw [State.anyEmergency, State.anyEmergency, n, mode]
  · rw [State.emergencyZones, State.emergencyZones, n, mode]
  · unfold State.player; rw [apl]

/-- The part that has taken a DECLARE_INCIDENT and what it declares, before the EMERGENCY set is derived. -/
structure State.Declared (s : State) (tag : Octet) (zones : ZoneSet) (whole : Bool) (d : State) : Prop where
  zmg : d.zmg = { s.zmg with incident := s.zmg.incident ||| zones, whole := s.zmg.whole || whole }
  lpc : d.lpc = s.lpc
  apl : d.apl = s.apl
  csc : d.csc = s.csc
  sau : d.sau = s.sau
  lvq : d.lvq = s.lvq
  flash : d.flash = s.flash
  out : d.out = s.out
  clp : d.clp = { s.clp with
    receiver := .hunting, slots := s.clp.slots ++ [⟨0x1B#8, tag, .waiting⟩], marks := d.clp.marks }

theorem State.declared_seat (s : State) (tag : Octet) (zones : ZoneSet) (whole : Bool) :
    s.Declared tag zones whole ((s.seat 0x1B#8 tag).declared zones whole) := by
  obtain ⟨marks, eq⟩ := (s.seat 0x1B#8 tag).declared_eq zones whole
  rw [eq]
  exact ⟨rfl, rfl, rfl, rfl, rfl, rfl, rfl, rfl, rfl⟩

section
variable {s d : State} {tag : Octet} {zones : ZoneSet} {whole : Bool} (k : s.Declared tag zones whole d)
include k

theorem State.Declared.views :
    d.n = s.n ∧ d.modeOf = s.modeOf ∧ d.anyEmergency = s.anyEmergency ∧ d.emergencyZones = s.emergencyZones ∧
      d.player = s.player ∧ d.evacuating = s.evacuating :=
  State.views_of_declared (by rw [k.zmg]) k.lpc k.apl k.csc

theorem State.Declared.slots : d.clp.slots = s.clp.slots ++ [⟨0x1B#8, tag, .waiting⟩] := by rw [k.clp]

theorem State.Declared.replies : d.clp.replies = s.clp.replies := by rw [k.clp]

/-- A declaration keeps the size of the zone table. -/
theorem State.Declared.table (law : s.emergencyLaw) : d.zmg.zones.length = d.n ∧ d.n ≤ 24 := by
  obtain ⟨table, n24, -⟩ := law
  obtain ⟨n, -⟩ := k.views
  exact ⟨by rw [k.zmg, n, table], by rwa [n]⟩

/-- The modes once the set is derived, by the EMERGENCY table (R46): what was in EMERGENCY stays there, since a declaration only
adds to the incident state. -/
theorem State.Declared.modes (law : s.emergencyLaw) (runs : s.clp.part = .running) {i : Nat} (hi : i < s.n) :
    d.applyEmergency.modeOf i = .emergency ↔
      emergencyTable s.n s.zmg.plan.spread d.applyEmergency.zmg.incident
        (d.applyEmergency.zmg.whole || s.zmg.latch) i = true := by
  obtain ⟨length, hn⟩ := k.table law
  obtain ⟨n, mode, -⟩ := k.views
  obtain ⟨-, -, modes, -⟩ := law
  have running : (s.clp.part == .running) = true := beq_iff_eq.2 runs
  have declares : ∀ i, d.declares i =
      emergencyTable s.n s.zmg.plan.spread (s.zmg.incident ||| zones) (s.zmg.whole || whole || s.zmg.latch) i := fun i => by
    rw [State.declares, n, k.zmg, k.clp, running, Bool.and_true]
  have grown : ∀ i < d.n, d.modeOf i = .emergency → d.declares i = true := fun i hi emergency => by
    have before := (modes i (List.mem_range.2 (n ▸ hi))).1 (mode ▸ emergency)
    rw [running, Bool.and_true] at before
    rw [declares]
    refine emergencyTable_mono (fun j hj => ?_) (fun everywhere => ?_) before
    · rw [ZoneSet.mem, BitVec.getLsbD_or, show s.zmg.incident.getLsbD j = true from hj, Bool.true_or]
    · rw [Bool.or_right_comm, everywhere, Bool.true_or]
  rw [State.applyEmergency_record length hn, k.zmg, State.applyEmergency_modes length hn grown (n ▸ hi), declares]

/-- What an emergency that begins with a declaration does to the upload, to players 2 and 3 and to the evacuation players. -/
theorem State.Declared.begins (law : s.emergencyLaw) (owed : s.owedLaw) (accepts : s.accepts tag)
    (players : s.apl.players.length = 4) (calm : s.anyEmergency = false) (begun : d.applyEmergency.anyEmergency = true) :
    (∀ up ∈ s.csc.upload,
      d.applyEmergency.csc.upload = none ∧ (d.applyEmergency.dirEntry up.slot).state = .damaged ∧
        d.applyEmergency.clp.replies = s.clp.replies ++ s.clp.statusReplies (up.owes.map (·, .aborted))) ∧
      (∀ p ∈ [2, 3], (∀ up ∈ s.csc.upload, (s.player p).clipSlot ≠ some up.slot) →
        d.applyEmergency.player p = s.player p) ∧
      ∀ p ∈ [0, 1],
        (s.zmg.plan.head p = none →
          (d.applyEmergency.player p).running = false ∧ (d.applyEmergency.player p).missing = true ∧
            d.applyEmergency.clp.marks.player.getLsbD p = true ∧
            (d.applyEmergency.player p).ended = if (s.player p).running then some .preEmpted else (s.player p).ended) ∧
        ∀ i ∈ s.zmg.plan.head p, ∀ x ∈ s.evacuating p i, (∀ up ∈ s.csc.upload, x.clipSlot ≠ some up.slot) →
          d.applyEmergency.player p = x ∧ .player p ∈ d.applyEmergency.bim.activation := by
  obtain ⟨length, hn⟩ := k.table law
  obtain ⟨-, -, any, -, player, evacuating⟩ := k.views
  have calm' : d.anyEmergency = false := any.trans calm
  have joins : d.joined ≠ 0#24 := fun none =>
    Bool.false_ne_true (((State.applyEmergency_calm length hn calm').2 none).symm.trans begun)
  have upload : d.csc.upload = s.csc.upload := congrArg Csc.upload k.csc
  have plan : d.zmg.plan = s.zmg.plan := by rw [k.zmg]
  have four : d.apl.players.length = 4 := by rw [k.apl, players]
  refine ⟨fun up hup => ?_, fun p hp other => ?_, fun p hp => ⟨fun head => ?_, fun i head x hx other => ?_⟩⟩
  · have other : tag ∉ up.owes := State.not_owed_of_accepts accepts owed up hup
    obtain ⟨ended, damaged, replies⟩ :=
      State.applyEmergency_of_upload joins calm' (upload.trans hup) (State.owes_nodup owed hup)
    refine ⟨ended, damaged, replies.trans ?_⟩
    rw [k.replies, Clp.statusReplies_congr fun t ht => Clp.find_of_other k.slots (ne_of_mem_of_not_mem ht other)]
  · exact (State.applyEmergency_player_ne joins calm' hp (by rw [upload, player]; exact other)).trans (by rw [player])
  · rw [← player]
    exact State.applyEmergency_of_no_head joins calm' hp four (by rw [plan]; exact head)
  · exact State.applyEmergency_of_head joins calm' hp four (by rw [plan]; exact head) (by rw [evacuating]; exact hx)
      (by rw [upload]; exact other)

/-- The control link once the set is derived and the request's slot is taken out again. -/
theorem State.Declared.unseated_clp (l : List Slot) :
    (d.applyEmergency.unseated s.clp.receiver l).clp =
      { s.clp with marks := d.applyEmergency.clp.marks, slots := l, replies := d.applyEmergency.clp.replies } := by
  obtain ⟨-, -, -, -, -, clp⟩ := d.applyEmergency_besides
  exact (congrArg (fun c : Clp => { c with receiver := s.clp.receiver, slots := l }) clp).trans
    (congrArg (fun c : Clp => { c with
      receiver := s.clp.receiver, slots := l, marks := d.applyEmergency.clp.marks
      replies := d.applyEmergency.clp.replies }) k.clp)

end

/-- Settles O21: the derived set by the EMERGENCY table, and an emergency that begins by the takeover of each evacuation player and
the end of the upload. -/
theorem declareIncidentPutsZonesInEmergency : Obligations.DeclareIncidentPutsZonesInEmergency := by
  intro s tag body accepts bodyLength
  have fits : (body.length == 4) = true := by simpa using bodyLength
  refine ⟨fun invalid => State.frameIn_answered accepts fits (handleDeclare_of_invalid invalid),
    fun valid law owed players => ?_⟩
  have handled := handleDeclare_of_valid (s := s.seat 0x1B#8 tag) (tag := tag) valid
  have k := s.declared_seat tag (zonesAt body 0) (u8 body 3 == 1)
  generalize (s.seat 0x1B#8 tag).declared (zonesAt body 0) (u8 body 3 == 1) = d at handled k
  obtain ⟨length, hn⟩ := k.table law
  obtain ⟨-, -, any, zones, -⟩ := k.views
  obtain ⟨lpc, sau, lvq, flash, out, clp⟩ := d.applyEmergency_besides
  obtain ⟨l, seated, free, same⟩ := State.applyEmergency_slots k.slots accepts.1.2.2.1
    (by rw [k.csc]; exact State.not_owed_of_accepts accepts owed)
  have record := State.applyEmergency_record length hn
  rw [zones, k.zmg] at record
  have thresholds : d.applyEmergency.zmg.zones.map (·.threshold) = s.zmg.zones.map (·.threshold) := by
    rw [d.applyEmergency_zmg, show s.zmg.zones = d.zmg.zones by rw [k.zmg]]
    exact Zmg.changed_thresholds _ _ _
  refine ⟨d.applyEmergency.unseated s.clp.receiver l,
    State.frameIn_replied accepts fits handled (by rw [clp, k.clp]) seated free, record, thresholds,
    fun i hi => k.modes law accepts.2 (List.mem_range.1 hi), lpc.trans k.lpc, sau.trans k.sau, lvq.trans k.lvq,
    flash.trans k.flash, out.trans k.out, k.unseated_clp l, fun quiet => ?_, fun quiet => ?_,
    fun calm begun => k.begins law owed accepts players calm begun⟩
  · obtain ⟨store, slots, replies⟩ := State.applyEmergency_store length hn (by rw [k.csc, any]; exact quiet)
    rw [k.csc] at store
    exact ⟨store, same slots, replies.trans k.replies⟩
  · exact (State.applyEmergency_apl length hn (by rw [any]; exact quiet)).trans k.apl

end Sys2Proof.Machine
end

section
/-! CLEAR_INCIDENT (R50): the incident state emptied, and the zones that are EMERGENCY returned to NORMAL as one set, with which
emergency ends (R48, R131, R156). -/

namespace Sys2Proof.Machine

/-! ### Every zone NORMAL (R48) -/

theorem map_mode_normal (l : List ZoneRec) :
    (l.map fun z => { z with mode := .normal }) =
      (List.range l.length).map fun i => { l.getD i ⟨0, .normal⟩ with mode := .normal } := by
  conv_lhs => rw [← map_range_getD l ⟨0, .normal⟩]
  rw [List.map_map]
  rfl

/-- A zone that is not EMERGENCY is NORMAL already. -/
theorem State.zone_of_not_emergency {s : State} {i : Nat} (h : s.modeOf i ≠ .emergency) :
    s.zmg.zones.getD i ⟨0, .normal⟩ = { s.zmg.zones.getD i ⟨0, .normal⟩ with mode := .normal } := by
  unfold State.modeOf at h
  generalize s.zmg.zones.getD i ⟨0, .normal⟩ = z at h ⊢
  obtain ⟨threshold, mode⟩ := z
  cases mode with
  | normal => rfl
  | emergency => exact absurd rfl h

section
variable {s : State} (length : s.zmg.zones.length = s.n) (hn : s.n ≤ 24)
include length

/-- Outside an emergency every zone is NORMAL already. -/
theorem State.zones_of_calm (calm : s.anyEmergency = false) :
    s.zmg.zones = s.zmg.zones.map fun z => { z with mode := .normal } := by
  rw [map_mode_normal]
  conv_lhs => rw [← map_range_getD s.zmg.zones ⟨0, .normal⟩]
  refine List.map_congr_left fun i hi => State.zone_of_not_emergency fun mode => ?_
  exact Bool.false_ne_true (calm.symm.trans (s.anyEmergency_iff.2 ⟨i, length ▸ List.mem_range.1 hi, mode⟩))

include hn

/-- With the EMERGENCY zones returned to NORMAL every zone is NORMAL. -/
theorem State.changed_all_normal :
    (s.zmg.changed s.emergencyZones .normal).zones = s.zmg.zones.map fun z => { z with mode := .normal } := by
  rw [Zmg.changed_zones, map_mode_normal]
  refine List.map_congr_left fun i hi => ?_
  by_cases emergency : s.emergencyZones.mem i = true
  · rw [if_pos emergency]
  · rw [if_neg emergency]
    rw [State.emergencyZones_mem hn] at emergency
    exact State.zone_of_not_emergency fun mode => emergency ⟨length ▸ List.mem_range.1 hi, mode⟩

end

/-- A loop whose zones are all NORMAL is in no emergency. -/
theorem State.calm_of_normal {s : State} {l : List ZoneRec} (h : s.zmg.zones = l.map fun z => { z with mode := .normal }) :
    s.anyEmergency = false := by
  rw [← Bool.not_eq_true, s.anyEmergency_iff]
  rintro ⟨i, -, mode⟩
  rw [State.modeOf, h, List.getD_eq_getElem?_getD, List.getElem?_map] at mode
  cases found : l[i]? <;> simp [found] at mode

/-! ### Emergency ends with a set to NORMAL (R48, R131, R156) -/

/-- The state without the live session, the mixer and the notice marks. -/
def State.besidesLive (s : State) : State :=
  { s with
    lvq := Lvq.initial
    bim := ⟨[], [], []⟩
    clp := { s.clp with marks := Marks.clear } }

/-- The lowering of a LIVE source changes the session, the mixer and marks alone (R131). -/
theorem State.lowerLive_besides (s : State) : s.lowerLive.besidesLive = s.besidesLive := by
  unfold State.lowerLive
  split <;> rfl

/-- What the end of an emergency keeps: the loop, the alignment, the flash, the upload, the outputs, and of the link the slots
and the receiver; with the Zone Manager's record. -/
def State.besidesClear (s : State) : Zmg × Lpc × Sau × Flash × Option Upload × Outputs × List Slot × Receiver :=
  (s.zmg, s.lpc, s.sau, s.flash, s.csc.upload, s.out, s.clp.slots, s.clp.receiver)

section
variable {s t : State}

theorem State.besidesClear_of_live (h : t.besidesLive = s.besidesLive) :
    t.besidesClear = s.besidesClear ∧ t.player = s.player :=
  ⟨congrArg (·.besidesClear) h, congrArg (·.player) h⟩

theorem State.besidesClear_of_runs (h : t.besidesRuns = s.besidesRuns) : t.besidesClear = s.besidesClear :=
  congrArg (·.besidesClear) h

theorem State.besidesClear_of_modes (h : t.besidesModes = s.besidesModes) : t.besidesClear = s.besidesClear :=
  congrArg (·.besidesClear) h

end

section
variable {s : State} (length : s.zmg.zones.length = s.n) (hn : s.n ≤ 24)
include length hn

/-- The set of the EMERGENCY zones to NORMAL ends the emergency. -/
theorem State.normalSet_ends :
    s.normalSet s.emergencyZones = (s.normalTaken s.emergencyZones).evacuationEnd.lowerLive := by
  obtain ⟨-, -, zmg, -⟩ := State.kept_of_besidesModes (s.normalTaken_besidesModes s.emergencyZones)
  have zones : (s.normalTaken s.emergencyZones).zmg.zones = s.zmg.zones.map fun z => { z with mode := .normal } := by
    rw [zmg]
    exact State.changed_all_normal length hn
  rw [State.normalSet_eq, State.calm_of_normal zones, if_neg (by simp)]

theorem State.normalSet_besides :
    (s.normalSet s.emergencyZones).besidesClear =
      ({ s with zmg := s.zmg.changed s.emergencyZones .normal } : State).besidesClear := by
  rw [State.normalSet_ends length hn]
  exact (State.besidesClear_of_live (State.lowerLive_besides _)).1.trans
    ((State.besidesClear_of_runs (State.evacuationEnd_growsRuns _).same).trans
      (State.besidesClear_of_modes (s.normalTaken_besidesModes _)))

/-- The evacuation players are at rest once the emergency has ended, and the others as before. -/
theorem State.normalSet_players (players : s.apl.players.length = 4) :
    (∀ p ∈ [0, 1], ((s.normalSet s.emergencyZones).player p).running = false) ∧
      ∀ p ∈ [2, 3], (s.normalSet s.emergencyZones).player p = s.player p := by
  obtain ⟨apl, -⟩ := State.kept_of_besidesModes (s.normalTaken_besidesModes s.emergencyZones)
  rw [State.normalSet_ends length hn, (State.besidesClear_of_live (State.lowerLive_besides _)).2]
  generalize s.normalTaken s.emergencyZones = t at apl ⊢
  refine ⟨fun p hp => State.evacuationEnd_player hp (by rw [apl, players]), fun p hp => ?_⟩
  rw [t.evacuationEnd_player_ne hp, State.player, State.player, apl]

end

/-! ### The request (R50) -/

/-- The incident state emptied, with the mark where it was not empty. -/
def State.emptied (s : State) : State :=
  (s.modZmg fun z => { z with incident := 0#24, whole := false, latch := false }).markIf
    (s.zmg.incident != 0#24 || s.zmg.whole || s.zmg.latch) State.markIncident

/-- Clearing an incident empties the incident state and returns the EMERGENCY zones to NORMAL, where there are any. -/
def State.cleared (s : State) : State :=
  if s.emptied.emergencyZones = 0#24 then s.emptied else s.emptied.normalSet s.emptied.emergencyZones

theorem handleClear_of_locked {s : State} {tag : Octet} (h : s.zmg.level = some true) :
    handleClear tag s = s.answer tag .locked [] := if_pos h

theorem handleClear_of_free {s : State} {tag : Octet} (h : s.zmg.level ≠ some true) :
    handleClear tag s = s.cleared.answer tag .ok [] := if_neg h

/-- The part that has taken a CLEAR_INCIDENT and emptied its incident state, before the zones return to NORMAL. -/
theorem State.emptied_seat (s : State) (tag : Octet) :
    ∃ d : State, (s.seat 0x1C#8 tag).emptied = d ∧
      d.zmg = { s.zmg with incident := 0#24, whole := false, latch := false } ∧ d.lpc = s.lpc ∧ d.apl = s.apl ∧
      d.csc = s.csc ∧ d.sau = s.sau ∧ d.flash = s.flash ∧ d.out = s.out ∧
      d.clp.slots = s.clp.slots ++ [⟨0x1C#8, tag, .waiting⟩] ∧ d.clp.receiver = .hunting := by
  refine ⟨_, rfl, ?_⟩
  unfold State.emptied
  generalize (_ || _ : Bool) = b
  cases b <;> exact ⟨rfl, rfl, rfl, rfl, rfl, rfl, rfl, rfl, rfl⟩

/-- Settles O22: the zones that are EMERGENCY are returned to NORMAL as one set, with which the emergency ends. -/
theorem clearIncidentReturnsEveryZone : Obligations.ClearIncidentReturnsEveryZone := by
  intro s tag accepts
  have fits : (([] : List Octet).length == 0) = true := rfl
  refine ⟨fun locked => State.frameIn_answered accepts fits (handleClear_of_locked (s := s.seat 0x1C#8 tag) locked),
    fun free law players => ?_⟩
  have handled := handleClear_of_free (s := s.seat 0x1C#8 tag) (tag := tag) free
  obtain ⟨d, eq, zmg, lpc, apl, csc, sau, flash, out, slots, receiver⟩ := s.emptied_seat tag
  obtain ⟨n, -, any, -, player, -⟩ := State.views_of_declared (s := s) (d := d) (by rw [zmg]) lpc apl csc
  obtain ⟨table, n24, -⟩ := law
  have length : d.zmg.zones.length = d.n := by rw [zmg, n, table]
  have hn : d.n ≤ 24 := n ▸ n24
  have noZone := State.emergencyZones_eq_zero_iff hn
  rw [State.cleared, eq] at handled
  clear eq
  by_cases emergency : s.anyEmergency = true
  · have some : d.emergencyZones ≠ 0#24 := fun h => by rw [noZone.1 h] at any; rw [← any] at emergency; cases emergency
    have besides := State.normalSet_besides length hn
    obtain ⟨rest, others⟩ := State.normalSet_players length hn (by rw [apl, players])
    rw [if_neg some] at handled
    simp only [State.besidesClear, Prod.mk.injEq] at besides
    obtain ⟨zmg', lpc', sau', flash', upload', out', slots', receiver'⟩ := besides
    have zones := State.changed_all_normal length hn
    generalize d.normalSet d.emergencyZones = r at *
    refine ⟨r.unseated s.clp.receiver s.clp.slots,
      State.frameIn_replied accepts fits handled (receiver'.trans receiver) (slots'.trans slots) accepts.1.2.2.1, ?_,
      fun _ => ⟨rest 0 (by simp), rest 1 (by simp)⟩, fun p hp => (others p hp).trans (by rw [player]), lpc'.trans lpc,
      sau'.trans sau, flash'.trans flash, upload'.trans (by rw [csc]), out'.trans out⟩
    refine zmg'.trans ?_
    rw [if_pos emergency, show d.zmg.changed d.emergencyZones .normal = { d.zmg with
        zones := (d.zmg.changed d.emergencyZones .normal).zones, changes := wrapInc d.zmg.changes } from rfl, zones, zmg]
    rfl
  · rw [Bool.not_eq_true] at emergency
    have calm : d.anyEmergency = false := any.trans emergency
    have zones := State.zones_of_calm length calm
    rw [if_pos (noZone.2 calm)] at handled
    refine ⟨d.unseated s.clp.receiver s.clp.slots, State.frameIn_replied accepts fits handled receiver slots accepts.1.2.2.1, ?_,
      fun begun => absurd (begun.symm.trans emergency) (by simp), fun p _ => by rw [← player]; rfl, lpc, sau, flash,
      by rw [← csc]; rfl, out⟩
    rw [zmg] at zones
    rw [emergency, if_neg (by simp), ← zones]
    exact zmg

end Sys2Proof.Machine
end

section
/-! The places of a band (R116, R119, R121): each operation of the arbiter on a gate keeps that no more gates are OPEN than there are
places, and that no gate is PENDING beside a free place. -/

namespace Sys2Proof.Machine

/-! ### Counting gates -/

/-- Every place of a band that can be filled is filled (R121): all are taken, or no gate is PENDING. -/
def Band.filled (b : Band) : Prop := b.cfg.capacity ≤ b.count .opened ∨ b.count .pending = 0

/-- What the arbiter keeps of the places of a band (R119, R121). -/
structure Band.KeepsPlaces (b b' : Band) : Prop where
  within : b.count .opened ≤ b.cfg.capacity → b'.count .opened ≤ b'.cfg.capacity
  filled : b.filled → b'.filled

theorem Band.KeepsPlaces.refl (b : Band) : b.KeepsPlaces b := ⟨id, id⟩

theorem Band.KeepsPlaces.trans {b b' b'' : Band} (h : b.KeepsPlaces b') (k : b'.KeepsPlaces b'') : b.KeepsPlaces b'' :=
  ⟨fun x => k.within (h.within x), fun x => k.filled (h.filled x)⟩

theorem Band.gate_eq_getElem (b : Band) {i : Nat} (hi : i < b.gates.length) : b.gate i = b.gates[i] := by
  simp [Band.gate, hi]

/-- A gate that takes a state leaves the number of the gates in the state it had and joins that of its new one. -/
theorem BandWork.set_count (w : BandWork) {i : Nat} (st : GateState) (hold : Option Nat) (k : GateState)
    (hi : i < w.band.gates.length) :
    (w.set i st hold).band.count k + (if (w.band.gate i).state = k then 1 else 0) =
      w.band.count k + if st = k then 1 else 0 := by
  have replaced : w.band.gates.modify i (fun g => { g with state := st, hold := hold }) =
      w.band.gates.set i { w.band.gates[i] with state := st, hold := hold } := by
    rw [List.modify_eq_set_getElem?, List.getElem?_eq_getElem hi]
    rfl
  have here : w.band.gates[i].state = k → 0 < w.band.gates.countP fun g => g.state == k := fun h =>
    List.countP_pos_iff.2 ⟨_, List.getElem_mem hi, by simpa using h⟩
  rw [w.band.gate_eq_getElem hi]
  simp only [Band.count, BandWork.set, replaced, List.countP_set hi, beq_iff_eq]
  by_cases h : w.band.gates[i].state = k
  · have := here h
    simp only [if_pos h]
    omega
  · simp only [if_neg h]
    omega

theorem pickBest_eq_none {beats : Nat → Nat → Bool} {l : List Nat} (h : pickBest beats l = none) : l = [] := by
  cases l with
  | nil => rfl
  | cons i l =>
    unfold pickBest at h
    split at h
    · cases h
    · split at h <;> cases h

theorem Band.count_eq_zero_of_inState {b : Band} {st : GateState} (h : b.inState st = []) : b.count st = 0 := by
  rw [Band.count, List.countP_eq_zero]
  intro g hg
  obtain ⟨i, hi, rfl⟩ := List.mem_iff_getElem.1 hg
  have out := List.filter_eq_nil_iff.1 h i (List.mem_range.2 hi)
  rwa [b.gate_eq_getElem hi] at out

theorem Band.lt_of_mem_inState {b : Band} {st : GateState} {i : Nat} (h : i ∈ b.inState st) : i < b.gates.length :=
  List.mem_range.1 (List.mem_filter.1 h).1

/-! ### The places under each operation -/

/-- A promotion moves one gate from PENDING to OPEN, where there is a PENDING one (R121). -/
theorem BandWork.promote_count (w : BandWork) :
    (w.promote = w ∧ w.band.count .pending = 0) ∨
      (w.promote.band.count .opened = w.band.count .opened + 1 ∧
        w.promote.band.count .pending + 1 = w.band.count .pending) := by
  unfold BandWork.promote
  cases h : w.band.loudestPending with
  | none => exact .inl ⟨rfl, Band.count_eq_zero_of_inState (pickBest_eq_none h)⟩
  | some i =>
    have hi := Band.lt_of_mem_inState (pickBest_mem _ h)
    have opened := w.set_count .opened (w.band.gate i).hold .opened hi
    have pending := w.set_count .opened (w.band.gate i).hold .pending hi
    rw [Band.loudestPending_pending h] at opened pending
    exact .inr ⟨opened, pending⟩

/-- A gate that leaves its state for one without a hold timer frees a place where it was OPEN, which is filled again (R121). -/
theorem BandWork.vacate_places (w : BandWork) {i : Nat} {st : GateState} (hi : i < w.band.gates.length) (ho : st ≠ .opened)
    (hp : st ≠ .pending) : w.band.KeepsPlaces (w.vacate i st).band := by
  have opened := w.set_count st none .opened hi
  have pending := w.set_count st none .pending hi
  rw [if_neg ho] at opened
  rw [if_neg hp] at pending
  have cfg := (w.vacate_like i st).1.cfg
  unfold BandWork.vacate at cfg ⊢
  dsimp only at cfg ⊢
  by_cases was : (w.band.gate i).state = .opened
  · have taken : ((w.band.gate i).state == .opened) = true := by simpa using was
    rw [was] at opened pending
    simp only [taken, if_true] at cfg ⊢
    simp only [if_true, reduceCtorEq, if_false] at opened pending
    rcases (w.set i st none).promote_count with ⟨same, none⟩ | ⟨more, fewer⟩
    · rw [same]
      exact ⟨fun within => by rw [w.set_like i st .none |>.cfg]; omega, fun _ => .inr none⟩
    · refine ⟨fun within => by rw [cfg]; omega, fun filled => ?_⟩
      unfold Band.filled at filled ⊢
      rw [cfg]
      omega
  · have free : ((w.band.gate i).state == .opened) = false := by simpa using was
    rw [if_neg was] at opened
    simp only [free, Bool.false_eq_true, if_false] at cfg ⊢
    refine ⟨fun within => by rw [cfg]; omega, fun filled => ?_⟩
    unfold Band.filled at filled ⊢
    rw [cfg]
    split at pending <;> omega

/-- A CLOSED gate that asks to open takes a free place, or another gate's, or waits with every place taken (R119). -/
theorem BandWork.ask_places (w : BandWork) {i : Nat} (due : Nat) (closed : (w.band.gate i).state = .closed)
    (hi : i < w.band.gates.length) : w.band.KeepsPlaces (w.ask i due).band := by
  have opened := w.set_count .opened (some due) .opened hi
  have pending := w.set_count .opened (some due) .pending hi
  have waiting := w.set_count .pending (some due) .opened hi
  rw [closed] at opened pending waiting
  simp only [if_true, reduceCtorEq, if_false] at opened pending waiting
  unfold BandWork.ask
  split
  · next free =>
    refine ⟨fun _ => ?_, fun filled => .inr ?_⟩
    · show _ ≤ w.band.cfg.capacity
      omega
    · unfold Band.filled at filled
      omega
  · next full =>
    have waits : w.band.KeepsPlaces (w.set i .pending (some due)).band :=
      ⟨fun within => show _ ≤ w.band.cfg.capacity by omega, fun _ => .inl (show w.band.cfg.capacity ≤ _ by omega)⟩
    cases hq : w.band.quietest with
    | none => exact waits
    | some q =>
      dsimp only
      split
      · have lost := Band.quietest_opened hq
        have ne : i ≠ q := by rintro rfl; rw [closed] at lost; cases lost
        have leaves := w.set_count .pending (w.band.gate q).hold .opened (Band.lt_of_mem_inState (pickBest_mem _ hq))
        have takes := (w.keepHold q .pending).set_count .opened (some due) .opened (i := i)
          (by rw [BandWork.keepHold, (w.set_like q _ _).length]; exact hi)
        rw [lost] at leaves
        rw [BandWork.keepHold, w.set_gate_ne _ _ ne, closed] at takes
        simp only [if_true, reduceCtorEq, if_false] at leaves takes
        have same : ((w.keepHold q .pending).set i .opened (some due)).band.count .opened = w.band.count .opened := by
          rw [BandWork.keepHold]
          omega
        exact ⟨fun within => same.trans_le within, fun _ => .inl (same.symm ▸ show w.band.cfg.capacity ≤ _ by omega)⟩
      · exact waits

end Sys2Proof.Machine
end

section
/-! The gates of the units that a SET_RU_POWER reconfigures (R60, R122): what the change of one unit's band enable set leaves of every
gate of a band, and that its places stay filled. -/

namespace Sys2Proof.Machine

/-! ### The look of two gates -/

/-- Two gates look the same that agree in all but which of OPEN and PENDING they are. -/
theorem Gate.view_eq_iff {g h : Gate} :
    h.view = g.view ↔ h.latest = g.latest ∧ h.hold = g.hold ∧
      if g.state = .opened ∨ g.state = .pending then h.state = .opened ∨ h.state = .pending else h.state = g.state := by
  obtain ⟨gs, gl, gh⟩ := g
  obtain ⟨hs, hl, hh⟩ := h
  cases gs <;> cases hs <;> simp [Gate.view]

/-! ### A gate evaluated fresh (R122) -/

/-- What an evaluation afresh makes of a gate. -/
def Gate.fresh (g : Gate) (threshold due : Nat) (emergency : Bool) : Gate :=
  if emergency then { g with state := .forced, hold := none }
  else Gate.asking { g with state := .closed, hold := none } threshold due

/-- Asking to open leaves the band's record, its threshold, its feed and every latest A, whatever gate asks. -/
theorem BandWork.ask_keeps (w : BandWork) (i due : Nat) : w.band.Like (w.ask i due).band := by
  unfold BandWork.ask
  split
  · exact w.set_like i _ _
  · split
    · exact w.set_like i _ _
    · next q _ =>
      split
      · obtain ⟨cfg, inUse, feed, length, latest⟩ :=
          (w.set_like q .pending (w.band.gate q).hold).trans ((w.keepHold q .pending).set_like i .opened (some due))
        exact ⟨cfg, inUse, feed, length, latest⟩
      · exact w.set_like i _ _

theorem BandWork.fresh_keeps (w : BandWork) (i due : Nat) (emergency : Bool) : w.band.Like (w.fresh i due emergency).band := by
  unfold BandWork.fresh BandWork.askIfHeard
  split
  · exact w.set_like i _ _
  · split
    · exact (w.set_like i _ _).trans (BandWork.ask_keeps _ i due)
    · exact w.set_like i _ _

theorem BandWork.fresh_view (w : BandWork) {i : Nat} (due : Nat) (emergency : Bool) (hi : i < w.band.gates.length) :
    ((w.fresh i due emergency).band.gate i).view = ((w.band.gate i).fresh w.band.inUse due emergency).view ∧
      ∀ j, j ≠ i → ((w.fresh i due emergency).band.gate j).view = (w.band.gate j).view := by
  have forced := w.set_gate .forced none hi
  have closed := w.set_gate .closed none hi
  have like := w.set_like i .closed none
  have others : ∀ st j, j ≠ i → (w.set i st none).band.gate j = w.band.gate j := fun st j hj => w.set_gate_ne st none hj
  cases emergency with
  | true => exact ⟨congrArg Gate.view forced, fun j hj => congrArg Gate.view (others .forced j hj)⟩
  | false =>
    simp only [BandWork.fresh, BandWork.askIfHeard, Gate.fresh, Gate.asking, Band.heard, Bool.false_eq_true, if_false, true_and,
      decide_eq_true_eq, like.inUse, like.latest]
    by_cases heard : w.band.inUse ≤ (w.band.gate i).latest
    · obtain ⟨-, here, rest⟩ := (w.set i .closed none).ask_like due (congrArg Gate.state closed) (by rw [like.length]; exact hi)
      rw [if_pos heard, if_pos heard, here, closed]
      exact ⟨rfl, fun j hj => (rest j hj).trans (congrArg Gate.view (others .closed j hj))⟩
    · rw [if_neg heard, if_neg heard, closed]
      exact ⟨rfl, fun j hj => congrArg Gate.view (others .closed j hj)⟩

/-- A gate that is evaluated afresh and was not OPEN keeps the places of its band filled. -/
theorem BandWork.fresh_places (w : BandWork) {i : Nat} (due : Nat) (emergency : Bool) (hi : i < w.band.gates.length)
    (out : (w.band.gate i).state ≠ .opened) : w.band.KeepsPlaces (w.fresh i due emergency).band := by
  have sets : ∀ st, st ≠ .opened → st ≠ .pending → w.band.KeepsPlaces (w.set i st none).band := fun st ho hp => by
    have places := w.vacate_places hi ho hp
    rwa [BandWork.vacate, if_neg (by simpa using out)] at places
  have closed := sets .closed (by decide) (by decide)
  unfold BandWork.fresh BandWork.askIfHeard
  split
  · exact sets .forced (by decide) (by decide)
  · split
    · exact closed.trans (BandWork.ask_places _ due (congrArg Gate.state (w.set_gate .closed none hi))
        (by rw [(w.set_like i .closed none).length]; exact hi))
    · exact closed

/-! ### One gate of a unit whose band enable set has changed -/

/-- The work on band `b` as the unit of index `i`, which had the band enable set `old i`, has the one of its record in `c`: the
band's part of `State.gatesReconfigured`. -/
def State.moveGate (c : State) (old : Nat → BitVec 4) (b i : Nat) (w : BandWork) : BandWork :=
  if (old i).getLsbD b && !(c.powerCfg i).bands.getLsbD b then w.vacate i .disabled
  else if !(old i).getLsbD b && (c.powerCfg i).bands.getLsbD b && c.eligible b i then
    w.fresh i (dueInFrame c.now w.band.cfg.hold) (c.isEmergency i)
  else w

/-- What that work makes of the unit's own gate. -/
def State.movedGate (c : State) (old : Nat → BitVec 4) (b i : Nat) (g : Gate) : Gate :=
  if (old i).getLsbD b && !(c.powerCfg i).bands.getLsbD b then { g with state := .disabled, hold := none }
  else if !(old i).getLsbD b && (c.powerCfg i).bands.getLsbD b && c.eligible b i then
    g.fresh (c.band b).inUse (dueInFrame c.now (c.band b).cfg.hold) (c.isEmergency i)
  else g

/-- The work on a band for the units of a list. -/
def State.moveGates (c : State) (old : Nat → BitVec 4) (b : Nat) (l : List Nat) (x : Band) : Band :=
  l.foldl (fun x i => (c.moveGate old b i ⟨x, false⟩).band) x

theorem Gate.fresh_view (g : Gate) (threshold due : Nat) (emergency : Bool) :
    g.view.fresh threshold due emergency = g.fresh threshold due emergency := rfl

section
variable (c : State) (old : Nat → BitVec 4) {b i : Nat}

theorem State.movedGate_view {g h : Gate} (same : h.view = g.view) :
    (c.movedGate old b i h).view = (c.movedGate old b i g).view := by
  unfold State.movedGate
  split
  · exact congrArg Gate.view (Gate.view_replace same _ _)
  · split
    · rw [← Gate.fresh_view h, same, Gate.fresh_view]
    · exact same

/-- A unit whose record still enables the bands that it had keeps its gates. -/
theorem State.movedGate_of_same {g : Gate} (same : (c.powerCfg i).bands = old i) : c.movedGate old b i g = g := by
  unfold State.movedGate
  cases h : (old i).getLsbD b <;> simp [same, h]

theorem State.moveGate_of_same {w : BandWork} (same : (c.powerCfg i).bands = old i) : c.moveGate old b i w = w := by
  unfold State.moveGate
  cases h : (old i).getLsbD b <;> simp [same, h]

theorem State.moveGate_keeps (w : BandWork) : w.band.Like (c.moveGate old b i w).band := by
  unfold State.moveGate
  split
  · exact (w.vacate_like i _).1
  · split
    · exact w.fresh_keeps i _ _
    · exact .refl _

theorem BandWork.vacate_view (w : BandWork) (st : GateState) (hi : i < w.band.gates.length) :
    ((w.vacate i st).band.gate i).view = ({ w.band.gate i with state := st, hold := none } : Gate).view := by
  have here := congrArg Gate.view (w.set_gate st none hi)
  unfold BandWork.vacate
  dsimp only
  split
  · exact ((w.set i st none).promote_like.2 i).trans here
  · exact here

theorem State.moveGate_view {w : BandWork} (like : (c.band b).Like w.band) (hi : i < w.band.gates.length) :
    ((c.moveGate old b i w).band.gate i).view = (c.movedGate old b i (w.band.gate i)).view ∧
      ∀ j, j ≠ i → ((c.moveGate old b i w).band.gate j).view = (w.band.gate j).view := by
  unfold State.moveGate State.movedGate
  rw [← like.inUse, ← like.cfg]
  split
  · exact ⟨w.vacate_view _ hi, (w.vacate_like i _).2⟩
  · split
    · exact w.fresh_view _ _ hi
    · exact ⟨rfl, fun _ _ => rfl⟩

theorem State.moveGate_places {w : BandWork} (hi : i < w.band.gates.length)
    (out : (old i).getLsbD b = false → (w.band.gate i).state ≠ .opened) : w.band.KeepsPlaces (c.moveGate old b i w).band := by
  unfold State.moveGate
  split
  · exact w.vacate_places hi (by decide) (by decide)
  · split
    · next added =>
      simp only [Bool.and_eq_true, Bool.not_eq_true'] at added
      exact w.fresh_places _ _ hi (out added.1.1)
    · exact .refl _

end

/-! ### The gates of all units whose band enable sets have changed -/

section
variable (c : State) (old : Nat → BitVec 4) {b : Nat} {l : List Nat} {x : Band}

/-- The work for the units of a list moves the gate of each and leaves the look of every other. -/
theorem State.moveGates_view (nodup : l.Nodup) (like : (c.band b).Like x) (inside : ∀ i ∈ l, i < x.gates.length) :
    x.Like (c.moveGates old b l x) ∧
      ∀ i, ((c.moveGates old b l x).gate i).view = (if i ∈ l then c.movedGate old b i (x.gate i) else x.gate i).view := by
  have moves := fun {y : Band} {i : Nat} (hy : x.Like y) (hi : i ∈ l) =>
    c.moveGate_view old (w := ⟨y, false⟩) (like.trans hy) (show i < y.gates.length by rw [hy.length]; exact inside i hi)
  have steps := fun i => foldl_at (P := fun y : Band => x.Like y) (fun y => (y.gate i).view)
    (f := fun y j => (c.moveGate old b j ⟨y, false⟩).band) (i := i) nodup (.refl x)
    (fun y j _ hy => hy.trans (c.moveGate_keeps old ⟨y, false⟩)) fun y hy j hj hne => (moves hy hj).2 i hne.symm
  refine ⟨(steps 0).1, fun i => ?_⟩
  obtain ⟨-, outside, within⟩ := steps i
  split
  · next mem =>
    obtain ⟨y, hy, same, last⟩ := within mem
    exact (last.trans (moves hy mem).1).trans (c.movedGate_view old same)
  · next out => exact outside out

/-- Where the gates of the bands to be added are not OPEN, the places of the band stay filled. -/
theorem State.moveGates_places (nodup : l.Nodup) (like : (c.band b).Like x) (inside : ∀ i ∈ l, i < x.gates.length)
    (out : ∀ i ∈ l, (old i).getLsbD b = false → (x.gate i).view.state ≠ .opened) :
    x.KeepsPlaces (c.moveGates old b l x) := by
  induction l generalizing x with
  | nil => exact .refl x
  | cons i l ih =>
    obtain ⟨fresh, nodup⟩ := List.nodup_cons.1 nodup
    have hi := inside i List.mem_cons_self
    have keeps := c.moveGate_keeps old (b := b) (i := i) ⟨x, false⟩
    have others := (c.moveGate_view old (w := ⟨x, false⟩) like hi).2
    have here := c.moveGate_places old (b := b) (w := ⟨x, false⟩) hi fun removed h =>
      out i List.mem_cons_self removed (Gate.view_asked.2 (.inl h))
    refine here.trans (ih nodup (like.trans keeps) (fun j hj => ?_) fun j hj removed => ?_)
    · rw [keeps.length]
      exact inside j (List.mem_cons_of_mem i hj)
    · rw [others j (by rintro rfl; exact fresh hj)]
      exact out j (List.mem_cons_of_mem i hj) removed

end

end Sys2Proof.Machine
end

section
/-! SET_RU_POWER (R59, R60): the records written, the positions recomputed whose record changed, and the gates of their bands moved
(R122). -/

namespace Sys2Proof.Machine

/-! ### What a unit's reconfiguration leaves unchanged -/

/-- The band with every gate DISABLED and without its displacement count; the record, the threshold in use, the feed and every latest A
stay. -/
def Band.sansStates (b : Band) : Band :=
  { b with gates := b.gates.map fun g => { g with state := .disabled, hold := none }, displacements := 0 }

theorem Band.sansStates_gate (b : Band) (i : Nat) :
    b.sansStates.gate i = { b.gate i with state := .disabled, hold := none } := by
  by_cases h : i < b.gates.length <;> simp [Band.gate, Band.sansStates, h, Gate.initial]

theorem Band.sansStates_eq_iff {b b' : Band} : b'.sansStates = b.sansStates ↔ b.Like b' := by
  constructor
  · intro same
    refine ⟨congrArg (·.cfg) same, congrArg (·.inUse) same, congrArg (·.feed) same,
      by simpa [Band.sansStates] using congrArg (·.gates.length) same, fun i => ?_⟩
    have gate := congrArg (Band.gate · i) same
    simp only [Band.sansStates_gate] at gate
    exact congrArg (·.latest) gate
  · rintro ⟨cfg, inUse, feed, length, latest⟩
    rw [Band.sansStates, Band.sansStates, cfg, inUse, feed]
    congr 1
    refine List.ext_getElem (by simpa using length) fun i hi hi' => ?_
    simp only [List.length_map] at hi hi'
    have same := latest i
    rw [b.gate_eq_getElem hi', b'.gate_eq_getElem hi] at same
    simp [same]

/-- The state without what the engine and the gates write as a unit is recomputed or its bands are reconfigured, and without the
notice marks of other sources than the units. -/
def State.sansBudget (s : State) : State :=
  { s with
    pbe := { s.pbe with allocs := s.pbe.allocs.map fun _ => AllocRecord.off }
    bands := s.bands.map Band.sansStates
    clp := { s.clp with marks := s.clp.marks.ruAlone } }

theorem State.sansBudget_band (s : State) (b : Nat) : s.sansBudget.band b = (s.band b).sansStates := by
  by_cases h : b < s.bands.length
  · simp [State.band, State.sansBudget, h]
  · simp [State.band, State.sansBudget, h, Band.sansStates, Band.initial]

theorem State.sansBudget_eligible (s : State) (b i : Nat) : s.sansBudget.eligible b i = s.eligible b i := by
  rw [State.eligible, s.sansBudget_band b]
  rfl

/-- What a record is computed from stays. -/
theorem State.sansBudget_computeRecord (s : State) (i : Nat) : s.sansBudget.computeRecord i = s.computeRecord i := by
  have mobile : ∀ cfg bank, s.sansBudget.mobileCarriers cfg bank = s.mobileCarriers cfg bank := fun cfg bank => by
    simp only [State.mobileCarriers, s.sansBudget_band]
    rfl
  unfold State.computeRecord State.computeRecordFrom State.carriersFrom
  simp only [mobile]
  rfl

/-- What the work on a unit's gates reads stays. -/
theorem State.sansBudget_moveGate (s : State) : s.sansBudget.moveGate = s.moveGate := by
  funext old b i w
  unfold State.moveGate
  rw [s.sansBudget_eligible b i]
  rfl

theorem State.sansBudget_movedGate (s : State) : s.sansBudget.movedGate = s.movedGate := by
  funext old b i g
  unfold State.movedGate
  rw [s.sansBudget_eligible b i, s.sansBudget_band b]
  rfl

section
variable {s t : State}

theorem State.band_like (h : t.sansBudget = s.sansBudget) (b : Nat) : (s.band b).Like (t.band b) := by
  rw [← Band.sansStates_eq_iff, ← t.sansBudget_band b, h, s.sansBudget_band b]

theorem State.bands_length_of_sansBudget (h : t.sansBudget = s.sansBudget) : t.bands.length = s.bands.length := by
  simpa [State.sansBudget] using congrArg (·.bands.length) h

theorem State.allocs_length_of_sansBudget (h : t.sansBudget = s.sansBudget) : t.pbe.allocs.length = s.pbe.allocs.length := by
  simpa [State.sansBudget] using congrArg (·.pbe.allocs.length) h

theorem State.powerCfg_of_sansBudget (h : t.sansBudget = s.sansBudget) : t.powerCfg = s.powerCfg :=
  show t.sansBudget.powerCfg = s.sansBudget.powerCfg by rw [h]

theorem State.computeRecord_of_sansBudget (h : t.sansBudget = s.sansBudget) (i : Nat) : t.computeRecord i = s.computeRecord i := by
  rw [← t.sansBudget_computeRecord, h, s.sansBudget_computeRecord]

theorem State.moveGate_of_sansBudget (h : t.sansBudget = s.sansBudget) : t.moveGate = s.moveGate := by
  rw [← t.sansBudget_moveGate, h, s.sansBudget_moveGate]

theorem State.movedGate_of_sansBudget (h : t.sansBudget = s.sansBudget) : t.movedGate = s.movedGate := by
  rw [← t.sansBudget_movedGate, h, s.sansBudget_movedGate]

end

/-! ### One unit reconfigured -/

theorem State.workBand_sansBudget (s : State) (b : Nat) {f : BandWork → BandWork}
    (like : (s.band b).Like (f ⟨s.band b, false⟩).band) : State.Grows State.sansBudget s (s.workBand b f) := by
  have same := Band.sansStates_eq_iff.2 like
  rw [State.workBand_eq]
  refine ⟨?_, fun _ h => h, fun _ h => h, fun h => h⟩
  have bands : (s.bands.map Band.sansStates).set b (s.band b).sansStates = s.bands.map Band.sansStates := by
    by_cases hb : b < s.bands.length
    · rw [← List.map_set]
      simp [State.band, hb]
    · exact List.set_eq_of_length_le (by simpa using hb)
  simp only [State.sansBudget, List.map_set, same, bands]
  rfl

theorem State.recompute_sansBudget (s : State) (i : Nat) : State.Grows State.sansBudget s (s.recompute i) := by
  rw [State.recompute_eq]
  exact ⟨by simp [State.sansBudget, List.map_const', Marks.ruAlone], fun _ h => h, fun _ h => h, fun h => h⟩

/-- The band's part of `State.gatesReconfigured`. -/
def State.moveBand (old : Nat → BitVec 4) (i : Nat) (s : State) (d : Nat) : State :=
  let now := (s.powerCfg i).bands.getLsbD d
  if (old i).getLsbD d && !now then s.workBand d fun w => w.vacate i .disabled
  else if !(old i).getLsbD d && now && s.eligible d i then
    s.workBand d fun w => w.fresh i (dueInFrame s.now w.band.cfg.hold) (s.isEmergency i)
  else s

theorem State.gatesReconfigured_eq (s : State) (i : Nat) (old : Nat → BitVec 4) :
    s.gatesReconfigured i (old i) = s.each (List.range 4) (State.moveBand old i) := rfl

theorem State.moveBand_cases (s : State) (old : Nat → BitVec 4) (i d : Nat) :
    s.moveBand old i d = s.workBand d (s.moveGate old d i) ∨
      (s.moveBand old i d = s ∧ ∀ w, s.moveGate old d i w = w) := by
  unfold State.moveBand State.moveGate
  dsimp only
  split
  · exact .inl rfl
  · split
    · exact .inl rfl
    · exact .inr ⟨rfl, fun _ => rfl⟩

theorem State.moveBand_grows (s : State) (old : Nat → BitVec 4) (i d : Nat) :
    State.Grows State.sansBudget s (s.moveBand old i d) := by
  rcases s.moveBand_cases old i d with works | ⟨rests, -⟩
  · rw [works]
    exact s.workBand_sansBudget d (s.moveGate_keeps old ⟨s.band d, false⟩)
  · rw [rests]
    exact .refl s

theorem State.moveBand_pbe (s : State) (old : Nat → BitVec 4) (i d : Nat) : (s.moveBand old i d).pbe = s.pbe := by
  rcases s.moveBand_cases old i d with works | ⟨rests, -⟩
  · rw [works, State.workBand_eq]
  · rw [rests]

theorem State.moveBand_band (s : State) (old : Nat → BitVec 4) (i : Nat) {d : Nat} (hd : d < s.bands.length) :
    (s.moveBand old i d).band d = (s.moveGate old d i ⟨s.band d, false⟩).band := by
  rcases s.moveBand_cases old i d with works | ⟨rests, same⟩
  · rw [works, s.workBand_band _ hd]
  · rw [rests, same]

theorem State.moveBand_band_ne (s : State) (old : Nat → BitVec 4) (i : Nat) {b d : Nat} (hb : b ≠ d) :
    (s.moveBand old i d).band b = s.band b := by
  rcases s.moveBand_cases old i d with works | ⟨rests, -⟩
  · rw [works, s.workBand_band_ne _ hb]
  · rw [rests]

theorem State.gatesReconfigured_grows (s : State) (i : Nat) (old : Nat → BitVec 4) :
    State.Grows State.sansBudget s (s.gatesReconfigured i (old i)) :=
  .each (f := State.moveBand old i) fun v d _ => v.moveBand_grows old i d

theorem State.gatesReconfigured_pbe (s : State) (i : Nat) (old : Nat → BitVec 4) :
    (s.gatesReconfigured i (old i)).pbe = s.pbe :=
  State.each_frame State.pbe (f := State.moveBand old i) fun v d _ => v.moveBand_pbe old i d

theorem State.gatesReconfigured_band {s : State} {b : Nat} (hlen : s.bands.length = 4) (hb : b < 4) (i : Nat)
    (old : Nat → BitVec 4) :
    (s.gatesReconfigured i (old i)).band b = (s.moveGate old b i ⟨s.band b, false⟩).band := by
  obtain ⟨v, hv, hvb, -, hend⟩ :=
    State.each_at (fun t => t.band b) (s := s) (p := State.sansBudget) (f := State.moveBand old i)
      List.nodup_range (List.mem_range.2 hb) (fun t d _ => t.moveBand_grows old i d)
      fun t _ d _ hne => t.moveBand_band_ne old i hne.symm
  have length := State.bands_length_of_sansBudget hv.same
  rw [s.gatesReconfigured_eq i old, hend, v.moveBand_band old i (by omega), hvb, State.moveGate_of_sansBudget hv.same]

/-- The unit of index `i`, which had the band enable set `old i`, is recomputed, and the gates of its bands follow (R60, R122). -/
def State.reconfigure (old : Nat → BitVec 4) (s : State) (i : Nat) : State :=
  let u := s.recompute i
  if old i = (u.powerCfg i).bands then u else u.gatesReconfigured i (old i)

theorem State.reconfigure_grows (s : State) (old : Nat → BitVec 4) (i : Nat) :
    State.Grows State.sansBudget s (s.reconfigure old i) := by
  unfold State.reconfigure
  dsimp only
  split
  · exact s.recompute_sansBudget i
  · exact (s.recompute_sansBudget i).trans (State.gatesReconfigured_grows _ i old)

theorem State.reconfigure_allocs (s : State) (old : Nat → BitVec 4) (i : Nat) :
    (s.reconfigure old i).pbe.allocs = s.pbe.allocs.set i (s.computeRecord i) := by
  have computed : (s.recompute i).pbe.allocs = s.pbe.allocs.set i (s.computeRecord i) := by rw [State.recompute_eq]
  unfold State.reconfigure
  dsimp only
  split
  · exact computed
  · rw [State.gatesReconfigured_pbe, computed]

theorem State.reconfigure_allocOf {s : State} (old : Nat → BitVec 4) {i : Nat} (hi : i < s.pbe.allocs.length) :
    (s.reconfigure old i).allocOf i = s.computeRecord i := by
  simp [State.allocOf, State.reconfigure_allocs, hi]

theorem State.reconfigure_allocOf_ne (s : State) (old : Nat → BitVec 4) {i j : Nat} (h : j ≠ i) :
    (s.reconfigure old i).allocOf j = s.allocOf j := by
  simp only [State.allocOf, State.reconfigure_allocs, List.getD_eq_getElem?_getD, List.getElem?_set_ne h.symm]

theorem State.reconfigure_band {s : State} {b : Nat} (hlen : s.bands.length = 4) (hb : b < 4) (old : Nat → BitVec 4) (i : Nat) :
    (s.reconfigure old i).band b = (s.moveGate old b i ⟨s.band b, false⟩).band := by
  have grows := s.recompute_sansBudget i
  have bands : (s.recompute i).bands = s.bands := by rw [State.recompute_eq]
  have moves : (s.recompute i).moveGate old b i ⟨(s.recompute i).band b, false⟩ = s.moveGate old b i ⟨s.band b, false⟩ := by
    rw [State.moveGate_of_sansBudget grows.same, State.band_congr bands]
  unfold State.reconfigure
  dsimp only
  split
  · next same =>
    rw [← moves, State.moveGate_of_same _ old same.symm]
  · rw [State.gatesReconfigured_band (by rw [bands]; exact hlen) hb, moves]

/-! ### The units of a list reconfigured -/

section
variable (s : State) (old : Nat → BitVec 4) {l : List Nat}

theorem State.each_reconfigure_grows : State.Grows State.sansBudget s (s.each l (State.reconfigure old)) :=
  .each fun v i _ => v.reconfigure_grows old i

theorem State.each_reconfigure_allocOf (nodup : l.Nodup) {i : Nat} (hi : i < s.pbe.allocs.length) :
    (s.each l (State.reconfigure old)).allocOf i = if i ∈ l then s.computeRecord i else s.allocOf i := by
  split
  · next mem =>
    obtain ⟨v, hv, -, -, hend⟩ := State.each_at (fun t => t.allocOf i) (s := s) (p := State.sansBudget)
      (f := State.reconfigure old) nodup mem (fun t j _ => t.reconfigure_grows old j)
      fun t _ j _ hne => t.reconfigure_allocOf_ne old hne.symm
    rw [hend, State.reconfigure_allocOf old (by rw [State.allocs_length_of_sansBudget hv.same]; exact hi),
      State.computeRecord_of_sansBudget hv.same]
  · next out =>
    exact State.each_frame (fun t => t.allocOf i) fun t j hj =>
      t.reconfigure_allocOf_ne old (by rintro rfl; exact out hj)

theorem State.each_reconfigure_band (hlen : s.bands.length = 4) {b : Nat} (hb : b < 4) (l : List Nat) :
    (s.each l (State.reconfigure old)).band b = s.moveGates old b l (s.band b) := by
  have folds : ∀ t : State, t.sansBudget = s.sansBudget →
      (t.each l (State.reconfigure old)).band b = s.moveGates old b l (t.band b) := by
    induction l with
    | nil => exact fun _ _ => rfl
    | cons i l ih =>
      intro t same
      rw [State.each_cons, ih _ ((t.reconfigure_grows old i).same.trans same),
        State.reconfigure_band (by rw [State.bands_length_of_sansBudget same]; exact hlen) hb,
        State.moveGate_of_sansBudget same]
      rfl
  exact folds s rfl

end

/-! ### The request (R60) -/

/-- The records of the request written. -/
def State.configured (s : State) (body : List Octet) : State :=
  s.modPbe fun p =>
    { p with cfgs := p.cfgs.zipIdx.map fun x => if (s.powerChanges body).contains x.2 then powerRequest x.1 body else x.1 }

/-- The records written, and the units reconfigured whose record changed. -/
def State.repowered (s : State) (body : List Octet) : State :=
  (s.configured body).each (s.powerChanges body) (State.reconfigure fun i => (s.powerCfg i).bands)

theorem handleSetRuPower_eq (tag : Octet) (body : List Octet) (s : State) :
    handleSetRuPower tag body s = (s.repowered body).answer tag .ok [] := rfl

section
variable {s : State} {body : List Octet} {i : Nat}

theorem State.powerChanges_nodup : (s.powerChanges body).Nodup := (List.nodup_range.filter _).filter _

theorem State.mem_powerChanges :
    i ∈ s.powerChanges body ↔
      i < s.n ∧ (zonesAt body 0).mem i = true ∧ powerRequest (s.powerCfg i) body ≠ s.powerCfg i := by
  simp only [State.powerChanges, State.members, List.mem_filter, List.mem_range, bne_iff_ne, and_assoc]

/-- The record of a position (R59): the present fields of the request, in the zones that it names. -/
theorem State.repowered_powerCfg (cfgs : s.pbe.cfgs.length = s.n) (hi : i < s.n) :
    (s.repowered body).powerCfg i =
      if (zonesAt body 0).mem i = true then powerRequest (s.powerCfg i) body else s.powerCfg i := by
  have written : (s.configured body).powerCfg i =
      if i ∈ s.powerChanges body then powerRequest (s.powerCfg i) body else s.powerCfg i := by
    have hl : i < s.pbe.cfgs.length := by omega
    simp [State.powerCfg, State.configured, hl]
  rw [State.repowered, State.powerCfg_of_sansBudget (State.each_reconfigure_grows _ _).same, written]
  by_cases named : (zonesAt body 0).mem i = true
  · by_cases same : powerRequest (s.powerCfg i) body = s.powerCfg i
    · simp [State.mem_powerChanges, same]
    · rw [if_pos (State.mem_powerChanges.2 ⟨hi, named, same⟩), if_pos named]
  · simp [State.mem_powerChanges, named]

theorem State.mem_powerChanges_iff (cfgs : s.pbe.cfgs.length = s.n) (hi : i < s.n) :
    i ∈ s.powerChanges body ↔ (s.repowered body).powerCfg i ≠ s.powerCfg i := by
  rw [State.mem_powerChanges, State.repowered_powerCfg cfgs hi]
  by_cases named : (zonesAt body 0).mem i = true <;> simp [named, hi]

/-- The positions whose record changed are recomputed, the records of all others stay (R73). -/
theorem State.repowered_allocOf (cfgs : s.pbe.cfgs.length = s.n) (allocs : s.pbe.allocs.length = s.n) (hi : i < s.n) :
    (s.repowered body).allocOf i =
      if (s.repowered body).powerCfg i = s.powerCfg i then s.allocOf i else (s.repowered body).computeRecord i := by
  have same : (s.repowered body).sansBudget = (s.configured body).sansBudget := (State.each_reconfigure_grows _ _).same
  have record := State.each_reconfigure_allocOf (s.configured body) (fun i => (s.powerCfg i).bands)
    (State.powerChanges_nodup (s := s) (body := body)) (i := i) (by rw [← allocs] at hi; exact hi)
  rw [State.computeRecord_of_sansBudget same, State.repowered, record]
  simp only [State.mem_powerChanges_iff cfgs hi, ite_not]
  rfl

end

end Sys2Proof.Machine
end

section
/-! The gates after a SET_RU_POWER (R118, R119, R121, R122): every gate by the change of its unit's band enable set, the gate table
and the places. -/

namespace Sys2Proof.Machine

/-! ### Every gate by the change of its unit's band enable set (R122) -/

/-- What becomes of a gate of band `b` of the unit of index `i`, whose record was the one in `s` and is the one in `u`. -/
def State.GateFollows (s u : State) (b i : Nat) (g h : Gate) : Prop :=
  let was := (s.powerCfg i).bands.getLsbD b
  let now := (u.powerCfg i).bands.getLsbD b
  h.latest = g.latest ∧
    if was = true ∧ now = false then h.state = .disabled ∧ h.hold = none
    else if was = false ∧ now = true ∧ u.eligible b i = true then
      (if s.modeOf i = .emergency then h.state = .forced ∧ h.hold = none
      else if (s.band b).inUse ≤ g.latest then
        (h.state = .opened ∨ h.state = .pending) ∧ h.hold = some (s.now + 4 * (s.band b).cfg.hold + 1)
      else h.state = .closed ∧ h.hold = none)
    else
      h.hold = g.hold ∧
        if g.state = .opened ∨ g.state = .pending then h.state = .opened ∨ h.state = .pending else h.state = g.state

section
variable {s u : State} {b i : Nat} {g h : Gate}

theorem State.gateFollows_of_moved (like : (s.band b).Like (u.band b)) (zmg : u.zmg = s.zmg) (time : u.now = s.now)
    (moved : h.view = (u.movedGate (fun i => (s.powerCfg i).bands) b i g).view) : s.GateFollows u b i g h := by
  have emergency : u.isEmergency i = (s.modeOf i == .emergency) := by rw [State.isEmergency, State.modeOf, zmg]; rfl
  rw [Gate.view_eq_iff] at moved
  unfold State.movedGate Gate.fresh Gate.asking at moved
  rw [emergency, time, like.inUse, like.cfg] at moved
  unfold State.GateFollows dueInFrame at *
  dsimp only at moved ⊢
  by_cases removed : (s.powerCfg i).bands.getLsbD b = true ∧ (u.powerCfg i).bands.getLsbD b = false
  · simp only [removed.1, removed.2] at moved ⊢
    simpa [and_comm] using moved
  · by_cases added : (s.powerCfg i).bands.getLsbD b = false ∧ (u.powerCfg i).bands.getLsbD b = true ∧ u.eligible b i = true
    · simp only [added.1, added.2.1, added.2.2] at moved ⊢
      by_cases forced : s.modeOf i = .emergency
      · simpa [forced, and_comm] using moved
      · by_cases heard : (s.band b).inUse ≤ g.latest
        · simpa [forced, heard, and_comm] using moved
        · simpa [forced, heard, and_comm] using moved
    · have stays : ((s.powerCfg i).bands.getLsbD b && !(u.powerCfg i).bands.getLsbD b) = false := by
        simpa using removed
      have stays' : (!(s.powerCfg i).bands.getLsbD b && (u.powerCfg i).bands.getLsbD b && u.eligible b i) = false := by
        simpa [and_assoc] using added
      rw [if_neg removed, if_neg added]
      simpa only [stays, stays', Bool.false_eq_true, if_false] using moved

/-- The gate table of R118 for one gate of band `b` of the unit of index `i`. -/
def State.GateFits (s : State) (b i : Nat) (g : Gate) : Prop :=
  (g.hold.isSome = true ↔ (g.state = .opened ∨ g.state = .pending)) ∧
    if s.eligible b i then (if s.modeOf i = .emergency then g.state = .forced else g.state ≠ .forced ∧ g.state ≠ .disabled)
    else g.state = .disabled

theorem State.gateLaw_iff (s : State) :
    s.gateLaw ↔ s.zmg.zones.length = s.n ∧ s.bands.length = 4 ∧
      ∀ b ∈ List.range 4, (s.band b).gates.length = s.n ∧ ∀ i ∈ List.range s.n, s.GateFits b i ((s.band b).gate i) := Iff.rfl

/-- A gate that follows its unit's band enable set fits the table again. -/
theorem State.GateFollows.fits (k : s.GateFollows u b i g h) (fits : s.GateFits b i g) (mode : u.modeOf i = s.modeOf i)
    (before : s.eligible b i = (s.isActive i && (s.powerCfg i).bands.getLsbD b && (s.band b).feed))
    (after : u.eligible b i = (s.isActive i && (u.powerCfg i).bands.getLsbD b && (s.band b).feed)) : u.GateFits b i h := by
  obtain ⟨-, moved⟩ := k
  obtain ⟨holds, table⟩ := fits
  unfold State.GateFits
  rw [mode]
  by_cases removed : (s.powerCfg i).bands.getLsbD b = true ∧ (u.powerCfg i).bands.getLsbD b = false
  · rw [if_pos removed] at moved
    obtain ⟨state, hold⟩ := moved
    simp [after, removed.2, state, hold]
  · rw [if_neg removed] at moved
    by_cases added : (s.powerCfg i).bands.getLsbD b = false ∧ (u.powerCfg i).bands.getLsbD b = true ∧ u.eligible b i = true
    · rw [if_pos added] at moved
      rw [if_pos added.2.2]
      by_cases forced : s.modeOf i = .emergency
      · rw [if_pos forced] at moved ⊢
        obtain ⟨state, hold⟩ := moved
        simp [state, hold]
      · rw [if_neg forced] at moved ⊢
        split at moved
        · obtain ⟨state | state, hold⟩ := moved <;> simp [state, hold]
        · obtain ⟨state, hold⟩ := moved
          simp [state, hold]
    · rw [if_neg added] at moved
      obtain ⟨hold, look⟩ := moved
      have same : u.eligible b i = s.eligible b i := by
        rw [after] at added ⊢
        rw [before]
        cases was : (s.powerCfg i).bands.getLsbD b with
        | true => rw [Bool.of_not_eq_false fun now => removed ⟨was, now⟩]
        | false =>
          cases now : (u.powerCfg i).bands.getLsbD b with
          | true =>
            rw [now] at added
            simpa [was] using added
          | false => rfl
      rw [same, hold]
      by_cases asked : g.state = .opened ∨ g.state = .pending
      · rw [if_pos asked] at look
        refine ⟨holds.trans (iff_of_true asked look), ?_⟩
        by_cases on : s.eligible b i = true
        · rw [if_pos on] at table ⊢
          by_cases forced : s.modeOf i = .emergency
          · rw [if_pos forced] at table
            simp [table] at asked
          · rw [if_neg forced]
            rcases look with state | state <;> simp [state]
        · rw [if_neg on] at table
          simp [table] at asked
      · rw [if_neg asked] at look
        rw [look]
        exact ⟨holds, table⟩

end

/-! ### The bands after the request -/

section
variable {s : State} {body : List Octet}

/-- What the request leaves unchanged beside the records of the engine, the gates and the marks. -/
theorem State.repowered_same (s : State) (body : List Octet) : (s.repowered body).sansBudget = (s.configured body).sansBudget :=
  (State.each_reconfigure_grows _ _).same

theorem State.repowered_band (law : s.gateLaw) {b : Nat} (hb : b < 4) :
    (s.repowered body).band b =
      (s.configured body).moveGates (fun i => (s.powerCfg i).bands) b (s.powerChanges body) (s.band b) := by
  obtain ⟨-, length, -⟩ := law
  exact State.each_reconfigure_band (s.configured body) _ length hb _

theorem State.gates_of_changes (law : s.gateLaw) {b : Nat} (hb : b < 4) :
    ∀ i ∈ s.powerChanges body, i < (s.band b).gates.length := by
  intro i mem
  obtain ⟨-, -, gates⟩ := law
  rw [(gates b (List.mem_range.2 hb)).1]
  exact (State.mem_powerChanges.1 mem).1

/-- Every gate follows its unit's band enable set (R122). -/
theorem State.repowered_gate (law : s.gateLaw) (cfgs : s.pbe.cfgs.length = s.n) {b i : Nat} (hb : b < 4) (hi : i < s.n) :
    s.GateFollows (s.repowered body) b i ((s.band b).gate i) (((s.repowered body).band b).gate i) := by
  have same := s.repowered_same body
  have views := (State.moveGates_view (s.configured body) (fun i => (s.powerCfg i).bands) (State.powerChanges_nodup (body := body))
    (.refl (s.band b)) (State.gates_of_changes law hb)).2 i
  refine State.gateFollows_of_moved (State.band_like same b) (congrArg (·.zmg) same) (congrArg (·.now) same) ?_
  rw [State.repowered_band law hb, views]
  split
  · rw [State.movedGate_of_sansBudget same]
  · next out =>
    rw [State.mem_powerChanges_iff cfgs hi, not_not] at out
    rw [State.movedGate_of_same _ _ (congrArg PowerCfg.bands out)]

/-- The places of a band stay filled: a gate that is added was DISABLED (R118, R121). -/
theorem State.repowered_places (law : s.gateLaw) {b : Nat} (hb : b < 4) :
    (s.band b).KeepsPlaces ((s.repowered body).band b) := by
  rw [State.repowered_band law hb]
  refine State.moveGates_places _ _ State.powerChanges_nodup (.refl (s.band b)) (State.gates_of_changes law hb)
    fun i mem removed asked => ?_
  obtain ⟨-, -, gates⟩ := law
  obtain ⟨-, table⟩ := (gates b (List.mem_range.2 hb)).2 i (List.mem_range.2 (State.mem_powerChanges.1 mem).1)
  have off : s.eligible b i = false := by simp [State.eligible, removed]
  rw [if_neg (by simp [off])] at table
  rw [Gate.view_asked, table] at asked
  simp at asked

theorem State.repowered_gateLaw (law : s.gateLaw) (cfgs : s.pbe.cfgs.length = s.n) : (s.repowered body).gateLaw := by
  have same := s.repowered_same body
  have n : (s.repowered body).n = s.n := congrArg (·.lpc.rus.length) same
  have zmg : (s.repowered body).zmg = s.zmg := congrArg (·.zmg) same
  obtain ⟨zones, length, gates⟩ := s.gateLaw_iff.1 law
  rw [State.gateLaw_iff, zmg, n, State.bands_length_of_sansBudget same]
  refine ⟨zones, length, fun b hb => ?_⟩
  have hb4 := List.mem_range.1 hb
  obtain ⟨size, fits⟩ := gates b hb
  have like : (s.band b).Like ((s.repowered body).band b) := State.band_like same b
  refine ⟨like.length.trans size, fun i hi => ?_⟩
  have lpc : (s.repowered body).lpc = s.lpc := congrArg (·.lpc) same
  refine (State.repowered_gate law cfgs hb4 (List.mem_range.1 hi)).fits (fits i hi) ?_ rfl ?_
  · rw [State.modeOf, zmg]
    rfl
  · rw [State.eligible, State.isActive_of_lpc lpc, like.feed]

theorem State.repowered_capacityLaw (law : s.gateLaw) (capacity : s.capacityLaw) : (s.repowered body).capacityLaw := by
  have length : (s.repowered body).bands.length = s.bands.length :=
    (State.bands_length_of_sansBudget (s.repowered_same body)).trans rfl
  obtain ⟨-, four, -⟩ := s.gateLaw_iff.1 law
  intro x hx
  obtain ⟨b, hb, rfl⟩ := List.mem_iff_getElem.1 hx
  have before : s.band b ∈ s.bands := by
    have hs : b < s.bands.length := by omega
    simp [State.band, hs]
  have here : (s.repowered body).bands[b] = (s.repowered body).band b := by simp [State.band, hb]
  rw [here]
  exact (State.repowered_places law (by omega)).within (capacity _ before)

end

/-! ### The request -/

/-- The fields of a record that a request is written over, or that the zone set leaves out (R59, R60). -/
theorem powerRequest_table {cfg old : PowerCfg} {body : List Octet} {named : Bool}
    (written : cfg = if named = true then powerRequest old body else old) :
    cfg.limit = (if named && present16 body 3 0 then max 100 (min (u16 body 5) 20000) else old.limit) ∧
      cfg.broadcast = (if named && present16 body 3 1 then min (u16 body 7) 20000 else old.broadcast) ∧
      cfg.rescue = (if named && present16 body 3 2 then min (u16 body 9) 20000 else old.rescue) ∧
      (named = false → cfg = old) ∧
      (cfg ≠ old → ∀ b ∈ List.range 4,
        cfg.mobile.getD b 0 =
          if present16 body 3 (3 + b) then min (u16 body (11 + 2 * b)) 20000 else old.mobile.getD b 0) ∧
      cfg.programmes = (if named && present16 body 3 7 then (octetAt body 19).setWidth 6 else old.programmes) ∧
      cfg.bands = (if named && present16 body 3 8 then (octetAt body 20).setWidth 4 else old.bands) := by
  subst written
  cases named with
  | false => exact ⟨rfl, rfl, rfl, fun _ => rfl, fun h => absurd rfl h, rfl, rfl⟩
  | true =>
    have clamped : ∀ n, clampRequest n = min n 20000 := fun n => Nat.zero_max _
    refine ⟨rfl, ?_, ?_, Bool.noConfusion, fun _ b hb => ?_, rfl, rfl⟩
    · rw [← clamped]
      rfl
    · rw [← clamped]
      rfl
    · rw [← clamped]
      have hb4 := List.mem_range.1 hb
      simp [powerRequest, hb4, pick]

/-- Settles O23: the present fields are written in the records of the zone set, the changed positions are recomputed, and the gates
of their bands follow. -/
theorem setRuPowerWritesAndRecomputes : Obligations.SetRuPowerWritesAndRecomputes := by
  intro s tag body accepts length cfgs allocs _
  have ⟨⟨_, _, free, _⟩, _⟩ := accepts
  have same := (s.seat 0x20#8 tag).repowered_same body
  refine ⟨((s.seat 0x20#8 tag).repowered body).unseated s.clp.receiver s.clp.slots,
    State.frameIn_replied accepts (by simp [length]) (handleSetRuPower_eq tag body _) (congrArg (·.clp.receiver) same)
      (congrArg (·.clp.slots) same) free, fun i hi => ?_, fun law => ?_, ?_⟩
  · have hi := List.mem_range.1 hi
    obtain ⟨limit, broadcast, rescue, others, mobile, programmes, bands⟩ :=
      powerRequest_table (State.repowered_powerCfg (s := s.seat 0x20#8 tag) (body := body) cfgs hi)
    have record := State.repowered_allocOf (s := s.seat 0x20#8 tag) (body := body) cfgs allocs hi
    exact ⟨limit, broadcast, rescue, others, mobile, programmes, bands, record⟩
  · have law : (s.seat 0x20#8 tag).gateLaw := law
    refine ⟨State.repowered_gateLaw law cfgs, State.repowered_capacityLaw law, fun b hb => ?_⟩
    have hb := List.mem_range.1 hb
    have like : (s.band b).Like (((s.seat 0x20#8 tag).repowered body).band b) := State.band_like same b
    have filled := (State.repowered_places (s := s.seat 0x20#8 tag) (body := body) law hb).filled
    unfold Band.filled at filled
    rw [like.cfg] at filled
    exact ⟨like.cfg, like.inUse, like.feed, filled,
      fun i hi => State.repowered_gate (s := s.seat 0x20#8 tag) (body := body) law cfgs hb (List.mem_range.1 hi)⟩
  · exact ⟨congrArg (·.pbe.bank0) same, congrArg (·.pbe.bank1) same, congrArg (·.lpc) same, congrArg (·.sau) same,
      congrArg (·.zmg) same, congrArg (·.channels) same, congrArg (·.bim) same, congrArg (·.lvq) same, congrArg (·.apl) same,
      congrArg (·.csc) same, congrArg (·.flash) same⟩

end Sys2Proof.Machine
end

section
/-! The power reports of the Rescue Relay (R73, R99): what work on a channel leaves unchanged, and the budget law under it. -/

namespace Sys2Proof.Machine

/-! ### What a recomputation writes (R72, R76) -/

/-- The state without the allocation records and the power-status marks, which alone a recomputation writes. -/
def State.sansPower (s : State) : State :=
  { s with
    pbe := { s.pbe with allocs := s.pbe.allocs.map fun _ => AllocRecord.off }
    clp := { s.clp with marks := { s.clp.marks with power := 0#24 } } }

theorem State.recomputeActive_sansPower (s : State) (i : Nat) : State.Grows State.sansPower s (s.recomputeActive i) := by
  unfold State.recomputeActive
  split
  · rw [State.recompute_eq]
    exact ⟨by simp [State.sansPower, List.map_const'], fun _ h => h, fun _ h => h, fun h => h⟩
  · exact .refl s

theorem State.reportRadiating_sansPower (s : State) (c : Nat) (before : ZoneSet) :
    State.Grows State.sansPower s (s.reportRadiating c before) :=
  .each fun v i _ => v.recomputeActive_sansPower i

section
variable {s t : State} (h : t.sansPower = s.sansPower)
include h

theorem State.allocs_length_of_sansPower : t.pbe.allocs.length = s.pbe.allocs.length := by
  simpa [State.sansPower] using congrArg (·.pbe.allocs.length) h

theorem State.isActive_of_sansPower : t.isActive = s.isActive := show t.sansPower.isActive = s.sansPower.isActive by rw [h]

theorem State.channelMarks_of_sansPower : t.clp.marks.channel = s.clp.marks.channel :=
  show t.sansPower.clp.marks.channel = s.sansPower.clp.marks.channel by rw [h]

/-- The allocation records and the power-status marks are no inputs of a record. -/
theorem State.computeRecord_of_sansPower (i : Nat) : t.computeRecord i = s.computeRecord i :=
  show t.sansPower.computeRecord i = s.sansPower.computeRecord i by rw [h]

/-- Two states alike besides the allocation records and the power-status marks differ in these alone. -/
theorem State.eq_of_sansPower :
    t =
      { s with
        pbe := { s.pbe with allocs := t.pbe.allocs }
        clp := { s.clp with marks := { s.clp.marks with power := t.clp.marks.power } } } :=
  calc t
    _ = { t.sansPower with
          pbe := { t.sansPower.pbe with allocs := t.pbe.allocs }
          clp := { t.sansPower.clp with marks := { t.sansPower.clp.marks with power := t.clp.marks.power } } } := rfl
    _ = _ := by rw [h]; rfl

end

theorem State.recomputeActive_allocOf {s : State} {i : Nat} (hi : i < s.pbe.allocs.length) :
    (s.recomputeActive i).allocOf i = if s.isActive i then s.computeRecord i else s.allocOf i := by
  unfold State.recomputeActive
  split
  · simp [State.recompute_eq, State.allocOf, hi]
  · rfl

theorem State.recomputeActive_allocOf_ne (s : State) {i j : Nat} (h : j ≠ i) :
    (s.recomputeActive i).allocOf j = s.allocOf j := by
  unfold State.recomputeActive
  split
  · simp only [State.recompute_eq, State.allocOf, List.getD_eq_getElem?_getD, List.getElem?_set_ne h.symm]
  · rfl

/-- The ACTIVE units of a list are recomputed, and every other record stays. -/
theorem State.each_recomputeActive_allocOf {s : State} {l : List Nat} (nodup : l.Nodup) {i : Nat}
    (hi : i < s.pbe.allocs.length) :
    (s.each l State.recomputeActive).allocOf i =
      if i ∈ l ∧ s.isActive i = true then s.computeRecord i else s.allocOf i := by
  by_cases named : i ∈ l
  · obtain ⟨v, hv, kept, -, last⟩ := State.each_at (fun t => t.allocOf i) (s := s) (p := State.sansPower) nodup named
      (fun t j _ => t.recomputeActive_sansPower j) fun t _ j _ hne => t.recomputeActive_allocOf_ne hne.symm
    rw [last, State.recomputeActive_allocOf (by rw [State.allocs_length_of_sansPower hv.same]; exact hi),
      State.isActive_of_sansPower hv.same, State.computeRecord_of_sansPower hv.same, kept]
    simp [named]
  · rw [if_neg fun h => named h.1]
    exact State.each_frame (fun t => t.allocOf i) fun t j hj =>
      t.recomputeActive_allocOf_ne (by rintro rfl; exact named hj)

/-! ### Work on a channel: its frame -/

/-- The state that work on a channel hands to the power reports: the record written, the mark set where it is due. -/
def State.channelWritten (s : State) (c : Nat) (w : ChanWork) : State :=
  ({ s with channels := s.channels.set c w.ch } : State).markIf w.mark (·.markChannel c)

theorem State.workChannel_written (s : State) (c : Nat) (f : ChanWork → ChanWork) :
    s.workChannel c f = (s.channelWritten c (f ⟨s.channel c, false⟩)).reportRadiating c (s.radiating (s.channel c)) := rfl

/-- The record and the mark of one channel are all that is written before the power reports. -/
theorem State.channelWritten_eq (s : State) (c : Nat) (w : ChanWork) :
    s.channelWritten c w =
      { s with
        channels := s.channels.set c w.ch
        clp := { s.clp with
          marks := { s.clp.marks with
            channel := if w.mark then s.clp.marks.channel ||| BitVec.twoPow 8 c else s.clp.marks.channel } } } := by
  unfold State.channelWritten
  cases w.mark <;> rfl

theorem State.channelWritten_channel_ne (s : State) {c d : Nat} (w : ChanWork) (h : d ≠ c) :
    (s.channelWritten c w).channel d = s.channel d := by
  simp only [State.channelWritten_eq, State.channel, List.getD_eq_getElem?_getD, List.getElem?_set_ne h.symm]

theorem State.channelWritten_radiates (s : State) (c : Nat) (w : ChanWork) : (s.channelWritten c w).radiates = s.radiates := by
  rw [State.channelWritten_eq]
  rfl

section
variable (s : State) (c : Nat) (f : ChanWork → ChanWork)

theorem State.workChannel_sansPower :
    (s.workChannel c f).sansPower = (s.channelWritten c (f ⟨s.channel c, false⟩)).sansPower :=
  (State.reportRadiating_sansPower _ c _).same

theorem State.workChannel_channelMarks :
    (s.workChannel c f).clp.marks.channel =
      if (f ⟨s.channel c, false⟩).mark then s.clp.marks.channel ||| BitVec.twoPow 8 c else s.clp.marks.channel := by
  rw [State.channelMarks_of_sansPower (s.workChannel_sansPower c f), State.channelWritten_eq]

/-- Work on a channel writes the channels, the allocation records and the marks of channels and power, and nothing else. -/
theorem State.workChannel_frame :
    s.workChannel c f =
      { s with
        channels := (s.workChannel c f).channels
        pbe := { s.pbe with allocs := (s.workChannel c f).pbe.allocs }
        clp := { s.clp with
          marks := { s.clp.marks with
            channel := (s.workChannel c f).clp.marks.channel, power := (s.workChannel c f).clp.marks.power } } } := by
  have reports := State.eq_of_sansPower (s.workChannel_sansPower c f)
  rw [State.channelWritten_eq, ← s.workChannel_channelMarks c f, ← s.workChannel_channels f] at reports
  exact reports

end

/-! ### The budget law under the power reports (R73, R99) -/

/-- The rescue carriers enter the record of a position through what each channel radiates there (R66). -/
theorem State.channelWritten_computeRecord (s : State) (c : Nat) (w : ChanWork) {i : Nat}
    (same : s.radiates ((s.channelWritten c w).channel c) i = s.radiates (s.channel c) i) :
    (s.channelWritten c w).computeRecord i = s.computeRecord i := by
  have rescue : (s.channelWritten c w).rescueCarriers i = s.rescueCarriers i := by
    have each : ∀ d, s.radiates ((s.channelWritten c w).channel d) i = s.radiates (s.channel d) i := by
      intro d
      by_cases h : d = c
      · rw [h, same]
      · rw [s.channelWritten_channel_ne w h]
    unfold State.rescueCarriers
    simp only [State.channelWritten_radiates, each]
  unfold State.computeRecord State.computeRecordFrom State.carriersFrom
  rw [rescue, State.channelWritten_eq]
  rfl

/-- A position that a channel neither joins nor leaves keeps its record (R99). -/
theorem State.channelWritten_computeRecord_of_mem (s : State) (hn : s.n ≤ 24) (c : Nat) (w : ChanWork) {i : Nat} (hi : i < s.n)
    (same : (s.radiating (s.channel c)).mem i =
      ((s.channelWritten c w).radiating ((s.channelWritten c w).channel c)).mem i) :
    (s.channelWritten c w).computeRecord i = s.computeRecord i := by
  have n : (s.channelWritten c w).n = s.n := by rw [State.channelWritten_eq]; rfl
  rw [State.radiating, State.radiating, n, State.channelWritten_radiates, ZoneSet.below_mem _ _ _ hn,
    ZoneSet.below_mem _ _ _ hn] at same
  exact s.channelWritten_computeRecord c w (by simpa [hi] using same.symm)

/-- The ACTIVE positions that have joined or left the radiating set are recomputed, and every other record stays (R99). -/
theorem State.reportRadiating_allocOf {s : State} {i : Nat} (hi : i < s.n) (length : s.pbe.allocs.length = s.n) (c : Nat)
    (before : ZoneSet) :
    (s.reportRadiating c before).allocOf i =
      if before.mem i ≠ (s.radiating (s.channel c)).mem i ∧ s.isActive i = true then s.computeRecord i else s.allocOf i := by
  refine (State.each_recomputeActive_allocOf (List.nodup_range.filter _) (by rw [length]; exact hi)).trans ?_
  simp [hi]

/-- A position that is not reported keeps a record that the law gives it, so after work on a channel every ACTIVE unit holds the record
of the inputs as they then stand. -/
theorem State.workChannel_allocOf {s : State} (law : s.budgetLaw) (hn : s.n ≤ 24) (c : Nat) (f : ChanWork → ChanWork) {i : Nat}
    (hi : i < s.n) :
    (s.workChannel c f).allocOf i = if s.isActive i then (s.workChannel c f).computeRecord i else s.allocOf i := by
  obtain ⟨length, records⟩ := law
  have record := records i (List.mem_range.2 hi)
  rw [State.computeRecord_of_sansPower (s.workChannel_sansPower c f), State.workChannel_written]
  generalize f ⟨s.channel c, false⟩ = w
  have lpc : (s.channelWritten c w).lpc = s.lpc := by rw [State.channelWritten_eq]
  have pbe : (s.channelWritten c w).pbe = s.pbe := by rw [State.channelWritten_eq]
  have n : (s.channelWritten c w).n = s.n := congrArg (·.rus.length) lpc
  have active := State.isActive_of_lpc lpc i
  have kept : (s.channelWritten c w).allocOf i = s.allocOf i := congrArg (·.allocs.getD i AllocRecord.off) pbe
  rw [State.reportRadiating_allocOf (by rw [n]; exact hi) (by rw [pbe, n]; exact length), active, kept]
  by_cases on : s.isActive i = true
  · rw [if_pos on] at record ⊢
    split
    · rfl
    · next stays =>
      rw [record, s.channelWritten_computeRecord_of_mem hn c w hi]
      by_contra moved
      exact stays ⟨moved, on⟩
  · rw [if_neg on, if_neg fun h => on h.2]

/-- Work on a channel keeps the budget law. -/
theorem State.workChannel_budgetLaw {s : State} (law : s.budgetLaw) (hn : s.n ≤ 24) (c : Nat) (f : ChanWork → ChanWork) :
    (s.workChannel c f).budgetLaw := by
  have ⟨length, records⟩ := law
  have lpc : (s.workChannel c f).lpc = s.lpc := by rw [State.workChannel_frame]
  have n : (s.workChannel c f).n = s.n := congrArg (·.rus.length) lpc
  have allocs : (s.workChannel c f).pbe.allocs.length = s.pbe.allocs.length := by
    rw [State.allocs_length_of_sansPower (s.workChannel_sansPower c f), State.channelWritten_eq]
  refine ⟨by rw [allocs, n]; exact length, fun i hi => ?_⟩
  rw [n] at hi
  have record := records i hi
  rw [State.isActive_of_lpc lpc, State.workChannel_allocOf law hn c f (List.mem_range.1 hi)]
  split
  · rfl
  · next off =>
    rw [if_neg off] at record
    exact record

end Sys2Proof.Machine
end

section
/-! DL_ON and DL_OFF at the portal shelf (R84, R86 to R88, R92). -/

namespace Sys2Proof.Machine

/-! ### A change of source and the way out of UP (R93, R112) -/

/-- A source change field by field: the rate rule writes the block flag, and the deferred flag where a change is blocked. -/
theorem Channel.changeSource_eq (ch : Channel) (src : Option Nat) :
    ch.changeSource src =
      { ch with
        source := src
        blockFlag := ch.blockFlag || src != ch.source
        deferred := ch.deferred || (ch.blockFlag && src != ch.source) } := by
  unfold Channel.changeSource
  split
  · next same => subst same; simp
  · next other =>
    have changes : (src != ch.source) = true := bne_iff_ne.2 other
    cases blocked : ch.blockFlag <;> simp [changes]

theorem ChanWork.setSource_changeSource (w : ChanWork) (src : Option Nat) : (w.setSource src).ch = w.ch.changeSource src := by
  unfold ChanWork.setSource Channel.changeSource
  split
  · rfl
  · split <;> rfl

theorem ChanWork.leaveUp_eq (w : ChanWork) (next : ChanState) : w.leaveUp next = ⟨w.ch.leavesUp next, true⟩ := by
  unfold ChanWork.leaveUp Channel.leavesUp
  dsimp only
  rw [ChanWork.setSource_changeSource]

/-! ### The events at one channel (R84) -/

/-- The channel's part of a DL_ON that changes its level. -/
def ChanWork.takesDlOn (w : ChanWork) : ChanWork :=
  let v : ChanWork := ⟨{ w.ch with carrier := true }, true⟩
  if w.ch.cfg.enabled then v.carrierOn else v

/-- The channel's part of a DL_OFF that changes its level, after boundary `now`. -/
def ChanWork.takesDlOff (now : Nat) (w : ChanWork) : ChanWork :=
  let v : ChanWork := ⟨{ w.ch with carrier := false }, true⟩
  if w.ch.cfg.enabled then v.carrierOff now else v

theorem State.takeDlOn_eq (s : State) (c : Nat) :
    s.takeDlOn c = if (s.channel c).carrier then s else s.workChannel c ChanWork.takesDlOn := rfl

theorem State.takeDlOff_eq (s : State) (c : Nat) :
    s.takeDlOff c = if (s.channel c).carrier then s.workChannel c (ChanWork.takesDlOff s.now) else s := rfl

theorem Channel.carrierOn_eq (ch : Channel) :
    ChanWork.carrierOn ⟨{ ch with carrier := true }, true⟩ = ⟨ch.afterDlOn, true⟩ := by
  unfold ChanWork.carrierOn Channel.afterDlOn
  cases state : ch.state with
  | idle => rfl
  | down => simp
  | turn => rfl
  | up =>
    by_cases preempts : ch.cfg.direction = .dlFirst ∧ ch.marker = false
    · simp [preempts, ChanWork.leaveUp_eq, Channel.leavesUp, Channel.changeSource_eq, satInc]
    · have stays : (ch.cfg.direction == .dlFirst && !ch.marker) = false := by simpa using preempts
      simp [preempts, stays]

theorem Channel.carrierOff_eq (ch : Channel) (now : Nat) :
    ChanWork.carrierOff ⟨{ ch with carrier := false }, true⟩ now = ⟨ch.afterDlOff now, true⟩ := by
  unfold ChanWork.carrierOff Channel.afterDlOff
  cases state : ch.state with
  | idle => simp
  | down =>
    dsimp only
    split <;> rfl
  | turn => simp
  | up => simp

theorem ChanWork.takesDlOn_eq (ch : Channel) (mark : Bool) :
    ChanWork.takesDlOn ⟨ch, mark⟩ = ⟨if ch.cfg.enabled then ch.afterDlOn else { ch with carrier := true }, true⟩ := by
  unfold ChanWork.takesDlOn
  dsimp only
  rw [Channel.carrierOn_eq]
  split <;> rfl

theorem ChanWork.takesDlOff_eq (ch : Channel) (mark : Bool) (now : Nat) :
    ChanWork.takesDlOff now ⟨ch, mark⟩ =
      ⟨if ch.cfg.enabled then ch.afterDlOff now else { ch with carrier := false }, true⟩ := by
  unfold ChanWork.takesDlOff
  dsimp only
  rw [Channel.carrierOff_eq]
  split <;> rfl

/-! ### The events at the part -/

section
variable {s : State} (begun : s.begun = true) (c : Fin 8)
include begun

theorem execDlOn_of_begun :
    exec (.dlOn c) s = .next (if (s.channel c).carrier then s.setCarrierPin c true
      else (s.setCarrierPin c true).workChannel c ChanWork.takesDlOn).settle := by
  change Host.Outcome.next (if s.begun then _ else _) = _
  rw [if_pos begun, State.takeDlOn_eq]
  rfl

theorem execDlOff_of_begun :
    exec (.dlOff c) s = .next (if (s.channel c).carrier then (s.setCarrierPin c false).workChannel c (ChanWork.takesDlOff s.now)
      else s.setCarrierPin c false).settle := by
  change Host.Outcome.next (if s.begun then _ else _) = _
  rw [if_pos begun, State.takeDlOff_eq]
  rfl

end

/-- Settles O26: the event that changes the level is work on one channel, which the power reports follow (R99). -/
theorem carrierEventsMoveTheChannel : Obligations.CarrierEventsMoveTheChannel := by
  intro s c begun _ law n
  have law : ∀ level, (s.setCarrierPin c level).budgetLaw := fun _ => law
  refine ⟨fun off => ⟨?_, (s.setCarrierPin c true).workChannel c ChanWork.takesDlOn, ?_, ?_,
      State.workChannel_budgetLaw (law true) n c _, ?_, State.workChannel_frame ..⟩,
    fun on => ⟨?_, (s.setCarrierPin c false).workChannel c (ChanWork.takesDlOff s.now), ?_, ?_,
      State.workChannel_budgetLaw (law false) n c _, ?_, State.workChannel_frame ..⟩⟩
  · rw [execDlOff_of_begun begun, off]
    rfl
  · rw [execDlOn_of_begun begun, off]
    rfl
  · rw [State.workChannel_channels, ChanWork.takesDlOn_eq]
    rfl
  · rw [State.workChannel_channelMarks, ChanWork.takesDlOn_eq]
    rfl
  · rw [execDlOn_of_begun begun, on]
    rfl
  · rw [execDlOff_of_begun begun, on]
    rfl
  · rw [State.workChannel_channels, ChanWork.takesDlOff_eq]
    rfl
  · rw [State.workChannel_channelMarks, ChanWork.takesDlOff_eq]
    rfl

end Sys2Proof.Machine
end

section
/-! The channel timers expire (R88, R89, R91, R94, R108), each as a single event of the frame close (log entry 5). -/

namespace Sys2Proof.Machine

/-! ### A new source in UP: the emergency call and the talk timer (R89, R94, R95) -/

section
variable {w : ChanWork} {j : Nat} (source : w.ch.source = some j) (clear : w.ch.marker = false) (stopped : w.ch.talkT = none)
  (call : Nat → Bool) (due : Nat → Nat)
include source clear stopped

/-- The check before the timer, as at the entry to UP: the talk timer starts unless the source calls. -/
theorem ChanWork.startTalk_callCheck_ch :
    ((w.callCheck call).startTalk due).ch =
      { w.ch with
        marker := call j
        talkT := if call j || w.ch.cfg.talk == 0 then none else some (due (1000 * w.ch.cfg.talk)) } := by
  rw [ChanWork.startTalk_eq, ChanWork.callCheck_eq, clear, source]
  cases calls : call j <;> simp [calls, clear, stopped]

/-- The timer before the check, as after a talk timeout: the same record. -/
theorem ChanWork.callCheck_startTalk_ch :
    ((w.startTalk due).callCheck call).ch =
      { w.ch with
        marker := call j
        talkT := if call j || w.ch.cfg.talk == 0 then none else some (due (1000 * w.ch.cfg.talk)) } := by
  rw [ChanWork.callCheck_eq, ChanWork.startTalk_eq]
  dsimp only
  rw [clear, source]
  cases calls : call j <;> simp [calls, stopped]

end

theorem dueAtClose_seconds (boundary talk : Nat) : dueAtClose boundary (1000 * talk) = boundary + 4000 * talk := by
  unfold dueAtClose
  omega

/-- The record of a channel that enters UP with a best candidate (R89, R108). -/
theorem ChanWork.enterUp_best {w : ChanWork} {b : Candidate} (best : bestCandidate w.ch.cands = some b) (boundary : Nat)
    (call : Nat → Bool) :
    (w.enterUp boundary call).ch =
      { w.ch.changeSource (some b.idx) with
        state := .up, turnT := none, hangT := none, marker := call b.idx
        talkT := if call b.idx || w.ch.cfg.talk == 0 then none else some (boundary + 4000 * w.ch.cfg.talk) } := by
  have taken := ChanWork.setSource_changeSource
    ⟨{ w.ch with state := .up, marker := false, turnT := none, hangT := none, talkT := none }, true⟩ (some b.idx)
  rw [Channel.changeSource_eq] at taken
  unfold ChanWork.enterUp
  rw [best, Channel.changeSource_eq]
  dsimp only [Option.map_some]
  rw [ChanWork.startTalk_callCheck_ch (j := b.idx) (by rw [taken]) (by rw [taken]) (by rw [taken]), taken, dueAtClose_seconds]

/-! ### The turnaround (R88) -/

section
variable {w : ChanWork} (boundary : Nat) (call : Nat → Bool)

/-- With an opening candidate the turnaround leads to UP, with the best candidate. -/
theorem ChanWork.turnExpire_of_opening (ord : InOrder w.ch.cands) (opening : hasOpening w.ch.cfg w.ch.cands = true) :
    ∃ b ∈ w.ch.cands, b.best w.ch.cands ∧
      (w.turnExpire boundary call).ch =
        { w.ch.changeSource (some b.idx) with
          state := .up, turnT := none, hangT := none, marker := call b.idx
          talkT := if call b.idx || w.ch.cfg.talk == 0 then none else some (boundary + 4000 * w.ch.cfg.talk) } := by
  unfold ChanWork.turnExpire
  rw [if_pos opening]
  cases found : bestCandidate w.ch.cands with
  | none =>
    rw [bestCandidate_eq_none.1 found] at opening
    exact Bool.noConfusion opening
  | some b =>
    have best := bestCandidate_best ord found
    exact ⟨b, best.1, best, ChanWork.enterUp_best found boundary call⟩

/-- Without one it leads to IDLE. -/
theorem ChanWork.turnExpire_of_closed (closed : ¬ hasOpening w.ch.cfg w.ch.cands = true) :
    (w.turnExpire boundary call).ch = { w.ch with state := .idle, turnT := none } := by
  unfold ChanWork.turnExpire
  rw [if_neg closed]

end

/-! ### The talk timer (R94) -/

section
variable {w : ChanWork} {i : Nat} (source : w.ch.source = some i) (boundary : Nat) (call : Nat → Bool)
include source

/-- No candidate is left: no source, and the hang timer runs. -/
theorem ChanWork.talkExpire_empty (none_left : (w.ch.cands.filter fun x => x.idx != i) = []) :
    (w.talkExpire boundary call).ch =
      { w.ch.changeSource none with
        lockout := w.ch.lockout ||| ZoneSet.one i, talkouts := satInc w.ch.talkouts, cands := [], talkT := none
        hangT := some (w.ch.hangT.getD (boundary + 4 * w.ch.cfg.hang)) } := by
  unfold ChanWork.talkExpire ChanWork.noCandidate
  rw [source]
  dsimp only
  rw [none_left]
  simp only [bestCandidate, ChanWork.setSource_changeSource, Channel.changeSource_eq]
  cases w.ch.hangT <;> simp [ChanWork.setSource_changeSource, Channel.changeSource_eq, dueAtClose]

/-- A candidate is left: the best of them is the source, and the talk timer starts again unless it calls. -/
theorem ChanWork.talkExpire_best (clear : w.ch.marker = false) {b : Candidate}
    (best : bestCandidate (w.ch.cands.filter fun x => x.idx != i) = some b) :
    (w.talkExpire boundary call).ch =
      { (w.ch.changeSource none).changeSource (some b.idx) with
        lockout := w.ch.lockout ||| ZoneSet.one i, talkouts := satInc w.ch.talkouts
        cands := w.ch.cands.filter fun x => x.idx != i, marker := call b.idx
        talkT := if call b.idx || w.ch.cfg.talk == 0 then none else some (boundary + 4000 * w.ch.cfg.talk) } := by
  unfold ChanWork.talkExpire
  rw [source]
  dsimp only
  rw [best]
  dsimp only
  rw [ChanWork.callCheck_startTalk_ch (j := b.idx)] <;>
    simp [ChanWork.setSource_changeSource, Channel.changeSource_eq, clear, dueAtClose_seconds]

/-- The talk timer locks the source out, and the voter selects among the candidates that are left (R94, R108). -/
theorem ChanWork.talkExpire_selects (ord : InOrder w.ch.cands) (clear : w.ch.marker = false) {new : Channel}
    (hnew : new = (w.talkExpire boundary call).ch) :
    new.lockout = w.ch.lockout ||| ZoneSet.one i ∧ new.talkouts = min (w.ch.talkouts + 1) 65535 ∧ new.state = w.ch.state ∧
      new.cands = w.ch.cands.filter (fun x => x.idx != i) ∧
      if new.cands = [] then
        new.source = none ∧ new.talkT = none ∧
          new.hangT =
            (match w.ch.hangT with
              | some d => some d
              | none => some (boundary + 4 * w.ch.cfg.hang))
      else
        ∃ b ∈ new.cands, b.best new.cands ∧ new.source = some b.idx ∧ new.marker = call b.idx ∧
          new.talkT = if call b.idx || w.ch.cfg.talk == 0 then none else some (boundary + 4000 * w.ch.cfg.talk) := by
  cases found : bestCandidate (w.ch.cands.filter fun x => x.idx != i) with
  | none =>
    have none_left := bestCandidate_eq_none.1 found
    rw [ChanWork.talkExpire_empty source boundary call none_left, Channel.changeSource_eq] at hnew
    subst hnew
    refine ⟨rfl, rfl, rfl, none_left.symm, ?_⟩
    rw [if_pos rfl]
    exact ⟨rfl, rfl, by cases w.ch.hangT <;> rfl⟩
  | some b =>
    have best := bestCandidate_best (ord.filter _) found
    rw [ChanWork.talkExpire_best source boundary call clear found, Channel.changeSource_eq,
      Channel.changeSource_eq] at hnew
    subst hnew
    refine ⟨rfl, rfl, rfl, rfl, ?_⟩
    rw [if_neg (List.ne_nil_of_mem best.1)]
    exact ⟨b, best.1, best, rfl, rfl, rfl⟩

end

/-! ### The single events at the part -/

theorem State.whenOn_of_on {s : State} (on : s.power = .on) (f : State → State) : s.whenOn f = .next (f s).settle := by
  rw [State.whenOn, if_pos on]

section
variable {s : State} {c : Fin 8} (on : s.power = .on) (enabled : (s.channel c).cfg.enabled = true)
include on enabled

theorem execTurnaroundExpiry_of_due (turn : (s.channel c).state = .turn) (due : isDue (s.channel c).turnT (s.now + 1) = true) :
    exec (.turnaroundExpiry c) s =
      .next (s.workChannel c fun w => (s.formCandidates c w).turnExpire (s.now + 1) fun i => s.callOf i c).settle := by
  refine (State.whenOn_of_on on fun s => s.turnTimer c).trans ?_
  simp only [State.turnTimer, enabled, turn, due, beq_self_eq_true, Bool.and_self, if_true]

theorem execHangExpiry_of_due (up : (s.channel c).state = .up) (due : isDue (s.channel c).hangT (s.now + 1) = true) :
    exec (.hangExpiry c) s = .next (s.workChannel c ChanWork.hangExpire).settle := by
  refine (State.whenOn_of_on on fun s => s.hangTimer c).trans ?_
  simp only [State.hangTimer, enabled, up, due, beq_self_eq_true, Bool.and_self, if_true]

theorem execTalkTimeout_of_due (up : (s.channel c).state = .up) (due : isDue (s.channel c).talkT (s.now + 1) = true) :
    exec (.talkTimeout c) s =
      .next (s.workChannel c fun w => (s.formCandidates c w).talkExpire (s.now + 1) fun i => s.callOf i c).settle := by
  refine (State.whenOn_of_on on fun s => s.talkTimer c).trans ?_
  simp only [State.talkTimer, enabled, up, due, beq_self_eq_true, Bool.and_self, if_true]

end

/-- Settles O28: each expiry is work on one channel, with the candidates of that frame. -/
theorem channelTimersExpire : Obligations.ChannelTimersExpire := by
  intro s c on length enabled
  have here : c.val < s.channels.length := by omega
  have ord := s.candidates_inOrder c
  refine ⟨fun turn due => ⟨_, execTurnaroundExpiry_of_due on enabled turn due, State.workChannel_frame .., ?_⟩,
    fun up due => ⟨_, execHangExpiry_of_due on enabled up due, State.workChannel_frame .., ?_⟩,
    fun i source up due clear => ⟨_, execTalkTimeout_of_due on enabled up due, State.workChannel_frame .., ?_⟩⟩
  · rw [State.workChannel_channels]
    split
    · next opening =>
      obtain ⟨b, mem, best, entered⟩ := ChanWork.turnExpire_of_opening (w := s.formCandidates c ⟨s.channel c, false⟩)
        (s.now + 1) (fun i => s.callOf i c) ord opening
      refine ⟨b, mem, best, ?_⟩
      rw [entered, Channel.changeSource_eq, Channel.changeSource_eq]
      rfl
    · next closed =>
      rw [ChanWork.turnExpire_of_closed (w := s.formCandidates c ⟨s.channel c, false⟩) _ _ closed]
      rfl
  · rw [State.workChannel_channels, ChanWork.hangExpire, ChanWork.leaveUp_eq]
  · have written := s.workChannel_channel (fun w => (s.formCandidates c w).talkExpire (s.now + 1) fun i => s.callOf i c) here
    obtain ⟨lockout, talkouts, state, cands, selected⟩ :=
      ChanWork.talkExpire_selects (w := s.formCandidates c ⟨s.channel c, false⟩) source _ _ ord clear written
    exact ⟨lockout, talkouts, state.trans up, cands, selected, fun d _ other => s.workChannel_channel_ne _ other⟩

end Sys2Proof.Machine
end

section
/-! SUPPORT. The channels and the ACTIVE units (R7, R81, R103), of which alone the law of the voter's source speaks: the work of every
block but the Rescue Relay, the Uplink Voter and the Loop Controller leaves them unchanged. One lemma per operation, in the order of
the model. -/

namespace Sys2Proof.Machine

/-! ### The projection -/

/-- What the law of the voter's source speaks of: the channels, and which units are ACTIVE. -/
def State.voting (s : State) : List Channel × (Nat → Bool) := (s.channels, s.isActive)

theorem State.voting_eq {s t : State} (channels : t.channels = s.channels) (active : ∀ i, t.isActive i = s.isActive i) :
    t.voting = s.voting := Prod.ext channels (funext active)

theorem State.voting_of_lpc {s t : State} (channels : t.channels = s.channels) (lpc : t.lpc = s.lpc) : t.voting = s.voting :=
  State.voting_eq channels (State.isActive_of_lpc lpc)

section
variable {s t : State}

theorem State.Grows.voting_allocs (h : State.Grows State.sansAllocs s t) : t.voting = s.voting :=
  (h.map (q := State.voting) State.voting fun _ => rfl).same

theorem State.Grows.voting_gates (h : State.Grows State.sansGates s t) : t.voting = s.voting :=
  (h.map (q := State.voting) State.voting fun _ => rfl).same

theorem State.Grows.voting_players (h : State.Grows State.sansPlayers s t) : t.voting = s.voting :=
  (h.map (q := State.voting) State.voting fun _ => rfl).same

theorem State.Grows.voting_upload (h : State.Grows State.sansUpload s t) : t.voting = s.voting :=
  (h.map (q := State.voting) State.voting fun _ => rfl).same

theorem State.Grows.voting_alarm (h : State.Grows State.sansAlarm s t) : t.voting = s.voting :=
  (h.map (q := State.voting) State.voting fun _ => rfl).same

end

/-! ### Choices and loops -/

@[simp] theorem State.ite_voting (c : Prop) [Decidable c] (s t : State) :
    (if c then s else t).voting = if c then s.voting else t.voting := apply_ite State.voting c s t

@[simp] theorem State.each_voting {s : State} {l : List Nat} {f : State → Nat → State} (hf : ∀ t i, (f t i).voting = t.voting) :
    (s.each l f).voting = s.voting := State.each_frame State.voting fun t i _ => hf t i

@[simp] theorem State.markIf_voting {s : State} {b : Bool} {f : State → State} (hf : ∀ t, (f t).voting = t.voting) :
    (s.markIf b f).voting = s.voting := State.markIf_frame State.voting (hf s)

/-! ### The blocks' records, the marks, the replies -/

section
variable (s : State)

@[simp] theorem State.modClp_voting (f : Clp → Clp) : (s.modClp f).voting = s.voting := rfl
@[simp] theorem State.modSau_voting (f : Sau → Sau) : (s.modSau f).voting = s.voting := rfl
@[simp] theorem State.modZmg_voting (f : Zmg → Zmg) : (s.modZmg f).voting = s.voting := rfl
@[simp] theorem State.modPbe_voting (f : Pbe → Pbe) : (s.modPbe f).voting = s.voting := rfl
@[simp] theorem State.modBands_voting (f : List Band → List Band) : (s.modBands f).voting = s.voting := rfl
@[simp] theorem State.modBim_voting (f : Bim → Bim) : (s.modBim f).voting = s.voting := rfl
@[simp] theorem State.modLvq_voting (f : Lvq → Lvq) : (s.modLvq f).voting = s.voting := rfl
@[simp] theorem State.modApl_voting (f : Apl → Apl) : (s.modApl f).voting = s.voting := rfl
@[simp] theorem State.modCsc_voting (f : Csc → Csc) : (s.modCsc f).voting = s.voting := rfl
@[simp] theorem State.modFlash_voting (f : Flash → Flash) : (s.modFlash f).voting = s.voting := rfl

/-! The marks are proved through `voting_of_lpc` and not by definition, so that `simp` can hand them to `markIf_voting`. -/

@[simp] theorem State.markIncident_voting : s.markIncident.voting = s.voting := State.voting_of_lpc rfl rfl
@[simp] theorem State.markChannel_voting (c : Nat) : (s.markChannel c).voting = s.voting := State.voting_of_lpc rfl rfl
@[simp] theorem State.markLive_voting : s.markLive.voting = s.voting := State.voting_of_lpc rfl rfl
@[simp] theorem State.markPlayer_voting (p : Nat) : (s.markPlayer p).voting = s.voting := State.voting_of_lpc rfl rfl
@[simp] theorem State.markBand_voting (b : Nat) : (s.markBand b).voting = s.voting := State.voting_of_lpc rfl rfl
@[simp] theorem State.markDirectory_voting : s.markDirectory.voting = s.voting := State.voting_of_lpc rfl rfl
@[simp] theorem State.markPart_voting : s.markPart.voting = s.voting := State.voting_of_lpc rfl rfl

@[simp] theorem State.markRu_voting (i : Nat) : (s.markRu i).voting = s.voting := by
  rw [State.markRu_eq]
  rfl

@[simp] theorem State.markSource_voting (src : Source) : (s.markSource src).voting = s.voting := by cases src <;> rfl

@[simp] theorem State.answer_voting (tag : Octet) (st : Status) (fields : List Octet) :
    (s.answer tag st fields).voting = s.voting := rfl

@[simp] theorem State.answerOpt_voting (tag : Option Octet) (st : Status) (fields : List Octet) :
    (s.answerOpt tag st fields).voting = s.voting := (s.answerOpt_grows tag st fields).voting_upload

@[simp] theorem State.answerWaiting_voting (ws : List WaitingData) (st : Status) :
    (s.answerWaiting ws st).voting = s.voting := (s.answerWaiting_grows ws st).voting_upload

/-! ### The Power Budget Engine and the power reports (chapter 04) -/

@[simp] theorem State.recompute_voting (i : Nat) : (s.recompute i).voting = s.voting := (s.recompute_grows i).voting_allocs

@[simp] theorem State.recomputeActive_voting (i : Nat) : (s.recomputeActive i).voting = s.voting :=
  (s.recomputeActive_grows i).voting_allocs

@[simp] theorem State.powerAndRelay_voting (old : State) (z : ZoneSet) : (s.powerAndRelay old z).voting = s.voting :=
  (s.powerAndRelay_grows old z).voting_allocs

/-! ### The gates (chapter 07) -/

@[simp] theorem State.workBand_voting (b : Nat) (f : BandWork → BandWork) : (s.workBand b f).voting = s.voting :=
  (s.workBand_grows b f).voting_gates

@[simp] theorem State.gatesReconfigured_voting (i : Nat) (old : BitVec 4) : (s.gatesReconfigured i old).voting = s.voting := by
  simp [State.gatesReconfigured]

@[simp] theorem State.bandFrames_voting (boundary : Nat) : (s.bandFrames boundary).voting = s.voting :=
  (s.bandFrames_grows boundary).voting_gates

@[simp] theorem State.reportFeed_voting (b : Nat) : (s.reportFeed b).voting = s.voting := by simp [State.reportFeed]

@[simp] theorem State.feedComesUp_voting (b : Nat) : (s.feedComesUp b).voting = s.voting := by simp [State.feedComesUp]

@[simp] theorem State.feedGoesDown_voting (b : Nat) : (s.feedGoesDown b).voting = s.voting := by simp [State.feedGoesDown]

@[simp] theorem State.releaseGates_voting (z : ZoneSet) : (s.releaseGates z).voting = s.voting := by simp [State.releaseGates]

@[simp] theorem State.restartGates_voting : s.restartGates.voting = s.voting := by simp [State.restartGates]

@[simp] theorem State.reformGates_voting (n : Nat) : (s.reformGates n).voting = s.voting := (s.reformGates_grows n).voting_gates

@[simp] theorem State.gateTimer_voting (b i : Nat) : (s.gateTimer b i).voting = s.voting := by simp [State.gateTimer]

/-! ### The Break-in Mixer and the Live Voice Queue (chapter 08) -/

/-- The marks of a list of sources, each under a condition of its own. -/
theorem State.foldl_markSource_voting (l : List Source) (b : Source → Bool) :
    (l.foldl (fun u src => u.markIf (b src) (·.markSource src)) s).voting = s.voting :=
  foldl_frame State.voting l s fun _ src => State.markIf_voting fun u => u.markSource_voting src

@[simp] theorem State.deactivate_voting (src : Source) : (s.deactivate src).voting = s.voting := by simp [State.deactivate]

@[simp] theorem State.chooseWinners_voting (offers : List Offer) : (s.chooseWinners offers).voting = s.voting :=
  State.foldl_markSource_voting _ _ _

@[simp] theorem State.reformWinners_voting (n : Nat) : (s.reformWinners n).voting = s.voting :=
  State.foldl_markSource_voting _ _ _

@[simp] theorem State.clearWinners_voting : s.clearWinners.voting = s.voting := State.foldl_markSource_voting _ _ _

@[simp] theorem State.endLive_voting (r : LiveEndReason) : (s.endLive r).voting = s.voting := by simp [State.endLive]

@[simp] theorem State.starveLimit_voting : s.starveLimit.voting = s.voting := by simp [State.starveLimit]

@[simp] theorem State.lowerLive_voting : s.lowerLive.voting = s.voting := by simp [State.lowerLive]

@[simp] theorem State.liveBoundary_voting : s.liveBoundary.voting = s.voting := by
  unfold State.liveBoundary
  dsimp only
  split
  · rfl
  · rfl
  · split <;> rfl
  · simp
  · split <;> simp

@[simp] theorem State.takeVoice_voting (seq : Octet) (data : List Octet) : (s.takeVoice seq data).voting = s.voting := by
  unfold State.takeVoice
  split <;> simp

/-! ### The Announcement Players (chapter 09) -/

@[simp] theorem State.workPlayer_voting (p : Nat) (f : Player → Player) : (s.workPlayer p f).voting = s.voting :=
  (s.workPlayer_grows p f).voting_players

@[simp] theorem State.endPlayer_voting (p : Nat) (r : PlayEndReason) : (s.endPlayer p r).voting = s.voting :=
  (s.endPlayer_grows p r).voting_players

@[simp] theorem State.walkFrom_voting (p : Nat) (start : Option Nat) (pends : Bool) :
    (s.walkFrom p start pends).voting = s.voting := (s.walkFrom_grows p start pends).voting_players

@[simp] theorem State.afterLast_voting (p : Nat) : (s.afterLast p).voting = s.voting := by simp [State.afterLast]

@[simp] theorem State.offerBlock_voting (p : Nat) : (s.offerBlock p).voting = s.voting := by
  unfold State.offerBlock
  dsimp only
  split
  · simp
  · simp
  · split <;> simp

@[simp] theorem State.cutItem_voting (p : Nat) : (s.cutItem p).voting = s.voting := by simp [State.cutItem]

@[simp] theorem State.playerBoundary_voting (p : Nat) : (s.playerBoundary p).voting = s.voting := by
  unfold State.playerBoundary
  dsimp only
  split
  · split
    · simp
    · split <;> simp
  · rfl

@[simp] theorem State.playerBoundaries_voting : s.playerBoundaries.voting = s.voting := by simp [State.playerBoundaries]

@[simp] theorem State.failItem_voting (p : Nat) : (s.failItem p).voting = s.voting := by simp [State.failItem]

@[simp] theorem State.startPlayer_voting (p prio : Nat) (b : Binding) (head : Nat) :
    (s.startPlayer p prio b head).voting = s.voting := (s.startPlayer_grows p prio b head).voting_players

@[simp] theorem State.stopPlayer_voting (p : Nat) (immediate : Bool) : (s.stopPlayer p immediate).voting = s.voting := by
  unfold State.stopPlayer
  split <;> simp

@[simp] theorem State.setMissing_voting (p : Nat) (v : Bool) : (s.setMissing p v).voting = s.voting := by simp [State.setMissing]

@[simp] theorem State.evacuateAgain_voting (p : Nat) : (s.evacuateAgain p).voting = s.voting := by
  simp [State.evacuateAgain, (State.evacuate_grows _ p).voting_players]

@[simp] theorem State.evacuationEnd_voting : s.evacuationEnd.voting = s.voting := by simp [State.evacuationEnd]

@[simp] theorem State.restartPlayers_voting : s.restartPlayers.voting = s.voting := by simp [State.restartPlayers]

/-! ### The Clip Store Controller (chapter 10) -/

@[simp] theorem State.setDir_voting (slot : Nat) (f : DirEntry → DirEntry) : (s.setDir slot f).voting = s.voting :=
  (s.setDir_grows slot f).voting_players

@[simp] theorem State.damage_voting (slot : Nat) : (s.damage slot).voting = s.voting := s.setDir_voting slot _

@[simp] theorem State.setCopyValid_voting (v : Bool) : (s.setCopyValid v).voting = s.voting := by simp [State.setCopyValid]

@[simp] theorem State.startSettings_voting (level : Option Nat) (tag : Octet) : (s.startSettings level tag).voting = s.voting := by
  simp [State.startSettings]

@[simp] theorem State.startOp_voting (x : FlashOp × FlashOwner) : (s.startOp x).voting = s.voting := rfl

@[simp] theorem State.arbitrate_voting : s.arbitrate.voting = s.voting := by
  rw [State.arbitrate_eq]
  rfl

@[simp] theorem State.freePort_voting (o : PortOp) : (s.freePort o).voting = s.voting := rfl

@[simp] theorem State.verifyArrives_voting (data : List Octet) : (s.verifyArrives data).voting = s.voting := by
  unfold State.verifyArrives
  split
  · rfl
  · dsimp only
    split <;> simp

@[simp] theorem State.modUpload_voting (f : Upload → Upload) : (s.modUpload f).voting = s.voting := by
  unfold State.modUpload
  split <;> simp

@[simp] theorem State.endUpload_voting : s.endUpload.voting = s.voting := rfl

@[simp] theorem State.takeWaiting_voting (fuel : Nat) : (s.takeWaiting fuel).voting = s.voting := by
  induction fuel generalizing s with
  | zero => rfl
  | succ fuel ih =>
    unfold State.takeWaiting
    split
    · rfl
    · split
      · rfl
      · simp [ih]

@[simp] theorem State.abortUpload_voting : s.abortUpload.voting = s.voting := s.abortUpload_grows.voting_upload

@[simp] theorem State.faultUpload_voting : s.faultUpload.voting = s.voting := by
  unfold State.faultUpload
  split
  · rfl
  · dsimp only
    split <;> simp

@[simp] theorem State.closeUpload_voting (u : Upload) (tag : Octet) (st : Status) :
    (s.closeUpload u tag st).voting = s.voting := by simp [State.closeUpload]

theorem State.uploadOpDone_voting {work : State → State} (hw : (work s).voting = s.voting) :
    (s.uploadOpDone work).voting = s.voting := by
  unfold State.uploadOpDone
  split
  · rfl
  · split
    · simp
    · exact hw

@[simp] theorem State.uploadProgrammed_voting (op : FlashOp) : (s.uploadProgrammed op).voting = s.voting := by
  unfold State.uploadProgrammed
  split
  · rfl
  · split <;> simp

@[simp] theorem State.slotErased_voting : s.slotErased.voting = s.voting := by
  unfold State.slotErased
  split <;> simp

@[simp] theorem State.settingsProgrammed_voting : s.settingsProgrammed.voting = s.voting := by
  unfold State.settingsProgrammed
  split <;> simp

@[simp] theorem State.eraseDone_voting (o : FlashOwner) : (s.eraseDone o).voting = s.voting := by
  unfold State.eraseDone
  split
  case h_1 => exact s.uploadOpDone_voting (s.modUpload_voting _)
  case h_2 => exact s.slotErased_voting
  all_goals rfl

@[simp] theorem State.programDone_voting (o : FlashOwner) (op : FlashOp) : (s.programDone o op).voting = s.voting := by
  unfold State.programDone
  split
  case h_1 => exact s.uploadOpDone_voting (s.uploadProgrammed_voting op)
  case h_2 => exact s.settingsProgrammed_voting
  all_goals rfl

@[simp] theorem State.playerReadCompletes_voting : s.playerReadCompletes.voting = s.voting := by
  unfold State.playerReadCompletes
  split
  · rfl
  · split <;> simp

@[simp] theorem State.verifyReadCompletes_voting : s.verifyReadCompletes.voting = s.voting := by
  unfold State.verifyReadCompletes
  split
  · rfl
  · split <;> simp

@[simp] theorem State.programCompletes_voting : s.programCompletes.voting = s.voting := by
  unfold State.programCompletes
  split <;> simp

@[simp] theorem State.eraseCompletes_voting : s.eraseCompletes.voting = s.voting := by
  unfold State.eraseCompletes
  split <;> simp

@[simp] theorem State.restartClips_voting : s.restartClips.voting = s.voting := by simp [State.restartClips]

/-! ### The Zone Manager (chapter 03) -/

@[simp] theorem State.setModes_voting (z : ZoneSet) (m : Mode) : (s.setModes z m).voting = s.voting := rfl

@[simp] theorem State.applyEmergency_voting : s.applyEmergency.voting = s.voting := s.applyEmergency_grows.voting_alarm

@[simp] theorem State.alarmFires_voting : s.alarmFires.voting = s.voting := s.alarmFires_grows.voting_alarm

@[simp] theorem State.alarmTimer_voting : s.alarmTimer.voting = s.voting := by simp [State.alarmTimer]

@[simp] theorem State.normalSet_voting (z : ZoneSet) : (s.normalSet z).voting = s.voting := by simp [State.normalSet]

@[simp] theorem State.installSplit_voting : s.installSplit.voting = s.voting := by simp [State.installSplit]

/-! ### The start-up read and the failures of the flash port (R161, R165) -/

@[simp] theorem State.goRunning_voting : s.goRunning.voting = s.voting := by simp [State.goRunning]

@[simp] theorem State.scanOn_voting (slot : Nat) : (s.scanOn slot).voting = s.voting := by simp [State.scanOn]

@[simp] theorem State.headerRead_voting : s.headerRead.voting = s.voting := by
  unfold State.headerRead
  split
  · rfl
  · split <;> simp

/-! ### The Control Link Port (chapter 11) -/

@[simp] theorem State.pump_voting : s.pump.voting = s.voting := by
  rw [State.pump_eq]
  rfl

@[simp] theorem State.settle_voting : s.settle.voting = s.voting := by simp [State.settle]

@[simp] theorem State.frameSent_voting : s.frameSent.voting = s.voting := by
  unfold State.frameSent
  split <;> rfl

@[simp] theorem State.discard_voting (e : LinkError) : (s.discard e).voting = s.voting := rfl

@[simp] theorem State.octetTimeout_voting : s.octetTimeout.voting = s.voting := by
  unfold State.octetTimeout
  split <;> rfl

@[simp] theorem State.abortOthers_voting (tag : Octet) : (s.abortOthers tag).voting = s.voting :=
  foldl_frame State.voting _ _ fun _ _ => rfl

end

end Sys2Proof.Machine
end

section
/-! The law of the voter's source on one channel (R110), through the work of the Rescue Relay and the Uplink Voter (R82 to R96, R105 to
R109). -/

namespace Sys2Proof.Machine

/-! ### The law of one channel -/

/-- A source is held only in UP, and only one that `may` be held; a disabled channel is IDLE (R81). -/
def Channel.Holds (may : Nat → Prop) (ch : Channel) : Prop :=
  (ch.cfg.enabled = false → ch.state = .idle) ∧ ∀ i ∈ ch.source, ch.state = .up ∧ may i

/-- The sources that a channel may hold, with `active` for the ACTIVE units (R110). -/
def Channel.may (ch : Channel) (active : Nat → Bool) (i : Nat) : Prop :=
  active i = true ∧ ch.cfg.coverage.mem i = true ∧ ch.lockout.mem i = false

/-- The law of the voter's source on one channel (R110). -/
def Channel.Lawful (active : Nat → Bool) (ch : Channel) : Prop := ch.Holds (ch.may active)

section
variable {ch : Channel} {may may' : Nat → Prop} {active active' : Nat → Bool}

theorem Channel.Holds.of_none (idle : ch.cfg.enabled = false → ch.state = .idle) (none : ch.source = none) : ch.Holds may :=
  ⟨idle, fun i held => by rw [none] at held; cases held⟩

theorem Channel.Holds.mono (h : ch.Holds may) (sub : ∀ i ∈ ch.source, may i → may' i) : ch.Holds may' :=
  ⟨h.1, fun i held => ⟨(h.2 i held).1, sub i held (h.2 i held).2⟩⟩

theorem Channel.Lawful.mono (h : ch.Lawful active) (sub : ∀ i, active i = true → active' i = true) : ch.Lawful active' :=
  Channel.Holds.mono h fun i _ may => ⟨sub i may.1, may.2⟩

/-- A channel out of UP holds no source. -/
theorem Channel.Holds.source_none (h : ch.Holds may) (away : ch.state ≠ .up) : ch.source = none :=
  Option.eq_none_iff_forall_not_mem.2 fun i held => away (h.2 i held).1

/-- A channel that is in UP is enabled. -/
theorem Channel.Holds.enabled (h : ch.Holds may) (busy : ch.state ≠ .idle) : ch.cfg.enabled = true := by
  cases on : ch.cfg.enabled with
  | true => rfl
  | false => exact absurd (h.1 on) busy

/-- A source that is dropped leaves a channel that holds none. -/
theorem Channel.Holds.drop (h : ch.Holds may) : Channel.Holds may' { ch with source := none } := .of_none h.1 rfl

theorem Channel.initial_lawful (cfg : ChanCfg) : (Channel.initial cfg).Lawful active := .of_none (fun _ => rfl) rfl

end

/-! ### What the voter takes (R105, R107) -/

theorem bestCandidate_mem {cs : List Candidate} {b : Candidate} (h : bestCandidate cs = some b) : b ∈ cs := by
  induction cs generalizing b with
  | nil => cases h
  | cons x l ih =>
    simp only [bestCandidate] at h
    cases best : bestCandidate l with
    | none =>
      rw [best] at h
      obtain rfl := Option.some.inj h
      exact List.mem_cons_self
    | some y =>
      have tail := List.mem_cons_of_mem x (ih best)
      rw [best] at h
      dsimp only at h
      split at h
      · rwa [← Option.some.inj h]
      · rw [← Option.some.inj h]
        exact List.mem_cons_self

theorem bestCandidate_map_mem {cs : List Candidate} {i : Nat} (h : (bestCandidate cs).map (·.idx) = some i) :
    ∃ x ∈ cs, x.idx = i := by
  obtain ⟨b, best, idx⟩ := Option.map_eq_some_iff.1 h
  exact ⟨b, bestCandidate_mem best, idx⟩

/-- The selection in UP is a candidate. -/
theorem selectSource_mem {cs : List Candidate} {hysteresis i : Nat} {current : Option Nat}
    (h : selectSource cs hysteresis current = some i) : ∃ x ∈ cs, x.idx = i := by
  unfold selectSource at h
  split at h
  · exact bestCandidate_map_mem h
  · next cur found =>
    have stays : ∃ x ∈ cs, x.idx = cur.idx := ⟨cur, List.mem_of_find?_eq_some found, rfl⟩
    split at h
    · exact Option.some.inj h ▸ stays
    · next b best =>
      split at h
      · exact ⟨b, List.mem_of_mem_filter (bestCandidate_mem best), Option.some.inj h⟩
      · exact Option.some.inj h ▸ stays

/-! ### The channel frame (R85 to R90, R94, R95) -/

/-- What every step of a channel frame keeps: the channel is enabled and lawful, and each candidate may be its source. -/
structure Channel.Voting (active : Nat → Bool) (ch : Channel) : Prop where
  enabled : ch.cfg.enabled = true
  lawful : ch.Lawful active
  cands : ∀ x ∈ ch.cands, ch.may active x.idx

/-- An enabled channel that holds no source, or in UP one that it may. -/
theorem Channel.lawful_of_enabled {active : Nat → Bool} {ch : Channel} (enabled : ch.cfg.enabled = true)
    (held : ∀ i ∈ ch.source, ch.state = .up ∧ ch.may active i) : ch.Lawful active :=
  ⟨fun off => absurd (enabled.symm.trans off) (by decide), held⟩

theorem Channel.lawful_of_none {active : Nat → Bool} {ch : Channel} (enabled : ch.cfg.enabled = true) (none : ch.source = none) :
    ch.Lawful active := .of_none (fun off => absurd (enabled.symm.trans off) (by decide)) none

section
variable {active : Nat → Bool} {w : ChanWork}

theorem Channel.Voting.setSource (h : w.ch.Voting active) {src : Option Nat}
    (held : ∀ i ∈ src, w.ch.state = .up ∧ ∃ x ∈ w.ch.cands, x.idx = i) : (w.setSource src).ch.Voting active := by
  rw [ChanWork.setSource_ch]
  refine ⟨h.enabled, Channel.lawful_of_enabled h.enabled fun i here => ?_, h.cands⟩
  obtain ⟨up, x, mem, rfl⟩ := held i here
  exact ⟨up, h.cands x mem⟩

theorem Channel.Voting.dropSource (h : w.ch.Voting active) : (w.setSource none).ch.Voting active :=
  h.setSource fun _ held => absurd held (Option.not_mem_none _)

theorem Channel.Voting.callCheck (h : w.ch.Voting active) (call : Nat → Bool) : (w.callCheck call).ch.Voting active := by
  rw [ChanWork.callCheck_eq]
  split
  · exact ⟨h.enabled, h.lawful, h.cands⟩
  · exact h

theorem Channel.Voting.startTalk (h : w.ch.Voting active) (due : Nat → Nat) : (w.startTalk due).ch.Voting active := by
  rw [ChanWork.startTalk_eq]
  exact ⟨h.enabled, h.lawful, h.cands⟩

theorem Channel.Voting.enterUp (h : w.ch.Voting active) (boundary : Nat) (call : Nat → Bool) :
    (w.enterUp boundary call).ch.Voting active := by
  obtain ⟨_, _, _, _, rfl, -, entered, -⟩ := w.enterUp_ch boundary call
  rw [entered]
  refine ⟨h.enabled, Channel.lawful_of_enabled h.enabled fun i held => ⟨rfl, ?_⟩, h.cands⟩
  obtain ⟨x, mem, rfl⟩ := bestCandidate_map_mem held
  exact h.cands x mem

theorem Channel.Voting.leaveUp (h : w.ch.Voting active) (next : ChanState) : (w.leaveUp next).ch.Voting active := by
  rw [ChanWork.leaveUp_eq]
  unfold Channel.leavesUp
  rw [Channel.changeSource_eq]
  exact ⟨h.enabled, Channel.lawful_of_none h.enabled rfl, h.cands⟩

theorem Channel.Voting.noCandidate (h : w.ch.Voting active) (boundary : Nat) : (w.noCandidate boundary).ch.Voting active := by
  have dropped := h.dropSource
  unfold ChanWork.noCandidate
  dsimp only
  split
  · exact dropped
  · exact ⟨dropped.enabled, dropped.lawful, dropped.cands⟩

/-- The turnaround expires (R88); where it leads to IDLE the channel has held no source. -/
theorem Channel.Voting.turnExpire (h : w.ch.Voting active) (turn : w.ch.state = .turn) (boundary : Nat) (call : Nat → Bool) :
    (w.turnExpire boundary call).ch.Voting active := by
  have none := h.lawful.source_none (by rw [turn]; decide)
  unfold ChanWork.turnExpire
  split
  · exact h.enterUp boundary call
  · exact ⟨h.enabled, .of_none (fun _ => rfl) none, h.cands⟩

/-- The talk timer expires (R94): the source joins the lockout set and leaves the candidates. -/
theorem Channel.Voting.talkExpire (h : w.ch.Voting active) (up : w.ch.state = .up) (boundary : Nat) (call : Nat → Bool) :
    (w.talkExpire boundary call).ch.Voting active := by
  unfold ChanWork.talkExpire
  split
  · exact h
  · next i _ =>
    have fit : ∀ x ∈ w.ch.cands.filter fun x => x.idx != i,
        active x.idx = true ∧ w.ch.cfg.coverage.mem x.idx = true ∧ (w.ch.lockout ||| ZoneSet.one i).mem x.idx = false := by
      intro x mem
      obtain ⟨mem, other⟩ := List.mem_filter.1 mem
      obtain ⟨on, covered, free⟩ := h.cands x mem
      refine ⟨on, covered, ?_⟩
      simp [ZoneSet.mem, ZoneSet.one, BitVec.getLsbD_or, BitVec.getLsbD_twoPow] at free other ⊢
      exact ⟨free, fun _ here => other here.symm⟩
    generalize w.ch.cands.filter (fun x => x.idx != i) = rest at *
    have locked : (ChanWork.setSource
        ⟨{ w.ch with
            lockout := w.ch.lockout ||| ZoneSet.one i
            talkouts := satInc w.ch.talkouts
            talkT := none
            cands := rest }, true⟩ none).ch.Voting active := by
      rw [ChanWork.setSource_ch]
      exact ⟨h.enabled, Channel.lawful_of_none h.enabled rfl, fit⟩
    dsimp only
    split
    · exact locked.noCandidate boundary
    · next b best =>
      refine ((locked.setSource fun j held => ?_).startTalk _).callCheck call
      rw [ChanWork.setSource_ch]
      exact ⟨up, b, bestCandidate_mem best, Option.some.inj held⟩

theorem Channel.Voting.frameSummary (h : w.ch.Voting active) (boundary : Nat) (call : Nat → Bool) :
    (w.frameSummary boundary call).ch.Voting active := by
  unfold ChanWork.frameSummary
  split
  · split
    · exact h.enterUp boundary call
    · exact h
  · exact h
  · exact h
  · next up =>
    split
    · exact h.noCandidate boundary
    · have selected := h.setSource (src := selectSource w.ch.cands w.ch.cfg.hysteresis w.ch.source) fun i held =>
        ⟨up, selectSource_mem held⟩
      dsimp only
      split
      · exact selected
      · refine Channel.Voting.startTalk ?_ _
        exact ⟨selected.enabled, selected.lawful, selected.cands⟩

theorem Channel.Voting.frameCall (h : w.ch.Voting active) (call : Nat → Bool) : (w.frameCall call).ch.Voting active := by
  unfold ChanWork.frameCall
  split
  · exact h.callCheck call
  · exact h
  · exact h
  · exact h

theorem Channel.Voting.frameTimers (h : w.ch.Voting active) (boundary : Nat) (call : Nat → Bool) :
    (w.frameTimers boundary call).ch.Voting active := by
  unfold ChanWork.frameTimers
  split
  · next turn =>
    split
    · exact h.turnExpire turn boundary call
    · exact h
  · next up =>
    split
    · exact h.leaveUp _
    · split
      · exact h.talkExpire up boundary call
      · exact h
  · exact h
  · exact h

theorem Channel.Voting.frame (h : w.ch.Voting active) (boundary : Nat) (call : Nat → Bool) :
    (w.frame boundary call).ch.Voting active :=
  ((h.frameSummary boundary call).frameCall call).frameTimers boundary call

end

/-! ### Units that leave ACTIVE (R96, R109) -/

/-- The unit that leaves ACTIVE is no longer a source, and no other source joins the lockout set. -/
theorem ChanWork.unitLeaves_lawful {active : Nat → Bool} {w : ChanWork} (h : w.ch.Lawful active) (i : Nat) :
    (w.unitLeaves i).ch.Lawful fun j => active j && j != i := by
  unfold ChanWork.unitLeaves
  dsimp only
  split
  · rw [ChanWork.setSource_ch]
    exact h.drop
  · next other =>
    refine ⟨h.1, fun j held => ?_⟩
    obtain ⟨up, on, covered, free⟩ := h.2 j held
    have ne : j ≠ i := by rintro rfl; exact other held
    exact ⟨up, by simp [on, ne], covered, by rw [ZoneSet.mem_andNot_one, free]; rfl⟩

/-! ### Carrier events (R84, R86 to R88, R92) -/

theorem Channel.afterDlOn_lawful {active : Nat → Bool} {ch : Channel} (h : ch.Lawful active) (on : ch.cfg.enabled = true) :
    ch.afterDlOn.Lawful active := by
  unfold Channel.afterDlOn
  split
  · next idle => exact Channel.lawful_of_none on (h.source_none (by rw [idle]; decide))
  · exact h
  · next turn => exact Channel.lawful_of_none on (h.source_none (by rw [turn]; decide))
  · split
    · unfold Channel.leavesUp
      rw [Channel.changeSource_eq]
      exact Channel.lawful_of_none on rfl
    · exact h

theorem Channel.afterDlOff_lawful {active : Nat → Bool} {ch : Channel} (h : ch.Lawful active) (now : Nat) :
    (ch.afterDlOff now).Lawful active := by
  unfold Channel.afterDlOff
  split
  · exact h
  · next down =>
    have on := h.enabled (by rw [down]; decide)
    have none := h.source_none (by rw [down]; decide)
    split
    · exact Channel.lawful_of_none on none
    · exact Channel.lawful_of_none on none
  · exact h
  · exact h

/-! ### SET_CHANNEL and RESTART (R83, R102) -/

/-- A channel that is disabled is IDLE without a source, its configuration kept. -/
theorem ChanWork.disable_at_rest (w : ChanWork) :
    w.disable.ch.cfg = w.ch.cfg ∧ w.disable.ch.state = .idle ∧ w.disable.ch.source = none := by
  unfold ChanWork.disable
  dsimp only
  split
  · rw [ChanWork.leaveUp_eq]
    unfold Channel.leavesUp
    rw [Channel.changeSource_eq]
    exact ⟨rfl, rfl, rfl⟩
  · rw [ChanWork.setSource_ch]
    exact ⟨rfl, rfl, rfl⟩

theorem ChanWork.disable_holds (w : ChanWork) {may : Nat → Prop} : w.disable.ch.Holds may :=
  have ⟨_, idle, vacant⟩ := w.disable_at_rest
  .of_none (fun _ => idle) vacant

theorem ChanWork.rest_lawful (w : ChanWork) {active : Nat → Bool} : w.rest.ch.Lawful active := w.disable_holds

/-- RESTART: an enabled channel whose carrier is on goes from rest to DOWN (R102). -/
theorem Channel.Lawful.restDown {active : Nat → Bool} {ch : Channel} (h : ch.Lawful active) (rest : ch.state = .idle)
    (on : ch.cfg.enabled = true) : Channel.Lawful active { ch with state := .down } :=
  Channel.lawful_of_none on (h.source_none (by rw [rest]; decide))

/-- The new record taken, with what a change of its enabled flag does to the channel (R83). -/
def ChanWork.switched (w : ChanWork) (cfg : ChanCfg) : ChanWork :=
  let v : ChanWork := ⟨{ w.ch with cfg := cfg }, w.mark⟩
  let v := if w.ch.cfg.enabled && !cfg.enabled then v.disable else v
  if !w.ch.cfg.enabled && cfg.enabled && v.ch.carrier then ⟨{ v.ch with state := .down }, true⟩ else v

/-- The lockout set and the source held to the new coverage (R83). -/
def ChanWork.narrowed (v : ChanWork) (coverage : ZoneSet) : ChanWork :=
  let kept := v.ch.lockout &&& coverage
  let v : ChanWork := ⟨{ v.ch with lockout := kept }, v.mark || kept != v.ch.lockout⟩
  match v.ch.source with
  | some i => if coverage.mem i then v else v.setSource none
  | none => v

/-- The talk timer after a change of the talk timeout from `old` (R83). -/
def ChanWork.retimed (v : ChanWork) (old talk now : Nat) : ChanWork :=
  if talk = old then v
  else if talk = 0 then ⟨{ v.ch with talkT := none }, v.mark⟩
  else if v.ch.state == .up && v.ch.talkT.isNone && !v.ch.marker && v.ch.source.isSome then v.startTalk (dueInFrame now)
  else v

theorem ChanWork.configure_eq (w : ChanWork) (cfg : ChanCfg) (now : Nat) :
    w.configure cfg now = ((w.switched cfg).narrowed cfg.coverage).retimed w.ch.cfg.talk cfg.talk now := rfl

/-- A channel that takes a new record holds at most a source that is ACTIVE and not locked out. -/
theorem ChanWork.switched_holds {w : ChanWork} {active : Nat → Bool} (h : w.ch.Lawful active) (cfg : ChanCfg) :
    (w.switched cfg).ch.cfg = cfg ∧
      (w.switched cfg).ch.Holds fun i => active i = true ∧ (w.switched cfg).ch.lockout.mem i = false := by
  have kept : ∀ i ∈ w.ch.source, w.ch.state = .up ∧ active i = true ∧ w.ch.lockout.mem i = false := fun i held =>
    have ⟨up, on, _, free⟩ := h.2 i held
    ⟨up, on, free⟩
  cases was : w.ch.cfg.enabled <;> cases now : cfg.enabled
  case false.true =>
    have none := h.source_none (by rw [h.1 was]; decide)
    have on : cfg.enabled ≠ false := by rw [now]; decide
    have turned : w.switched cfg =
        if w.ch.carrier then ⟨{ w.ch with cfg := cfg, state := .down }, true⟩ else ⟨{ w.ch with cfg := cfg }, w.mark⟩ := by
      unfold ChanWork.switched
      rw [was, now]
      rfl
    rw [turned]
    split <;> exact ⟨rfl, .of_none (fun off => absurd off on) none⟩
  case true.false =>
    have turned : w.switched cfg = ChanWork.disable ⟨{ w.ch with cfg := cfg }, w.mark⟩ := by
      unfold ChanWork.switched
      rw [was, now]
      rfl
    rw [turned]
    exact ⟨(ChanWork.disable_at_rest _).1, ChanWork.disable_holds _⟩
  all_goals
    have same : w.switched cfg = ⟨{ w.ch with cfg := cfg }, w.mark⟩ := by
      unfold ChanWork.switched
      rw [was, now]
      rfl
    rw [same]
    exact ⟨rfl, fun off => h.1 (was.trans (now.symm.trans off)), kept⟩

theorem ChanWork.narrowed_lawful {v : ChanWork} {active : Nat → Bool}
    (h : v.ch.Holds fun i => active i = true ∧ v.ch.lockout.mem i = false) :
    (v.narrowed v.ch.cfg.coverage).ch.Lawful active := by
  unfold ChanWork.narrowed
  dsimp only
  split
  · next i held =>
    split
    · next covered =>
      refine ⟨h.1, fun j here => ?_⟩
      obtain rfl := Option.some.inj (held.symm.trans here)
      obtain ⟨up, on, free⟩ := h.2 i held
      refine ⟨up, on, covered, ?_⟩
      simp only [ZoneSet.mem, BitVec.getLsbD_and] at free ⊢
      rw [free, Bool.false_and]
    · rw [ChanWork.setSource_ch]
      exact h.drop
  · next none => exact .of_none h.1 none

/-- SET_CHANNEL keeps the law of the channel it writes (R83). -/
theorem ChanWork.configure_lawful {w : ChanWork} {active : Nat → Bool} (h : w.ch.Lawful active) (cfg : ChanCfg) (now : Nat) :
    (w.configure cfg now).ch.Lawful active := by
  obtain ⟨recorded, holds⟩ := w.switched_holds h cfg
  have narrowed := ChanWork.narrowed_lawful holds
  rw [recorded] at narrowed
  rw [ChanWork.configure_eq]
  unfold ChanWork.retimed
  split
  · exact narrowed
  · split
    · exact narrowed
    · split
      · rw [ChanWork.startTalk_eq]
        exact narrowed
      · exact narrowed

end Sys2Proof.Machine
end

section
/-! The law of the voter's source on the part (R110), through the work of the Rescue Relay and the Loop Controller on its channels and
units. -/

namespace Sys2Proof.Machine

/-! ### The law, channel by channel -/

/-- The eight channels are lawful, with `active` for the ACTIVE units. -/
def State.VotersFit (s : State) (active : Nat → Bool) : Prop := s.channels.length = 8 ∧ ∀ ch ∈ s.channels, ch.Lawful active

/-- The law of the part is that of its eight channels, with the units that are ACTIVE. -/
theorem State.voterLaw_iff (s : State) : s.voterLaw ↔ s.VotersFit s.isActive := .rfl

section
variable {s t : State} {active active' : Nat → Bool}

theorem State.VotersFit.of_channels (h : s.VotersFit active) (channels : t.channels = s.channels) : t.VotersFit active := by
  unfold State.VotersFit
  rwa [channels]

theorem State.VotersFit.mono (h : s.VotersFit active) (sub : ∀ i, active i = true → active' i = true) : s.VotersFit active' :=
  ⟨h.1, fun ch mem => (h.2 ch mem).mono sub⟩

/-- Where the channels stand, the law stands so long as no unit leaves ACTIVE. -/
theorem State.voterLaw.of_stays (law : s.voterLaw) (channels : t.channels = s.channels)
    (stays : ∀ i, s.isActive i = true → t.isActive i = true) : t.voterLaw :=
  State.VotersFit.mono (State.VotersFit.of_channels law channels) stays

theorem State.voterLaw.of_voting (law : s.voterLaw) (h : t.voting = s.voting) : t.voterLaw :=
  law.of_stays (congrArg Prod.fst h) fun i on => (congrFun (congrArg Prod.snd h) i).trans on

theorem State.channel_mem (length : s.channels.length = 8) {c : Nat} (hc : c < 8) : s.channel c ∈ s.channels := by
  have here : c < s.channels.length := by omega
  rw [State.channel, List.getD_eq_getElem _ _ here]
  exact List.getElem_mem here

theorem State.VotersFit.channel (h : s.VotersFit active) {c : Nat} (hc : c < 8) : (s.channel c).Lawful active :=
  h.2 _ (State.channel_mem h.1 hc)

theorem State.VotersFit.of_channel (length : s.channels.length = 8) (each : ∀ c < 8, (s.channel c).Lawful active) :
    s.VotersFit active := by
  refine ⟨length, fun ch mem => ?_⟩
  obtain ⟨c, hc, rfl⟩ := List.getElem_of_mem mem
  rw [← List.getD_eq_getElem _ (Channel.initial ChanCfg.default) hc]
  exact each c (by omega)

/-- A channel's record replaced by a lawful one. -/
theorem State.VotersFit.set (h : s.VotersFit active) {ch : Channel} (lawful : ch.Lawful active) {c : Nat}
    (channels : t.channels = s.channels.set c ch) : t.VotersFit active := by
  refine ⟨by rw [channels, List.length_set, h.1], fun x mem => ?_⟩
  rw [channels] at mem
  obtain mem | rfl := List.mem_or_eq_of_mem_set mem
  · exact h.2 x mem
  · exact lawful

end

/-! ### Work on a channel -/

theorem State.workChannel_lpc (s : State) (c : Nat) (f : ChanWork → ChanWork) : (s.workChannel c f).lpc = s.lpc :=
  (s.workChannel_grows c f).lpc_relay

theorem State.voterLaw.workChannel {s : State} (law : s.voterLaw) {c : Nat} {f : ChanWork → ChanWork}
    (lawful : (f ⟨s.channel c, false⟩).ch.Lawful s.isActive) : (s.workChannel c f).voterLaw :=
  State.VotersFit.mono (State.VotersFit.set law lawful (s.workChannel_channels f)) fun i on =>
    (State.isActive_of_lpc (s.workChannel_lpc c f) i).trans on

/-- The candidates of a channel are units that it may hold (R105). -/
theorem State.candidates_may {s : State} {c : Nat} {x : Candidate} (h : x ∈ s.candidates c) :
    (s.channel c).may s.isActive x.idx := by
  obtain ⟨i, mem, rfl⟩ := List.mem_map.1 h
  have member := (List.mem_filter.1 mem).2
  simp only [Bool.and_eq_true, Bool.not_eq_true'] at member
  obtain ⟨⟨⟨on, covered⟩, free⟩, -⟩ := member
  exact ⟨on, covered, free⟩

/-- An enabled channel on whose candidates, formed afresh, its timers expire. -/
theorem State.voterLaw.voting_formed {s : State} (law : s.voterLaw) {c : Nat} (hc : c < 8)
    (on : (s.channel c).cfg.enabled = true) : (s.formCandidates c ⟨s.channel c, false⟩).ch.Voting s.isActive :=
  ⟨on, State.VotersFit.channel law hc, fun _ mem => State.candidates_may mem⟩

/-- The lockout release takes positions out of the lockout set, and adds none (R96). -/
theorem State.keptLockout_mem {s : State} {c i : Nat} (free : (s.channel c).lockout.mem i = false) :
    (s.keptLockout c).mem i = false := by
  unfold State.keptLockout
  rw [ZoneSet.below_mem _ _ _ (le_refl 24), free]
  simp

theorem State.voterLaw.channelFrame {s : State} (law : s.voterLaw) (boundary : Nat) {c : Nat} (hc : c < 8) :
    (s.channelFrame boundary c).voterLaw := by
  unfold State.channelFrame
  split
  · next on =>
    refine law.workChannel (Channel.Voting.lawful (Channel.Voting.frame ⟨on, ?_, fun x mem => ?_⟩ boundary _))
    · exact Channel.Holds.mono (State.VotersFit.channel law hc) fun i _ ⟨live, covered, free⟩ =>
        ⟨live, covered, State.keptLockout_mem free⟩
    · obtain ⟨live, covered, free⟩ := State.candidates_may mem
      exact ⟨live, covered, State.keptLockout_mem free⟩
  · exact law

theorem State.voterLaw.each {s : State} {l : List Nat} {f : State → Nat → State} (law : s.voterLaw)
    (hf : ∀ t, ∀ i ∈ l, t.voterLaw → (f t i).voterLaw) : (s.each l f).voterLaw := State.each_keeps hf law

theorem State.voterLaw.channelFrames {s : State} (law : s.voterLaw) (boundary : Nat) : (s.channelFrames boundary).voterLaw :=
  law.each fun _ _ mem law => law.channelFrame boundary (List.mem_range.1 mem)

/-! ### The timers of a channel (R88, R91, R94) -/

section
variable {s : State} (law : s.voterLaw) {c : Nat} (hc : c < 8)
include law hc

theorem State.voterLaw.turnTimer : (s.turnTimer c).voterLaw := by
  unfold State.turnTimer
  dsimp only
  split
  · next due =>
    simp only [Bool.and_eq_true, beq_iff_eq] at due
    obtain ⟨⟨on, turn⟩, -⟩ := due
    exact law.workChannel ((law.voting_formed hc on).turnExpire turn _ _).lawful
  · exact law

omit hc in
theorem State.voterLaw.hangTimer : (s.hangTimer c).voterLaw := by
  unfold State.hangTimer
  dsimp only
  split
  · next due =>
    simp only [Bool.and_eq_true, beq_iff_eq] at due
    obtain ⟨⟨on, -⟩, -⟩ := due
    refine law.workChannel ?_
    rw [ChanWork.hangExpire, ChanWork.leaveUp_eq]
    unfold Channel.leavesUp
    rw [Channel.changeSource_eq]
    exact Channel.lawful_of_none on rfl
  · exact law

theorem State.voterLaw.talkTimer : (s.talkTimer c).voterLaw := by
  unfold State.talkTimer
  dsimp only
  split
  · next due =>
    simp only [Bool.and_eq_true, beq_iff_eq] at due
    obtain ⟨⟨on, up⟩, -⟩ := due
    exact law.workChannel ((law.voting_formed hc on).talkExpire up _ _).lawful
  · exact law

/-! ### Carrier events (R84) -/

theorem State.voterLaw.takeDlOn : (s.takeDlOn c).voterLaw := by
  rw [State.takeDlOn_eq]
  split
  · exact law
  · refine law.workChannel ?_
    rw [ChanWork.takesDlOn_eq]
    dsimp only
    split
    · next on => exact Channel.afterDlOn_lawful (State.VotersFit.channel law hc) on
    · exact State.VotersFit.channel law hc

theorem State.voterLaw.takeDlOff : (s.takeDlOff c).voterLaw := by
  rw [State.takeDlOff_eq]
  split
  · refine law.workChannel ?_
    rw [ChanWork.takesDlOff_eq]
    dsimp only
    split
    · exact Channel.afterDlOff_lawful (State.VotersFit.channel law hc) _
    · exact State.VotersFit.channel law hc
  · exact law

/-! ### RESTART and the audio block boundary (R102, R112) -/

/-- RESTART at one channel: to rest, and on to DOWN where it is enabled with its carrier on. -/
theorem State.voterLaw.restartChannel :
    ((s.workChannel c ChanWork.rest).workChannel c fun w =>
      if w.ch.cfg.enabled && w.ch.carrier then ⟨{ w.ch with state := .down }, true⟩ else w).voterLaw := by
  have rested : (s.workChannel c ChanWork.rest).voterLaw := law.workChannel (ChanWork.rest_lawful _)
  have idle : ((s.workChannel c ChanWork.rest).channel c).state = .idle := by
    rw [s.workChannel_channel _ (by rw [law.1]; exact hc)]
    exact (ChanWork.disable_at_rest ⟨s.channel c, false⟩).2.1
  have lawful := State.VotersFit.channel rested hc
  refine rested.workChannel ?_
  dsimp only
  split
  · next both => exact lawful.restDown idle (Bool.and_eq_true_iff.1 both).1
  · exact lawful

end

theorem State.voterLaw.restartChannels {s : State} (law : s.voterLaw) : s.restartChannels.voterLaw :=
  law.each fun _ _ mem law => law.restartChannel (List.mem_range.1 mem)

theorem State.voterLaw.voterBoundary {s : State} (law : s.voterLaw) : s.voterBoundary.voterLaw := by
  refine law.each fun t c mem law => ?_
  refine State.voterLaw.of_voting (s := t.modChannels fun l => l.set c _) ?_ (State.markIf_voting fun u => u.markChannel_voting c)
  have lawful := State.VotersFit.channel law (List.mem_range.1 mem)
  exact State.VotersFit.mono
    (State.VotersFit.set law (ch := { t.channel c with blockFlag := (t.channel c).deferred, deferred := false }) lawful rfl)
    fun _ on => on

/-- The outputs taken write of a channel the keyed item alone (R98). -/
theorem State.voterLaw.latchOutputs {s : State} (law : s.voterLaw) : s.latchOutputs.voterLaw := by
  cases on : s.loopOn with
  | false =>
    unfold State.latchOutputs
    rw [on]
    exact law
  | true =>
    have active : ∀ i, s.latchOutputs.isActive i = s.isActive i := State.isActive_of_lpc s.latchOutputs_lpc
    refine State.VotersFit.mono (State.VotersFit.of_channel ?_ fun c hc => ?_) fun i live => (active i).trans live
    · rw [State.latchOutputs_on on]
      simp [law.1]
    · rw [State.latchOutputs_channel on (by rw [law.1]; exact hc)]
      exact State.VotersFit.channel law hc

theorem State.voterLaw.handleSetChannel {s : State} (law : s.voterLaw) (tag : Octet) (body : List Octet) :
    (handleSetChannel tag body s).voterLaw := by
  unfold Machine.handleSetChannel
  dsimp only
  split
  · exact law.of_voting (s.answer_voting ..)
  · next range =>
    split
    · exact law.of_voting (s.answer_voting ..)
    · split
      · exact law.of_voting (s.answer_voting ..)
      · refine (law.workChannel ?_).of_voting (State.answer_voting ..)
        exact ChanWork.configure_lawful (State.VotersFit.channel law (by omega)) _ _

end Sys2Proof.Machine
end

section
/-! The law of the voter's source through the loop (R6 to R36, R96, R109): the standings that a frame close or a single event of it
changes, the boundaries, and the loop re-formed. -/

namespace Sys2Proof.Machine

/-! ### Entries whose unit keeps its standing -/

/-- An entry changed but for its state (R7). -/
theorem State.modRu_voting (s : State) (i : Nat) {f : RuEntry → RuEntry} (hf : ∀ r, (f r).state = r.state) :
    (s.modRu i f).voting = s.voting := by
  refine State.voting_eq rfl fun j => ?_
  simp only [State.isActive, State.ru, State.modRu_eq, List.getD_eq_getElem?_getD, List.getElem?_modify]
  split
  · cases s.lpc.rus[j]? with
    | none => rfl
    | some r => simp [hf]
  · cases s.lpc.rus[j]? <;> rfl

theorem RuEntry.modView_state (r : RuEntry) (e : ChainEnd) (f : EndView → EndView) : (r.modView e f).state = r.state := by
  cases e <;> rfl

@[simp] theorem State.swing_voting (s : State) (i : Nat) (e : ChainEnd) : (s.swing i e).voting = s.voting :=
  (State.markRu_voting _ i).trans (s.modRu_voting i fun _ => rfl)

theorem State.updateReach_voting (s : State) : s.updateReach.voting = s.voting := by
  refine State.voting_eq s.updateReach_grows.channels_lpc fun i => ?_
  by_cases hi : i < s.n
  · rw [State.isActive, s.updateReach_ru hi]
    rfl
  · rw [State.isActive_of_le (by rw [State.updateReach_n]; omega), State.isActive_of_le (by omega)]

@[simp] theorem State.healTimer_voting (s : State) (i : Nat) : (s.healTimer i).voting = s.voting := by
  simp [State.healTimer, State.healExpire]

/-! ### The epoch boundary (R17, R18, R29 to R31) -/

@[simp] theorem State.surveyEnd_voting (s : State) (i : Nat) (e : ChainEnd) : (s.surveyEnd i e).voting = s.voting := by
  unfold State.surveyEnd
  dsimp only
  split
  · split
    · rfl
    · exact (State.markIf_voting fun t => t.markRu_voting i).trans (s.modRu_voting i fun r => r.modView_state e _)
  · rfl

@[simp] theorem State.survey_voting (s : State) : s.survey.voting = s.voting := by simp [State.survey]

@[simp] theorem State.alignAll_voting (s : State) : s.alignAll.voting = s.voting := by
  unfold State.alignAll
  exact State.each_voting fun t i => (State.markIf_voting fun u => u.markRu_voting i).trans (t.modRu_voting i fun _ => rfl)

theorem State.voterLaw.epochBoundary {s : State} (law : s.voterLaw) : s.epochBoundary.voterLaw :=
  State.voterLaw.latchOutputs (law.of_voting ((State.alignAll_voting _).trans (State.survey_voting _)))

/-! ### The audio block boundary (R112, R133) -/

theorem State.voterLaw.blockBoundary {s : State} (law : s.voterLaw) : s.blockBoundary.voterLaw := by
  have installed : (State.installSplit { s with blockAt := s.now }).voterLaw :=
    law.of_voting (State.installSplit_voting { s with blockAt := s.now })
  exact State.voterLaw.latchOutputs (installed.voterBoundary.of_voting (by simp [State.breakInBoundary]))

/-! ### A unit's standing (R10 to R16, R96, R109) -/

/-- The channels have followed a change of one unit's standing. -/
theorem State.voterLaw.of_follow {s t : State} (law : s.voterLaw) (length : t.channels.length = s.channels.length) {i : Nat}
    (follow : ∀ c < 8, s.VotersFollow t i c) (others : ∀ j, j ≠ i → t.isActive j = s.isActive j) : t.voterLaw := by
  refine State.VotersFit.of_channel (length.trans law.1) fun c hc => ?_
  have lawful := State.VotersFit.channel law hc
  rw [follow c hc]
  split
  · refine Channel.Lawful.mono (ChanWork.unitLeaves_lawful (w := ⟨s.channel c, false⟩) lawful i) fun j on => ?_
    simp only [Bool.and_eq_true, bne_iff_ne] at on
    exact (others j on.2).trans on.1
  · next kept =>
    refine lawful.mono fun j on => ?_
    by_cases here : j = i
    · subst here
      exact eq_true_of_ne_false fun off => kept ⟨on, off⟩
    · exact (others j here).trans on

theorem State.Puts.isActive_ne {s t : State} {i j : Nat} {r : RuEntry} (h : s.Puts t i r) (ne : j ≠ i) :
    t.isActive j = s.isActive j := by
  rw [State.isActive, h.ru_ne ne]
  rfl

section
variable {s : State} (law : s.voterLaw)
include law

theorem State.voterLaw.standing {i : Nat} (hi : i < s.n) (boundary : Nat) : (s.standing boundary i).voterLaw :=
  law.of_follow (s.standing_grows boundary i).channels_length (fun _ hc => State.standing_follow law.1 hc hi boundary)
    fun _ ne => (s.standing_puts hi boundary).isActive_ne ne

/-- A unit that was not ACTIVE may take any standing: no channel held it. -/
theorem State.voterLaw.of_puts {t : State} {i : Nat} {r : RuEntry} (puts : s.Puts t i r) (off : s.isActive i = false)
    (channels : t.channels = s.channels) : t.voterLaw :=
  law.of_stays channels fun j on => by
    by_cases here : j = i
    · rw [here, off] at on
      cases on
    · exact (puts.isActive_ne here).trans on

/-- The identity read of a unit completes (R12). -/
theorem State.voterLaw.completeRead {i : Nat} (hi : i < s.n) (off : s.isActive i = false) (x : BitVec 32) :
    (s.completeRead i x).voterLaw := by
  refine law.of_puts (s.completeRead_puts hi x) off ?_
  unfold State.completeRead State.enterActive
  dsimp only
  split
  · exact (State.gatesEnter_grows _ i).channels_gates.trans ((State.recompute_grows _ i).channels_allocs.trans
      ((s.workRu_grows i _).trans (State.modRu_grows _ i _)).channels_units)
  · exact (s.workRu_grows i _).channels_units

theorem State.voterLaw.followReach : s.followReach.voterLaw := by
  unfold State.followReach
  have start : s.updateReach.voterLaw := law.of_voting s.updateReach_voting
  refine (State.each_keeps (P := fun t => t.voterLaw ∧ t.n = s.updateReach.n) (fun t i mem kept => ?_) ⟨start, rfl⟩).1
  obtain ⟨law, n⟩ := kept
  have hi : i < t.n := n ▸ List.mem_range.1 mem
  exact ⟨law.standing hi _, (t.standing_puts hi _).n.trans n⟩

theorem State.voterLaw.positionTurns (i : Nat) (e : ChainEnd) (present : Bool) : (s.positionTurns i e present).voterLaw := by
  unfold State.positionTurns
  dsimp only
  split
  · exact State.voterLaw.followReach (law.of_voting (s.modRu_voting i fun r => r.modView_state e _))
  · exact law

theorem State.voterLaw.identityArrives (i : Nat) (part : Octet) : (s.identityArrives i part).voterLaw := by
  unfold State.identityArrives
  dsimp only
  split
  · next due =>
    simp only [Bool.and_eq_true, decide_eq_true_eq, beq_iff_eq] at due
    obtain ⟨⟨⟨⟨-, hi⟩, joining⟩, -⟩, -⟩ := due
    have off : s.isActive i = false := by rw [State.isActive, joining]; rfl
    unfold State.takePart
    dsimp only
    split
    · exact law.of_voting (s.modRu_voting i fun _ => rfl)
    · exact law.completeRead hi off _
  · exact law

end

/-! ### RESTART at the Loop Controller (R27) -/

/-- A unit that is not ACTIVE and enters JOINING changes nothing of which units are ACTIVE. -/
theorem State.join_voting {s : State} {i : Nat} (hi : i < s.n) (off : s.isActive i = false) :
    (s.workRu i RuEntry.join).voting = s.voting := by
  have puts := s.workRu_puts hi RuEntry.join
  refine State.voting_eq (s.workRu_grows i _).channels_units fun j => ?_
  by_cases here : j = i
  · rw [here, puts.isActive hi, off]
    rfl
  · exact puts.isActive_ne here

theorem State.rereadMismatch_voting (s : State) : s.rereadMismatch.voting = s.voting := by
  refine (State.each_keeps (P := fun t => t.voting = s.voting ∧ t.n = s.n) (fun t i mem kept => ?_) ⟨rfl, rfl⟩).1
  obtain ⟨voting, n⟩ := kept
  obtain ⟨range, mismatch⟩ := List.mem_filter.1 mem
  have hi : i < t.n := n ▸ List.mem_range.1 range
  have off : t.isActive i = false := by
    rw [show t.isActive = s.isActive from congrArg Prod.snd voting, State.isActive, eq_of_beq mismatch]
    rfl
  exact ⟨(State.join_voting hi off).trans voting, (t.workRu_puts hi _).n.trans n⟩

/-! ### The frame close (R6, R85) -/

/-- The loop's stages leave no channel with a source that has left ACTIVE. -/
theorem State.voterLaw.loopStages {s : State} (law : s.voterLaw) (boundary : Nat) (f : FrameInput) :
    (s.loopStages boundary f).voterLaw := by
  have length : (s.loopStages boundary f).channels.length = 8 :=
    (s.loopStages_grows boundary f).channels_length.trans
      ((congrArg List.length (s.reached_grows f).channels_lpc).trans law.1)
  have kept := fun c (hc : c < 8) => State.loopStages_channel boundary f law.1 hc
  generalize s.loopStages boundary f = t at *
  refine State.VotersFit.of_channel length fun c hc => ?_
  obtain ⟨besides, voter⟩ := kept c hc
  have cfg : (t.channel c).cfg = (s.channel c).cfg := congrArg (·.cfg) besides
  have state : (t.channel c).state = (s.channel c).state := congrArg (·.state) besides
  have lawful := State.VotersFit.channel law hc
  refine ⟨fun off => state.trans (lawful.1 (cfg ▸ off)), fun i held => ?_⟩
  have here := voter i
  unfold Channel.voterAt at here
  rw [show (t.channel c).source = some i from held] at here
  split at here
  · simp at here
  · next stays =>
    obtain ⟨lockout, source⟩ := Prod.mk.inj here
    obtain ⟨up, on, covered, free⟩ := lawful.2 i (beq_iff_eq.1 (source.symm.trans (beq_self_eq_true _)))
    exact ⟨state.trans up, eq_true_of_ne_false fun off => stays ⟨on, off⟩, cfg ▸ covered, lockout.trans free⟩

theorem State.withPassed_voting (s : State) (p : List (Option (Nat × ChainEnd))) : (s.withPassed p).voting = s.voting := rfl

theorem State.voterLaw.closeFrame {s : State} (law : s.voterLaw) (boundary : Nat) (f : FrameInput) :
    (s.closeFrame boundary f).voterLaw := by
  cases on : s.loopOn with
  | false =>
    unfold State.closeFrame
    rw [on]
    exact law
  | true =>
    have served : ((s.loopStages boundary f).served boundary).voterLaw :=
      ((law.loopStages boundary f).channelFrames boundary).of_voting (State.bandFrames_voting _ boundary)
    rw [State.closeFrame_eq boundary f on]
    exact served.of_voting (State.withPassed_voting _ _)

theorem State.voterLaw.frameClose {s : State} (law : s.voterLaw) (f : FrameInput) : (s.frameClose f).voterLaw := by
  obtain ⟨t, v, before, after, close⟩ := s.frameClose_cases f
  have sampled : t.voterLaw := State.voterLaw.of_voting (s := { s with pins := { s.pins with maint := f.maint } }) law
    before.voting_alarm
  have closed : v.voterLaw := (sampled.closeFrame (s.now + 1) f).of_voting after.voting_alarm
  rw [close]
  exact State.voterLaw.latchOutputs (s := { v with now := s.now + 1 }) closed

/-! ### The loop re-formed (R22, R96) -/

/-- A unit that leaves ACTIVE, its entry changed before it. -/
theorem State.VotersFit.leaves {s : State} {active : Nat → Bool} (h : s.VotersFit active) (i : Nat) (f : RuEntry → RuEntry) :
    ((s.modRu i f).leaveActive i).VotersFit fun j => active j && j != i := by
  have length : ((s.modRu i f).leaveActive i).channels.length = 8 := (State.leaveActive_grows _ i).channels_length.trans h.1
  refine State.VotersFit.of_channel length fun c hc => ?_
  rw [State.leaveActive_channel (s := s.modRu i f) h.1 hc]
  exact ChanWork.unitLeaves_lawful (w := ⟨s.channel c, false⟩) (h.channel hc) i

/-- With every ACTIVE unit gone no channel holds a source. -/
theorem State.voterLaw.allLeft {s : State} (law : s.voterLaw) : s.allLeft.VotersFit fun _ => false := by
  have gone : ∀ (l : List Nat) (t : State) (active : Nat → Bool), t.VotersFit active →
      (t.each l fun s i =>
        (s.modRu i fun r => { r with state := .absent, serving := none }).leaveActive i).VotersFit
          fun j => active j && !l.contains j := by
    intro l
    induction l with
    | nil => exact fun t active h => h.mono fun j on => by simpa using on
    | cons i l ih =>
      intro t active h
      rw [State.each_cons]
      refine (ih _ _ (h.leaves i fun r => { r with state := .absent, serving := none })).mono fun j on => ?_
      simp only [Bool.and_eq_true, bne_iff_ne, Bool.not_eq_true', List.contains_cons, Bool.or_eq_false_iff,
        beq_eq_false_iff_ne] at on ⊢
      exact ⟨on.1.1, on.1.2, on.2⟩
  refine (gone _ s s.isActive law).mono fun j on => ?_
  obtain ⟨on, left⟩ := Bool.and_eq_true_iff.1 on
  have beyond : ¬ j < s.n := fun hj => by simp [hj, on] at left
  rw [State.isActive_of_le (by omega)] at on
  cases on

theorem State.rewritten_channels (s : State) (new : List RuEntry) (guardDu : Nat) :
    (s.rewritten new guardDu).channels = s.channels := rfl

theorem State.voterLaw.reform {s : State} (law : s.voterLaw) (new : List RuEntry) (guardDu : Nat) :
    (s.reform new guardDu).voterLaw := by
  have written : (s.allLeft.rewritten new guardDu).voterLaw :=
    (law.allLeft.of_channels (State.rewritten_channels ..)).mono fun _ on => absurd on Bool.false_ne_true
  rw [State.reform_reshaped]
  exact written.of_voting (by simp [State.reshaped, State.reformed, State.resized])

theorem State.voterLaw.handleSetLoop {s : State} (law : s.voterLaw) (tag : Octet) (body : List Octet) :
    (handleSetLoop tag body s).voterLaw := by
  unfold Machine.handleSetLoop
  dsimp only
  split
  · exact law.of_voting (s.answer_voting ..)
  · split
    · exact law.of_voting (s.answer_voting ..)
    · split
      · exact law.of_voting ((State.answer_voting ..).trans (s.modSau_voting _))
      · exact (law.reform _ _).of_voting (State.answer_voting ..)

end Sys2Proof.Machine
end

section
/-! The law of the voter's source through the requests of the host (R176, R183) and the start of the part (R26, R161, R165): what each
request's owner leaves unchanged, and the requests that write a channel or the loop. -/

namespace Sys2Proof.Machine

/-! ### Requests that neither write a channel nor change a standing -/

section
variable (tag : Octet) (body : List Octet) (s : State)

@[simp] theorem handleIdentify_voting : (handleIdentify tag s).voting = s.voting := rfl

@[simp] theorem handleStatus_voting : (handleStatus tag s).voting = s.voting := rfl

@[simp] theorem handleSaveSettings_voting : (handleSaveSettings tag s).voting = s.voting := by simp [handleSaveSettings]

@[simp] theorem handleGetRu_voting : (handleGetRu tag body s).voting = s.voting := by simp [handleGetRu]

@[simp] theorem handleSetZone_voting : (handleSetZone tag body s).voting = s.voting := by simp [handleSetZone]

@[simp] theorem handleSetSplit_voting : (handleSetSplit tag body s).voting = s.voting := by simp [handleSetSplit]

@[simp] theorem handleGetZone_voting : (handleGetZone tag body s).voting = s.voting := by simp [handleGetZone]

@[simp] theorem handleDeclare_voting : (handleDeclare tag body s).voting = s.voting := by simp [handleDeclare]

@[simp] theorem handleClear_voting : (handleClear tag s).voting = s.voting := by simp [handleClear]

@[simp] theorem handleSetEvacuationPlan_voting : (handleSetEvacuationPlan tag body s).voting = s.voting := by
  unfold handleSetEvacuationPlan
  split
  · rfl
  · split <;> rfl

@[simp] theorem handleSetRuPower_voting : (handleSetRuPower tag body s).voting = s.voting := by simp [handleSetRuPower]

@[simp] theorem handleSetPlan_voting : (handleSetPlan tag body s).voting = s.voting := by simp [handleSetPlan]

@[simp] theorem handleGetBudget_voting : (handleGetBudget tag body s).voting = s.voting := by simp [handleGetBudget]

@[simp] theorem handleGetChannel_voting : (handleGetChannel tag body s).voting = s.voting := by simp [handleGetChannel]

@[simp] theorem handleSetBand_voting : (handleSetBand tag body s).voting = s.voting := by simp [handleSetBand]

@[simp] theorem handleGetBand_voting : (handleGetBand tag body s).voting = s.voting := by simp [handleGetBand]

@[simp] theorem handleLiveStart_voting : (handleLiveStart tag body s).voting = s.voting := by
  unfold handleLiveStart
  dsimp only
  split
  · rfl
  · split <;> rfl

@[simp] theorem handleLiveEnd_voting : (handleLiveEnd tag body s).voting = s.voting := by simp [handleLiveEnd]

@[simp] theorem handleSetItems_voting : (handleSetItems tag body s).voting = s.voting := by
  unfold handleSetItems
  dsimp only
  split
  · rfl
  · split <;> simp

@[simp] theorem handlePlay_voting : (handlePlay tag body s).voting = s.voting := by
  unfold handlePlay
  dsimp only
  split <;> simp

@[simp] theorem handleStop_voting : (handleStop tag body s).voting = s.voting := by simp [handleStop]

@[simp] theorem handleGetPlayer_voting : (handleGetPlayer tag body s).voting = s.voting := by simp [handleGetPlayer]

@[simp] theorem handleUploadBegin_voting : (handleUploadBegin tag body s).voting = s.voting := by simp [handleUploadBegin]

@[simp] theorem State.clipData_voting (u : Upload) (b : IndexedBlock) : (s.clipData u tag b).voting = s.voting := by
  simp [State.clipData]

@[simp] theorem handleClipData_voting : (handleClipData tag body s).voting = s.voting := by
  unfold handleClipData
  split
  · rfl
  · split
    · rfl
    · split <;> simp

@[simp] theorem State.failUpload_voting (u : Upload) (st : Status) : (s.failUpload u tag st).voting = s.voting := by
  simp [State.failUpload]

@[simp] theorem handleUploadEnd_voting : (handleUploadEnd tag body s).voting = s.voting := by
  unfold handleUploadEnd
  split
  · rfl
  · split <;> simp

@[simp] theorem handleUploadAbort_voting : (handleUploadAbort tag s).voting = s.voting := by simp [handleUploadAbort]

@[simp] theorem handleEraseSlot_voting : (handleEraseSlot tag body s).voting = s.voting := by simp [handleEraseSlot]

@[simp] theorem handleGetDirectory_voting : (handleGetDirectory tag body s).voting = s.voting := by simp [handleGetDirectory]

@[simp] theorem handleSetProtection_voting : (handleSetProtection tag body s).voting = s.voting := by
  simp [handleSetProtection]

@[simp] theorem takeVoiceBlock_voting : (takeVoiceBlock body s).voting = s.voting := by simp [takeVoiceBlock]

end

/-! ### RESTART (R181) -/

theorem State.voterLaw.handleRestart {s : State} (law : s.voterLaw) (tag : Octet) : (handleRestart tag s).voterLaw := by
  have calm : (if (s.abortOthers tag).lvq.state = .none then s.abortOthers tag
      else (s.abortOthers tag).endLive .restarted).restartPlayers.clearWinners.voting = s.voting := by simp
  have blocks : (s.abortOthers tag).restartBlocks.voterLaw :=
    (law.of_voting calm).restartChannels.of_voting
      ((State.rereadMismatch_voting _).trans ((State.restartClips_voting _).trans (State.restartGates_voting _)))
  exact blocks.of_voting (by simp [Machine.handleRestart])

/-! ### A request, whole (R175, R176) -/

/-- A command's effect that keeps the law of the voter's source. -/
def KeepsVoters (f : State → State) : Prop := ∀ s : State, s.voterLaw → (f s).voterLaw

theorem KeepsVoters.of_voting {f : State → State} (h : ∀ s, (f s).voting = s.voting) : KeepsVoters f :=
  fun s law => law.of_voting (h s)

/-- A request is refused, or handled by its owner with a slot taken. -/
theorem State.voterLaw.request {s : State} (law : s.voterLaw) {handle : State → State} (h : KeepsVoters handle) {kind tag : Octet}
    {fits : Bool} : (s.request kind tag fits handle).voterLaw := by
  unfold State.request
  split
  · exact law
  · exact h _ (law.of_voting rfl)

/-! ### The receiver (R174, R175) -/

/-- A frame that is delivered: the request or stream block that its kind names, or a refusal. -/
theorem State.voterLaw.deliver {s : State} (law : s.voterLaw) (kind tag : Octet) (body : List Octet) :
    (s.deliver kind tag body).voterLaw := by
  unfold State.deliver
  split
  · exact law.request (.of_voting (handleIdentify_voting tag))
  · exact law.request (.of_voting (handleStatus_voting tag))
  · exact law.request fun _ law => law.handleRestart tag
  · exact law.request (.of_voting (handleSaveSettings_voting tag))
  · exact law.request fun _ law => law.handleSetLoop tag body
  · exact law.request (.of_voting (handleGetRu_voting tag body))
  · exact law.request (.of_voting (handleSetZone_voting tag body))
  · exact law.request (.of_voting (handleSetSplit_voting tag body))
  · exact law.request (.of_voting (handleGetZone_voting tag body))
  · exact law.request (.of_voting (handleDeclare_voting tag body))
  · exact law.request (.of_voting (handleClear_voting tag))
  · exact law.request (.of_voting (handleSetEvacuationPlan_voting tag body))
  · exact law.request (.of_voting (handleSetRuPower_voting tag body))
  · exact law.request (.of_voting (handleSetPlan_voting tag body))
  · exact law.request (.of_voting (handleGetBudget_voting tag body))
  · exact law.request fun _ law => law.handleSetChannel tag body
  · exact law.request (.of_voting (handleGetChannel_voting tag body))
  · exact law.request (.of_voting (handleSetBand_voting tag body))
  · exact law.request (.of_voting (handleGetBand_voting tag body))
  · exact law.request (.of_voting (handleLiveStart_voting tag body))
  · exact law.request (.of_voting (handleLiveEnd_voting tag body))
  · exact law.request (.of_voting (handleSetItems_voting tag body))
  · exact law.request (.of_voting (handlePlay_voting tag body))
  · exact law.request (.of_voting (handleStop_voting tag body))
  · exact law.request (.of_voting (handleGetPlayer_voting tag body))
  · exact law.of_voting (takeVoiceBlock_voting body s)
  · exact law.request (.of_voting (handleUploadBegin_voting tag body))
  · exact law.request (.of_voting (handleClipData_voting tag body))
  · exact law.request (.of_voting (handleUploadEnd_voting tag body))
  · exact law.request (.of_voting (handleUploadAbort_voting tag))
  · exact law.request (.of_voting (handleEraseSlot_voting tag body))
  · exact law.request (.of_voting (handleGetDirectory_voting tag body))
  · exact law.request (.of_voting (handleSetProtection_voting tag body))
  · exact law

theorem State.voterLaw.octetArrives {s : State} (law : s.voterLaw) (o : Octet) : (s.octetArrives o).voterLaw := by
  unfold State.octetArrives
  split
  · split <;> exact law
  · dsimp only
    split
    · exact law
    · split
      · exact law
      · split
        · exact law
        · unfold State.wholeFrame
          split
          · exact State.voterLaw.deliver (s := s.hunt) law _ _ _
          · exact law

/-! ### Power, RESET and the start of the loop (R26, R161, R171) -/

/-- Channels at their power-on values are lawful, whatever their configuration and whichever units are ACTIVE. -/
theorem State.configure_voterLaw (s : State) (c : Settings) : (s.configure c).voterLaw := by
  refine ⟨by simp [State.configure], fun ch mem => ?_⟩
  obtain ⟨i, -, rfl⟩ := List.mem_map.1 mem
  exact Channel.initial_lawful _

theorem State.initial_voterLaw (power : PowerState) (rate : LineRate) (pins : Pins) (flash : Flash) (pending : List Instr) :
    (State.initial power rate pins flash pending).voterLaw := State.configure_voterLaw _ _

theorem State.voterLaw.holdReset {s : State} (law : s.voterLaw) : s.holdReset.voterLaw := by
  unfold State.holdReset
  split
  · exact State.initial_voterLaw ..
  · exact law

theorem State.voterLaw.releaseReset {s : State} (law : s.voterLaw) (rate : LineRate) : (s.releaseReset rate).voterLaw := by
  unfold State.releaseReset
  split
  · exact State.initial_voterLaw ..
  · exact law

theorem State.voterLaw.powerDown {s : State} (law : s.voterLaw) : s.powerDown.voterLaw := by
  unfold State.powerDown
  split
  · exact law
  · exact State.initial_voterLaw ..
  · exact State.initial_voterLaw ..

/-- The levels at the portal shelf reported as the loop starts (R84). -/
theorem State.voterLaw.reportShelf {s : State} (law : s.voterLaw) : s.reportShelf.voterLaw := by
  have carriers : (s.each ((List.range 8).filter s.pins.carriers.getLsbD) State.takeDlOn).voterLaw :=
    law.each fun _ _ mem law => law.takeDlOn (List.mem_range.1 (List.mem_of_mem_filter mem))
  exact carriers.of_voting (State.each_voting State.feedComesUp_voting)

theorem State.loopStart_voterLaw (s : State) (c : Settings) (loaded : Bool) : (s.loopStart c loaded).voterLaw := by
  unfold State.loopStart
  refine State.voterLaw.reportShelf (State.voterLaw.of_voting (s := s.configure c) (s.configure_voterLaw c) ?_)
  refine (State.markIf_voting State.markDirectory_voting).trans ((State.setCopyValid_voting _ _).trans ?_)
  rfl

theorem State.flashAbsent_voterLaw (s : State) : s.flashAbsent.voterLaw :=
  (s.loopStart_voterLaw Settings.default false).of_voting (by simp [State.flashAbsent])

theorem State.voterLaw.settingsRead {s : State} (law : s.voterLaw) : s.settingsRead.voterLaw := by
  unfold State.settingsRead
  split
  · exact law
  · split
    · refine State.voterLaw.of_voting ?_ (State.startOp_voting _ _)
      split <;> exact State.loopStart_voterLaw _ _ _
    · exact law

/-! ### The failure table (R165) -/

theorem State.voterLaw.ownerFails {s : State} (law : s.voterLaw) (o : PortOp) : (s.ownerFails o).voterLaw := by
  unfold State.ownerFails
  split
  · split
    · exact law.of_voting ((State.scanOn_voting _ _).trans (s.setDir_voting _ _))
    · exact s.flashAbsent_voterLaw
  · exact law.of_voting (s.failItem_voting _)
  · exact law
  · exact law.of_voting s.faultUpload_voting
  · split
    · exact law
    · exact law.of_voting ((State.answerOpt_voting _ _ _ _).trans (s.modCsc_voting _))
  · split
    · exact law
    · exact law.of_voting ((State.answerOpt_voting _ _ _ _).trans (s.modCsc_voting _))
  · exact law

theorem State.voterLaw.opFails {s : State} (law : s.voterLaw) : s.opFails.voterLaw := by
  unfold State.opFails
  split
  · exact law
  · exact State.voterLaw.ownerFails (law.of_voting ((State.modCsc_voting _ _).trans (s.modFlash_voting _))) _

theorem State.voterLaw.opTimesOut {s : State} (law : s.voterLaw) : s.opTimesOut.voterLaw := by
  unfold State.opTimesOut
  split
  · exact law
  · split
    · exact law.opFails
    · exact law

end Sys2Proof.Machine
end

section
/-! Every step keeps the law of the voter's source (R110): one arm per command. -/

namespace Sys2Proof.Machine

/-! ### How a command runs -/

/-- A command of the running part: its effect, and the two arbiters after it. -/
theorem State.voterLaw.whenOn {s t : State} (law : s.voterLaw) {f : State → State} (hf : KeepsVoters f)
    (h : s.whenOn f = .next t) : t.voterLaw := by
  obtain rfl := Host.Outcome.next.inj h
  split
  · exact (hf s law).of_voting (State.settle_voting _)
  · exact law

/-- A request or stream frame that is delivered whole. -/
theorem State.voterLaw.frameIn {s t : State} (law : s.voterLaw) (kind tag : Octet) (body : List Octet)
    (h : (s.frameIn fun s => s.deliver kind tag body) = .next t) : t.voterLaw :=
  law.whenOn (fun u law => State.voterLaw.deliver (s := u.hunt) law kind tag body) h

/-- An event of the portal shelf: the level at the pin, and its effect once the part has begun. -/
theorem State.voterLaw.shelfEvent {s t u : State} (law : s.voterLaw) (pin : u.voting = s.voting) {f : State → State}
    (hf : KeepsVoters f) (h : (.next (if u.begun then (f u).settle else u) : Answered) = .next t) : t.voterLaw := by
  have level := law.of_voting pin
  obtain rfl := Host.Outcome.next.inj h
  split
  · exact (hf u level).of_voting (State.settle_voting _)
  · exact level

theorem State.voterLaw.epochWhereDue {s : State} (law : s.voterLaw) : (if s.epochDue then s.epochBoundary else s).voterLaw := by
  split
  · exact law.epochBoundary
  · exact law

theorem State.voterLaw.blockWhereDue {s : State} (law : s.voterLaw) : (if s.blockDue then s.blockBoundary else s).voterLaw := by
  split
  · exact law.blockBoundary
  · exact law

theorem State.discardWhere_voting (c : Prop) [Decidable c] (e : LinkError) (s : State) :
    (if c then s.discard e else s).voting = s.voting := by simp

/-! ### The commands -/

theorem exec_voterLaw {s t : State} (law : s.voterLaw) (i : Instr) (h : exec i s = .next t) : t.voterLaw := by
  cases i with
  | powerOn rate =>
    obtain rfl := Host.Outcome.next.inj h
    exact State.initial_voterLaw ..
  | resetAssert =>
    obtain rfl := Host.Outcome.next.inj h
    exact law.holdReset
  | resetRelease rate =>
    obtain rfl := Host.Outcome.next.inj h
    exact law.releaseReset rate
  | powerLoss =>
    obtain rfl := Host.Outcome.next.inj h
    exact law.powerDown
  | dlOn c => exact law.shelfEvent (u := s.setCarrierPin c true) rfl (fun _ law => law.takeDlOn c.isLt) h
  | dlOff c => exact law.shelfEvent (u := s.setCarrierPin c false) rfl (fun _ law => law.takeDlOff c.isLt) h
  | feedUp b => exact law.shelfEvent (u := s.setFeedPin b true) rfl (.of_voting fun u => u.feedComesUp_voting b) h
  | feedDown b => exact law.shelfEvent (u := s.setFeedPin b false) rfl (.of_voting fun u => u.feedGoesDown_voting b) h
  | settingsReadComplete => exact law.whenOn (fun _ law => law.settingsRead) h
  | headerReadComplete => exact law.whenOn (.of_voting State.headerRead_voting) h
  | loopFrameClose f => exact law.whenOn (fun _ law => law.frameClose f) h
  | positionTurnsAnswering p e => exact law.whenOn (fun _ law => law.positionTurns p e true) h
  | positionTurnsSilent p e => exact law.whenOn (fun _ law => law.positionTurns p e false) h
  | identityReadComplete p part => exact law.whenOn (fun _ law => law.identityArrives p part) h
  | healTimerExpiry p => exact law.whenOn (.of_voting fun u => u.healTimer_voting p) h
  | alarmTimerExpiry => exact law.whenOn (.of_voting State.alarmTimer_voting) h
  | turnaroundExpiry c => exact law.whenOn (fun _ law => law.turnTimer c.isLt) h
  | hangExpiry c => exact law.whenOn (fun _ law => law.hangTimer) h
  | talkTimeout c => exact law.whenOn (fun _ law => law.talkTimer c.isLt) h
  | gateHoldExpiry b p => exact law.whenOn (.of_voting fun u => u.gateTimer_voting b p) h
  | epochBoundary => exact law.whenOn (fun _ law => law.epochWhereDue) h
  | audioBlockBoundary => exact law.whenOn (fun _ law => law.blockWhereDue) h
  | liveStarveLimit => exact law.whenOn (.of_voting State.starveLimit_voting) h
  | playerReadComplete => exact law.whenOn (.of_voting State.playerReadCompletes_voting) h
  | verifyReadComplete => exact law.whenOn (.of_voting State.verifyReadCompletes_voting) h
  | programComplete => exact law.whenOn (.of_voting State.programCompletes_voting) h
  | eraseComplete => exact law.whenOn (.of_voting State.eraseCompletes_voting) h
  | flashOpFail => exact law.whenOn (fun _ law => law.opFails) h
  | flashOpTimeout => exact law.whenOn (fun _ law => law.opTimesOut) h
  | octetReceived octet => exact law.whenOn (fun _ law => law.octetArrives octet) h
  | frameOctetTimeout => exact law.whenOn (.of_voting State.octetTimeout_voting) h
  | overlengthFrame length => exact law.whenOn (.of_voting (State.discardWhere_voting _ .overlength)) h
  | crcErrorFrame octets => exact law.whenOn (.of_voting (State.discardWhere_voting _ .crc)) h
  | frameSent => exact law.whenOn (.of_voting State.frameSent_voting) h
  | unknownKindFrame kind tag body => exact law.frameIn kind tag body h
  | voiceBlock tag body => exact law.frameIn 0x3F#8 tag body h
  | identify tag body => exact law.frameIn 0x01#8 tag body h
  | status tag body => exact law.frameIn 0x02#8 tag body h
  | restart tag body => exact law.frameIn 0x03#8 tag body h
  | saveSettings tag body => exact law.frameIn 0x04#8 tag body h
  | setLoop tag body => exact law.frameIn 0x10#8 tag body h
  | getRu tag body => exact law.frameIn 0x11#8 tag body h
  | setZone tag body => exact law.frameIn 0x18#8 tag body h
  | setSplit tag body => exact law.frameIn 0x19#8 tag body h
  | getZone tag body => exact law.frameIn 0x1A#8 tag body h
  | declareIncident tag body => exact law.frameIn 0x1B#8 tag body h
  | clearIncident tag body => exact law.frameIn 0x1C#8 tag body h
  | setEvacuationPlan tag body => exact law.frameIn 0x1D#8 tag body h
  | setRuPower tag body => exact law.frameIn 0x20#8 tag body h
  | setPlan tag body => exact law.frameIn 0x21#8 tag body h
  | getBudget tag body => exact law.frameIn 0x22#8 tag body h
  | setChannel tag body => exact law.frameIn 0x28#8 tag body h
  | getChannel tag body => exact law.frameIn 0x29#8 tag body h
  | setBand tag body => exact law.frameIn 0x2C#8 tag body h
  | getBand tag body => exact law.frameIn 0x2D#8 tag body h
  | liveStart tag body => exact law.frameIn 0x30#8 tag body h
  | liveEnd tag body => exact law.frameIn 0x31#8 tag body h
  | setItems tag body => exact law.frameIn 0x38#8 tag body h
  | play tag body => exact law.frameIn 0x39#8 tag body h
  | stop tag body => exact law.frameIn 0x3A#8 tag body h
  | getPlayer tag body => exact law.frameIn 0x3B#8 tag body h
  | uploadBegin tag body => exact law.frameIn 0x40#8 tag body h
  | clipData tag body => exact law.frameIn 0x41#8 tag body h
  | uploadEnd tag body => exact law.frameIn 0x42#8 tag body h
  | uploadAbort tag body => exact law.frameIn 0x43#8 tag body h
  | eraseSlot tag body => exact law.frameIn 0x44#8 tag body h
  | getDirectory tag body => exact law.frameIn 0x45#8 tag body h
  | setProtection tag body => exact law.frameIn 0x46#8 tag body h

/-- Settles O55: a source is taken only from candidates formed on the channel as it stands, and whatever ends its standing there (a
unit that leaves ACTIVE, a lockout, a new coverage, a disable) drops it in the same step. -/
theorem everyStepKeepsTheVoterLaw : Obligations.EveryStepKeepsTheVoterLaw := by
  intro s t law h
  unfold step at h
  split at h
  · obtain rfl := Host.Outcome.next.inj h
    exact law
  · next c rest _ =>
    exact exec_voterLaw (s := { s with pending := rest }) law c h

end Sys2Proof.Machine
end

section
/-! A gate's hold that expires by itself (R120 step 2, R121; log entry 5): the gate closes, and a place it held goes to the PENDING
gate with the highest latest activity. -/

namespace Sys2Proof.Machine

/-! ### The gate that takes a freed place -/

theorem Band.mem_inState {b : Band} {st : GateState} {i : Nat} :
    i ∈ b.inState st ↔ i < b.gates.length ∧ (b.gate i).state = st := by
  simp [Band.inState]

/-- Over ascending positions, the pick by a strictly greater value has the greatest value, and the lowest position among equals. -/
theorem pickBest_highest (value : Nat → Nat) {l : List Nat} (ascending : l.Pairwise (· < ·)) {j : Nat}
    (picked : pickBest (fun j i => value i < value j) l = some j) {i : Nat} (hi : i ∈ l) :
    value i < value j ∨ (value i = value j ∧ j ≤ i) := by
  induction l generalizing i j with
  | nil => cases hi
  | cons x l ih =>
    obtain ⟨first, rest⟩ := List.pairwise_cons.1 ascending
    unfold pickBest at picked
    cases later : pickBest (fun j i => value i < value j) l with
    | none =>
      rw [later] at picked
      obtain rfl := Option.some.inj picked
      rw [pickBest_eq_none later, List.mem_singleton] at hi
      exact .inr ⟨congrArg value hi, hi.ge⟩
    | some k =>
      have after : x < k := first k (pickBest_mem _ later)
      simp only [later, decide_eq_true_eq] at picked
      rcases List.mem_cons.1 hi with rfl | hi
      · split at picked <;> obtain rfl := Option.some.inj picked <;> omega
      · have best := ih rest later hi
        split at picked <;> obtain rfl := Option.some.inj picked <;> omega

theorem Band.loudestPending_highest {b : Band} {j : Nat} (picked : b.loudestPending = some j) {i : Nat} (hi : i < b.gates.length)
    (pending : (b.gate i).state = .pending) :
    (b.gate i).latest < (b.gate j).latest ∨ ((b.gate i).latest = (b.gate j).latest ∧ j ≤ i) :=
  pickBest_highest (fun i => (b.gate i).latest) (List.Pairwise.filter _ List.pairwise_lt_range) picked
    (Band.mem_inState.2 ⟨hi, pending⟩)

theorem Band.not_pending_of_loudestPending {b : Band} (none : b.loudestPending = none) {i : Nat} (hi : i < b.gates.length) :
    (b.gate i).state ≠ .pending := fun pending => by
  have mem := Band.mem_inState.2 ⟨hi, pending⟩
  rw [pickBest_eq_none none] at mem
  cases mem

/-! ### A gate that closes -/

theorem BandWork.set_band (w : BandWork) (i : Nat) (st : GateState) (hold : Option Nat) :
    (w.set i st hold).band = { w.band with gates := w.band.gates.set i { w.band.gate i with state := st, hold := hold } } := by
  by_cases hi : i < w.band.gates.length
  · simp [BandWork.set, Band.gate, List.modify_eq_set_getElem?, hi]
  · simp [BandWork.set, List.modify_eq_self (Nat.le_of_not_lt hi), List.set_eq_of_length_le (Nat.le_of_not_lt hi)]

theorem BandWork.promote_none {w : BandWork} (none : w.band.loudestPending = none) : w.promote = w := by
  rw [BandWork.promote, none]

theorem BandWork.promote_some {w : BandWork} {j : Nat} (picked : w.band.loudestPending = some j) :
    w.promote = w.keepHold j .opened := by
  rw [BandWork.promote, picked]

theorem BandWork.vacate_opened {w : BandWork} {i : Nat} (st : GateState) (opened : (w.band.gate i).state = .opened) :
    w.vacate i st = (w.set i st none).promote := by
  simp [BandWork.vacate, opened]

theorem BandWork.vacate_unopened {w : BandWork} {i : Nat} (st : GateState) (unopened : (w.band.gate i).state ≠ .opened) :
    w.vacate i st = w.set i st none := by
  simp [BandWork.vacate, unopened]

/-- A promotion changes the gates of the band alone. -/
theorem BandWork.promote_gates (w : BandWork) : w.promote.band = { w.band with gates := w.promote.band.gates } := by
  cases h : w.band.loudestPending with
  | none => rw [BandWork.promote_none h]
  | some j =>
    rw [BandWork.promote_some h]
    rfl

theorem BandWork.promote_changed {w : BandWork} (changed : w.changed = true) : w.promote.changed = true := by
  cases h : w.band.loudestPending with
  | none => rwa [BandWork.promote_none h]
  | some j => simp [BandWork.promote_some h, BandWork.keepHold, BandWork.set, changed]

theorem BandWork.set_changed {w : BandWork} {i : Nat} {st : GateState} (hold : Option Nat) (moves : (w.band.gate i).state ≠ st) :
    (w.set i st hold).changed = true := by
  simp [BandWork.set, moves]

theorem BandWork.vacate_changed {w : BandWork} {i : Nat} {st : GateState} (moves : (w.band.gate i).state ≠ st) :
    (w.vacate i st).changed = true := by
  have changed := BandWork.set_changed (hold := none) moves
  by_cases opened : (w.band.gate i).state = .opened
  · rw [BandWork.vacate_opened st opened]
    exact BandWork.promote_changed changed
  · rwa [BandWork.vacate_unopened st opened]

/-- A gate that leaves its state changes the gates of the band alone. -/
theorem BandWork.vacate_gates (w : BandWork) (i : Nat) (st : GateState) :
    (w.vacate i st).band = { w.band with gates := (w.vacate i st).band.gates } := by
  by_cases opened : (w.band.gate i).state = .opened
  · rw [BandWork.vacate_opened st opened]
    exact BandWork.promote_gates _
  · rw [BandWork.vacate_unopened st opened]
    rfl

/-- An OPEN gate closes, and its place goes to the loudest PENDING gate of the lowest position, if any gate is PENDING (R121). -/
theorem BandWork.vacate_closed_gates {w : BandWork} {i : Nat} (hi : i < w.band.gates.length)
    (opened : (w.band.gate i).state = .opened) :
    ((∀ k < w.band.gates.length, (w.band.gate k).state ≠ .pending) ∧
      (w.vacate i .closed).band.gates = w.band.gates.set i { w.band.gate i with state := .closed, hold := none }) ∨
    ∃ j < w.band.gates.length, (w.band.gate j).state = .pending ∧
      (∀ k < w.band.gates.length, (w.band.gate k).state = .pending →
        (w.band.gate k).latest < (w.band.gate j).latest ∨ ((w.band.gate k).latest = (w.band.gate j).latest ∧ j ≤ k)) ∧
      (w.vacate i .closed).band.gates =
        (w.band.gates.set i { w.band.gate i with state := .closed, hold := none }).set j
          { w.band.gate j with state := .opened } := by
  obtain ⟨v, hv⟩ : ∃ v, v = w.set i .closed none := ⟨_, rfl⟩
  have band := w.set_band i .closed none
  have length := (w.set_like i .closed none).length
  have here := w.set_gate .closed none hi
  have others := fun k (hk : k ≠ i) => w.set_gate_ne .closed none hk
  rw [BandWork.vacate_opened _ opened]
  rw [← hv] at band length here others ⊢
  have same : ∀ k, (w.band.gate k).state = .pending → v.band.gate k = w.band.gate k := fun k pending =>
    others k fun eq => by rw [eq, opened] at pending; cases pending
  cases picked : v.band.loudestPending with
  | none =>
    rw [BandWork.promote_none picked]
    refine .inl ⟨fun k hk pending => ?_, congrArg Band.gates band⟩
    exact Band.not_pending_of_loudestPending picked (length ▸ hk) ((same k pending).symm ▸ pending)
  | some j =>
    obtain ⟨hj, pending⟩ := Band.mem_inState.1 (pickBest_mem _ picked)
    have kept : v.band.gate j = w.band.gate j := others j fun eq => by rw [eq, here] at pending; cases pending
    rw [BandWork.promote_some picked]
    refine .inr ⟨j, length ▸ hj, kept ▸ pending, fun k hk waits => ?_, ?_⟩
    · have highest := Band.loudestPending_highest picked (length ▸ hk) ((same k waits).symm ▸ waits)
      rwa [same k waits, kept] at highest
    · rw [BandWork.keepHold, BandWork.set_band, kept, band]

theorem State.workBand_of_changed {s : State} {b : Nat} {f : BandWork → BandWork} (changed : (f ⟨s.band b, false⟩).changed = true) :
    s.workBand b f =
      { s with
        bands := s.bands.set b (f ⟨s.band b, false⟩).band
        clp := { s.clp with marks := { s.clp.marks with band := s.clp.marks.band ||| BitVec.twoPow 4 b } } } := by
  rw [State.workBand_eq, if_pos changed]

/-! ### The expiry at the part -/

section
variable {s : State} {b : Fin 4} {p : Fin 24} (on : s.power = .on) (feed : (s.band b).feed = true)
  (due : isDue ((s.band b).gate p).hold (s.now + 1) = true)
include on feed due

theorem execGateHoldExpiry_of_due (asked : ((s.band b).gate p).state = .opened ∨ ((s.band b).gate p).state = .pending) :
    exec (.gateHoldExpiry b p) s = .next (s.workBand b fun w => w.vacate p .closed).settle := by
  refine (State.whenOn_of_on on fun s => s.gateTimer b p).trans ?_
  have holdDue : (s.band b).holdDue (s.now + 1) p = true := (Band.holdDue_iff ..).2 ⟨asked, due⟩
  simp only [State.gateTimer, feed, holdDue, Bool.and_self, if_true]

end

/-- Settles O31: the expiry vacates one gate, and only its promotion moves another. -/
theorem gateHoldExpiryClosesTheGate : Obligations.GateHoldExpiryClosesTheGate := by
  intro s b p on bands gates hp feed due
  have hp : p.val < (s.band b).gates.length := gates ▸ hp
  refine ⟨fun pending => ?_, fun opened => ?_⟩
  · have unopened : ((s.band b).gate p).state ≠ .opened := by simp [pending]
    have leaves := BandWork.vacate_unopened (w := ⟨s.band b, false⟩) .closed unopened
    have moves : ((s.band b).gate p).state ≠ .closed := by simp [pending]
    rw [execGateHoldExpiry_of_due on feed due (.inr pending),
      State.workBand_of_changed (BandWork.vacate_changed (w := ⟨s.band b, false⟩) moves), leaves, BandWork.set_band]
  · have moves : ((s.band b).gate p).state ≠ .closed := by simp [opened]
    have written := State.workBand_of_changed (s := s) (b := b) (f := fun w => w.vacate p .closed) (BandWork.vacate_changed moves)
    have band := s.workBand_band (fun w => w.vacate p .closed) (b := b) (by omega)
    refine ⟨_, execGateHoldExpiry_of_due on feed due (.inl opened), ?_, ?_, ?_⟩
    · rw [band, ← gates]
      rcases BandWork.vacate_closed_gates (w := ⟨s.band b, false⟩) hp opened with
        ⟨quiet, closed⟩ | ⟨j, hj, waits, highest, promoted⟩
      · rw [if_pos (by simpa using quiet)]
        exact closed
      · rw [if_neg (by simpa using ⟨j, hj, waits⟩)]
        exact ⟨j, List.mem_range.2 hj, waits, fun k hk => highest k (List.mem_range.1 hk), promoted⟩
    · rw [band, ← BandWork.vacate_gates ⟨s.band b, false⟩ p .closed, written]
    · rw [written]

end Sys2Proof.Machine
end

section
/-! LIVE_START and VOICE_BLOCK (R138 to R140): the request by its checks, and a block at the queue by the session's state. -/

namespace Sys2Proof.Machine

/-! ### LIVE_START (R138) -/

/-- The priority in force of a LIVE_START is the requested one within 1..15, and within 1..14 without an emergency. -/
theorem livePriority_eq (n : Nat) (emergency : Bool) :
    livePriority n emergency = max 1 (min n (if emergency then 15 else 14)) := by
  unfold livePriority clamp
  cases emergency
  · dsimp only
    split
    · simp; omega
    · simp at *; omega
  · simp

/-- The session of a LIVE_START with its source at the tail of the activation list. -/
def State.opened (s : State) (priority : Nat) (zones : ZoneSet) : State :=
  { s with
    lvq := { Lvq.initial with state := .opening, priority := some priority, target := zones }
    bim := { s.bim with activation := s.bim.activation ++ [.live] }
    clp := { s.clp with marks := { s.clp.marks with live := true } } }

section
variable {s : State} {tag : Octet} {body : List Octet}

theorem handleLiveStart_of_noZone (empty : zonesAt body 1 = 0#24) : handleLiveStart tag body s = s.answer tag .invalid [] :=
  if_pos empty

section
variable (zones : zonesAt body 1 ≠ 0#24)
include zones

theorem handleLiveStart_of_session (busy : s.lvq.state ≠ .none) : handleLiveStart tag body s = s.answer tag .busy [] :=
  (if_neg zones).trans (if_pos (by simpa using busy))

theorem handleLiveStart_of_free (free : s.lvq.state = .none) :
    handleLiveStart tag body s =
      (s.opened (livePriority (u8 body 0) s.anyEmergency) (zonesAt body 1)).answer tag .ok
        (e8 (livePriority (u8 body 0) s.anyEmergency)) :=
  (if_neg zones).trans (if_neg (by simp [free]))

end

end

/-! ### VOICE_BLOCK (R139, R140) -/

theorem gapMark_eq (q : Lvq) (seq : Octet) : gapMark q seq = (q.gapPending || q.lastSeq.any fun n => seq != n + 1#8) := by
  unfold gapMark
  cases q.lastSeq <;> rfl

/-- The queue after a block that it accepts. -/
def Lvq.queued (q : Lvq) (seq : Octet) (data : List Octet) : Lvq :=
  { q with queue := q.queue ++ [⟨seq, data, gapMark q seq⟩], lastSeq := some seq, gapPending := false }

/-- A block that completes the prefill brings an OPENING or a STARVED session to PLAYING; another block changes the queue alone. -/
theorem Lvq.accept_eq (q : Lvq) (seq : Octet) (data : List Octet) (state : q.state ≠ .none) (stays : q.state ≠ .draining) :
    q.accept seq data =
      { q.queued seq data with
        state := if q.queue.length = 2 then .playing else q.state
        starve := if q.queue.length = 2 ∧ q.state = .starved then 0 else q.starve } := by
  unfold Lvq.accept
  by_cases two : q.queue.length = 2
  · simp only [List.length_append, List.length_singleton, two, if_true]
    cases now : q.state with
    | none => exact absurd now state
    | draining => exact absurd now stays
    | opening => simp [Lvq.queued]
    | playing => simp [Lvq.queued, now]
    | starved => simp [Lvq.queued]
  · simp [Lvq.queued, two]

section
variable {s : State} (seq : Octet) (data : List Octet)

theorem State.takeVoice_of_closed (closed : s.lvq.state = .none ∨ s.lvq.state = .draining) : s.takeVoice seq data = s := by
  unfold State.takeVoice
  rcases closed with state | state <;> rw [state]

theorem State.takeVoice_of_open (state : s.lvq.state ≠ .none) (stays : s.lvq.state ≠ .draining) :
    s.takeVoice seq data =
      if s.lvq.queue.length < 16 then
        (s.modLvq fun q => q.accept seq data).markIf ((s.lvq.accept seq data).state != s.lvq.state) (·.markLive)
      else s.modLvq fun q => { q with overflows := min (q.overflows + 1) 65535, gapPending := true } := by
  unfold State.takeVoice
  split
  · next none => exact absurd none state
  · next draining => exact absurd draining stays
  · rfl

/-- The live mark under a condition is the condition joined to the mark. -/
theorem State.markIf_markLive (s : State) (b : Bool) :
    s.markIf b (·.markLive) = s.modMarks fun m => { m with live := m.live || b } := by
  cases b
  · simp [State.modMarks, State.modClp]
  · simp [State.markLive]

/-- The state changes exactly where a block completes the prefill of a session that is not PLAYING. -/
theorem Lvq.accept_state_changes {q : Lvq} (state : q.state ≠ .none) (stays : q.state ≠ .draining) :
    ((q.accept seq data).state != q.state) = (q.queue.length == 2 && q.state != .playing) := by
  rw [Lvq.accept_eq q seq data state stays]
  by_cases two : q.queue.length = 2
  · simp only [two, if_true, beq_self_eq_true, Bool.true_and]
    exact bne_comm
  · simp [two]

end

theorem exec_voiceBlock (s : State) (tag : Octet) {body : List Octet} (on : s.power = .on) (length : body.length = 129) :
    exec (.voiceBlock tag body) s = .next (s.hunt.takeVoice (octetAt body 0) (body.drop 1)).settle := by
  refine (State.whenOn_of_on on fun s => takeVoiceBlock body s.hunt).trans ?_
  rw [takeVoiceBlock, if_pos length]

/-- Settles O36: the request by its three outcomes, and a block by the session's state and the room in the queue. -/
theorem liveSessionOpensAndTakesBlocks : Obligations.LiveSessionOpensAndTakesBlocks := by
  refine ⟨fun s tag body accepts length => ?_, fun s tag body on length => ?_⟩
  · have ⟨⟨_, _, free, _⟩, _⟩ := accepts
    have fits : (body.length == 4) = true := by simp [length]
    refine ⟨fun empty => State.frameIn_answered accepts fits (handleLiveStart_of_noZone empty),
      fun zones busy => State.frameIn_answered accepts fits (handleLiveStart_of_session (s := s.seat 0x30#8 tag) zones busy),
      fun zones idle => ?_⟩
    have handled := handleLiveStart_of_free (s := s.seat 0x30#8 tag) (tag := tag) zones idle
    refine (State.frameIn_replied accepts fits handled rfl rfl free).trans ?_
    rw [livePriority_eq]
    rfl
  · refine ⟨fun closed => ?_, fun opened => ?_⟩
    · rw [exec_voiceBlock s tag on length, State.takeVoice_of_closed (s := s.hunt) _ _ closed]
      rfl
    · have state : s.hunt.lvq.state ≠ .none := by rcases opened with h | h | h <;> simp [State.hunt, h]
      have stays : s.hunt.lvq.state ≠ .draining := by rcases opened with h | h | h <;> simp [State.hunt, h]
      rw [exec_voiceBlock s tag on length, State.takeVoice_of_open _ _ state stays]
      refine ⟨fun room => ?_, fun full => ?_⟩
      · rw [if_pos (show s.hunt.lvq.queue.length < 16 from room), Lvq.accept_state_changes _ _ state stays,
          State.markIf_markLive]
        simp only [State.modLvq, Lvq.accept_eq _ _ _ state stays, Lvq.queued, gapMark_eq]
        rfl
      · rw [if_neg (show ¬ s.hunt.lvq.queue.length < 16 from Nat.not_lt.2 full)]
        rfl

end Sys2Proof.Machine
end

section
/-! The sources that are active (R129, R130) at an audio block boundary: as a player or the live session does its part there, all
sources stand with the activation list, or the one at work has ended and has left the list. -/

namespace Sys2Proof.Machine

/-! ### The sources and the activation list -/

/-- Which sources are active, and the activation list. -/
def State.sources (s : State) : (Source → Bool) × List Source := (s.runs, s.bim.activation)

/-- The same after a source has ended. -/
def State.sourcesWithout (s : State) (src : Source) : (Source → Bool) × List Source :=
  (fun x => s.runs x && x != src, s.bim.activation.filter (· != src))

/-- From `s` to `t` the source at work has ended, or no source has. -/
def State.SourceStep (src : Source) (s t : State) : Prop := t.sources = s.sources ∨ t.sources = s.sourcesWithout src

/-- The activation list is what is left of `l` without the sources that are no longer active. -/
def State.Lists (s : State) (l : List Source) : Prop := s.bim.activation = l.filter s.runs

theorem State.SourceStep.lists {src : Source} {s t : State} (step : State.SourceStep src s t) {l : List Source}
    (h : s.Lists l) : t.Lists l := by
  unfold State.Lists at *
  rcases step with same | ended
  · obtain ⟨runs, list⟩ := Prod.ext_iff.1 same
    exact list.trans (h.trans (congrArg (l.filter ·) runs.symm))
  · obtain ⟨runs, list⟩ := Prod.ext_iff.1 ended
    have runs : t.runs = fun x => s.runs x && x != src := runs
    have list : t.bim.activation = s.bim.activation.filter (· != src) := list
    rw [list, h, List.filter_filter, runs]
    exact List.filter_congr fun x _ => Bool.and_comm ..

theorem State.SourceStep.after {src : Source} {r s t : State} (step : State.SourceStep src s t) (same : s.sources = r.sources) :
    State.SourceStep src r t := by
  obtain ⟨runs, list⟩ := Prod.ext_iff.1 same
  have runs : s.runs = r.runs := runs
  have list : s.bim.activation = r.bim.activation := list
  refine step.imp (·.trans same) (·.trans ?_)
  rw [State.sourcesWithout, State.sourcesWithout, runs, list]

theorem State.runs_congr {s t : State} (lvq : t.lvq = s.lvq) (apl : t.apl = s.apl) : t.runs = s.runs := by
  funext src
  cases src with
  | live => exact congrArg (fun q : Lvq => q.state != .none) lvq
  | player p => exact congrArg (fun a : Apl => (a.players.getD p Player.initial).running) apl

theorem State.sources_of_eq {s t : State} (lvq : t.lvq = s.lvq) (apl : t.apl = s.apl) (bim : t.bim = s.bim) :
    t.sources = s.sources := Prod.ext (State.runs_congr lvq apl) (congrArg Bim.activation bim)

theorem State.markPlayer_sources (s : State) (p : Nat) : (s.markPlayer p).sources = s.sources :=
  State.sources_of_eq rfl rfl rfl

/-! ### Work on a player's record -/

section
variable {s : State} {p : Nat}

/-- Which sources are active after work that leaves the players but for player `p`. -/
theorem State.runs_of_sansRun {t : State} (h : t.sansRun p = s.sansRun p) {src : Source} (other : src ≠ .player p) :
    t.runs src = s.runs src := by
  cases src with
  | live =>
    have lvq : t.lvq = s.lvq := congrArg (·.lvq) h
    exact congrArg (fun q : Lvq => q.state != .none) lvq
  | player q => exact congrArg Player.running (State.player_of_sansRun h fun eq => other (eq ▸ rfl))

/-- Work that neither starts nor ends a player changes neither the active sources nor the activation list. -/
theorem State.workPlayer_sources (hp : p < s.apl.players.length) {f : Player → Player}
    (hf : (f (s.player p)).running = (s.player p).running) : (s.workPlayer p f).sources = s.sources := by
  refine Prod.ext (funext fun src => ?_) (congrArg Bim.activation (s.workPlayer_bim p f))
  by_cases at_p : src = .player p
  · subst at_p
    exact (congrArg Player.running (State.workPlayer_player hp f)).trans hf
  · exact State.runs_of_sansRun (s.workPlayer_sansRun p f) at_p

theorem State.deactivate_activation (s : State) (src : Source) :
    (s.deactivate src).bim.activation = s.bim.activation.filter (· != src) :=
  State.markIf_frame (·.bim.activation) (by cases src <;> rfl)

theorem State.endPlayer_activation (s : State) (p : Nat) (r : PlayEndReason) :
    (s.endPlayer p r).bim.activation = s.bim.activation.filter (· != .player p) := by
  rw [State.endPlayer, State.markPlayer, State.modMarks_bim, State.deactivate_activation, State.workPlayer_bim,
    State.orphanRead, State.modCsc_bim]

/-- A player that ends leaves the active sources and the activation list (R130, R155). -/
theorem State.endPlayer_sources (hp : p < s.apl.players.length) (r : PlayEndReason) :
    (s.endPlayer p r).sources = s.sourcesWithout (.player p) := by
  have runs : ∀ src, (s.endPlayer p r).runs src = (s.runs src && src != .player p) := fun src => by
    by_cases at_p : src = .player p
    · subst at_p
      simp only [State.runs, State.endPlayer_player hp]
      simp [Player.finish, Player.running]
    · rw [State.runs_of_sansRun (s.endPlayer_sansRun p r) at_p]
      simp [at_p]
  exact Prod.ext (funext runs) (s.endPlayer_activation p r)

/-! ### The walk and the blocks (R150, R151, R154) -/

/-- A player that enters an item runs as before (R151). -/
theorem State.entered_running (s : State) (x : Player) (i : Nat) (cs : List LoopCounter) (skips : Nat) :
    ({ s.entered x i with counters := cs, skips := skips } : Player).running = x.running := by
  unfold State.entered Player.running
  cases s.entryProgress i with
  | pause n => cases x.state <;> rfl
  | clip => rfl
  | none => rfl

/-- A walk that starts at a boundary ends no player: the end that it finds is pending (R150). -/
theorem State.walkFrom_sources (hp : p < s.apl.players.length) (start : Option Nat) :
    (s.walkFrom p start true).sources = s.sources := by
  have worked : ∀ f, (∀ x, (f x).running = x.running) → ((s.orphanRead p).workPlayer p f).sources = s.sources := fun f hf =>
    (State.workPlayer_sources (s := s.orphanRead p) hp (hf _)).trans (State.sources_of_eq rfl rfl rfl)
  unfold State.walkFrom
  dsimp only
  split
  · exact worked _ fun x => State.entered_running _ x _ _ _
  · exact worked _ fun _ => rfl
  · rw [if_pos rfl]
    exact worked _ fun _ => rfl

theorem State.workPlayer_length (s : State) (p : Nat) (f : Player → Player) :
    (s.workPlayer p f).apl.players.length = s.apl.players.length :=
  State.players_length_of_sansRun (s.workPlayer_sansRun p f)

theorem State.afterLast_sources (hp : p < s.apl.players.length) : (s.afterLast p).sources = s.sources := by
  unfold State.afterLast
  dsimp only
  split
  · exact State.workPlayer_sources hp rfl
  · exact State.walkFrom_sources hp _

theorem State.offerBlock_sources (hp : p < s.apl.players.length) : (s.offerBlock p).sources = s.sources := by
  have worked : ∀ f, (f (s.player p)).running = (s.player p).running →
      ((s.workPlayer p f).afterLast p).sources = s.sources := fun f hf =>
    (State.afterLast_sources (by rwa [State.workPlayer_length])).trans (State.workPlayer_sources hp hf)
  unfold State.offerBlock
  dsimp only
  split
  · exact State.workPlayer_sources hp rfl
  · split
    · exact worked _ rfl
    · exact State.workPlayer_sources hp rfl
  · split
    · rw [State.markPlayer_sources]
      exact State.workPlayer_sources hp rfl
    · split
      · exact worked _ rfl
      · exact State.workPlayer_sources hp rfl

theorem State.cutItem_sources (hp : p < s.apl.players.length) : State.SourceStep (.player p) s (s.cutItem p) := by
  have worked : ∀ f, (f (s.player p)).running = (s.player p).running → (s.workPlayer p f).sources = s.sources := fun f hf =>
    State.workPlayer_sources hp hf
  have length := fun f => (s.workPlayer_length p f).symm ▸ hp
  unfold State.cutItem
  dsimp only
  split
  · exact State.SourceStep.after (.inr (State.endPlayer_sources (length _) _)) (worked _ rfl)
  · exact .inl ((State.walkFrom_sources (length _) _).trans (worked _ rfl))

/-- At an audio block boundary a player ends, or the active sources stand with the activation list. -/
theorem State.playerBoundary_sources (hp : p < s.apl.players.length) : State.SourceStep (.player p) s (s.playerBoundary p) := by
  have target := State.workPlayer_sources hp (f := fun x => { x with target := s.boundaryTarget x }) rfl
  have length : p < (s.workPlayer p fun x => { x with target := s.boundaryTarget x }).apl.players.length := by
    rwa [State.workPlayer_length]
  unfold State.playerBoundary
  dsimp only
  split
  · split
    · exact State.SourceStep.after (.inr (State.endPlayer_sources length _)) target
    · split
      · exact .inl ((State.walkFrom_sources (by rwa [State.workPlayer_length]) _).trans
          ((State.workPlayer_sources length rfl).trans target))
      · split
        · exact (State.cutItem_sources length).after target
        · split
          · exact .inl target
          · exact .inl ((State.offerBlock_sources length).trans target)
  · exact .inl rfl

/-! ### What the players' boundaries keep -/

theorem State.afterLast_sansRun (s : State) (p : Nat) : (s.afterLast p).sansRun p = s.sansRun p := by
  unfold State.afterLast
  dsimp only
  split
  · exact s.workPlayer_sansRun p _
  · exact s.walkFrom_sansRun p _ _

theorem State.offerBlock_sansRun (s : State) (p : Nat) : (s.offerBlock p).sansRun p = s.sansRun p := by
  unfold State.offerBlock
  dsimp only
  split
  · exact s.workPlayer_sansRun p _
  · split
    · exact (State.afterLast_sansRun _ p).trans (s.workPlayer_sansRun p _)
    · exact s.workPlayer_sansRun p _
  · split
    · exact (State.markPlayer_sansRun _ p).trans (s.workPlayer_sansRun p _)
    · split
      · exact (State.afterLast_sansRun _ p).trans (s.workPlayer_sansRun p _)
      · exact s.workPlayer_sansRun p _

theorem State.cutItem_sansRun (s : State) (p : Nat) : (s.cutItem p).sansRun p = s.sansRun p := by
  unfold State.cutItem
  dsimp only
  split
  · exact (State.endPlayer_sansRun _ p _).trans (s.workPlayer_sansRun p _)
  · exact (State.walkFrom_sansRun _ p _ _).trans (s.workPlayer_sansRun p _)

/-- The boundary of a player changes its run alone, with the winners and the operation on the flash port. -/
theorem State.playerBoundary_sansRun (s : State) (p : Nat) : (s.playerBoundary p).sansRun p = s.sansRun p := by
  have target := s.workPlayer_sansRun p fun x => { x with target := s.boundaryTarget x }
  unfold State.playerBoundary
  dsimp only
  split
  · split
    · exact (State.endPlayer_sansRun _ p _).trans target
    · split
      · exact (State.walkFrom_sansRun _ p _ _).trans ((State.workPlayer_sansRun _ p _).trans target)
      · split
        · exact (State.cutItem_sansRun _ p).trans target
        · split
          · exact target
          · exact (State.offerBlock_sansRun _ p).trans target
  · rfl

/-- A player at rest has no part in a boundary. -/
theorem State.playerBoundary_of_rest (h : (s.player p).running = false) : s.playerBoundary p = s := by
  unfold State.playerBoundary
  simp [h]

/-- With every player at rest the boundaries of the players change nothing. -/
theorem State.playerBoundaries_of_rest (h : ∀ x ∈ s.apl.players, x.state = .idle) : s.playerBoundaries = s := by
  have rest : ∀ p, (s.player p).running = false := fun p => by
    rw [State.player, List.getD_eq_getElem?_getD]
    cases found : s.apl.players[p]? with
    | none => rfl
    | some x => simp [Player.running, h x (List.mem_of_getElem? found)]
  exact State.each_keeps (P := (· = s)) (fun t p _ eq => by rw [eq]; exact State.playerBoundary_of_rest (rest p)) rfl

/-- The players' boundaries keep the activation list that of the active sources. -/
theorem State.playerBoundaries_lists {l : List Source} (length : s.apl.players.length = 4) (h : s.Lists l) :
    s.playerBoundaries.Lists l := by
  refine (State.each_keeps (P := fun t => t.apl.players.length = 4 ∧ t.Lists l) (fun t p mem h => ?_) ⟨length, h⟩).2
  obtain ⟨length, lists⟩ := h
  exact ⟨(State.players_length_of_sansRun (t.playerBoundary_sansRun p)).trans length,
    (State.playerBoundary_sources (length ▸ List.mem_range.1 mem)).lists lists⟩

/-- The players' boundaries neither bring the live session into the activation list nor take it out. -/
theorem State.playerBoundaries_live (s : State) : .live ∈ s.playerBoundaries.bim.activation ↔ .live ∈ s.bim.activation := by
  rw [State.playerBoundaries]
  refine State.each_keeps (P := fun t => .live ∈ t.bim.activation ↔ .live ∈ s.bim.activation) (fun t p _ same => ?_) Iff.rfl
  have lists : (t.playerBoundary p).bim.activation.filter (· != .player p) = t.bim.activation.filter (· != .player p) :=
    congrArg (·.bim.activation) (t.playerBoundary_sansRun p)
  have live := congrArg (Source.live ∈ ·) lists
  rw [← same]
  simpa [List.mem_filter] using live

end

end Sys2Proof.Machine
end

section
/-! The audio block boundary before its sources (R42, R112, R133): the split and the voter's flags; and what the parts of the boundary
leave unchanged. -/

namespace Sys2Proof.Machine

/-! ### What the parts of the boundary leave unchanged -/

/-- What the voter, the sources and the mixer leave unchanged at an audio block boundary. -/
def State.besidesBlock (s : State) : Nat × Zmg × Lpc × Sau × Pbe × List Band × Flash × Nat × Bool :=
  (s.blockAt, s.zmg, s.lpc, s.sau, s.pbe, s.bands, s.flash, s.now, s.loopOn)

/-- What the sources and the mixer leave unchanged there. -/
def State.besidesSources (s : State) :
    (Nat × Zmg × Lpc × Sau × Pbe × List Band × Flash × Nat × Bool) × List Channel × BitVec 8 :=
  (s.besidesBlock, s.channels, s.clp.marks.channel)

/-- What the players leave unchanged there. -/
def State.besidesPlayers (s : State) := (s.besidesSources, s.lvq, s.clp.marks.live)

theorem State.playerBoundaries_besides (s : State) : s.playerBoundaries.besidesPlayers = s.besidesPlayers :=
  State.each_frame State.besidesPlayers fun t p _ => by
    have kept := t.playerBoundary_sansRun p
    have masked : ∀ v : State, v.besidesPlayers = (v.sansRun p).besidesPlayers := fun _ => rfl
    rw [masked (t.playerBoundary p), kept, ← masked]

/-! ### The split and the voter (R42, R112) -/

/-- The state without the channels' records and the notice marks of other sources than the units. -/
def State.sansVoter (s : State) : State :=
  { s with
    channels := s.channels.map fun _ => Channel.initial ChanCfg.default
    clp := { s.clp with marks := s.clp.marks.ruAlone } }

theorem State.channels_length_of_sansVoter {s t : State} (h : t.sansVoter = s.sansVoter) :
    t.channels.length = s.channels.length := by
  have same := congrArg (·.channels.length) h
  simpa [State.sansVoter] using same

/-- The voter's part of a boundary on one channel. -/
def State.flagsMove (s : State) (c : Nat) : State :=
  (s.modChannels fun l => l.set c { s.channel c with blockFlag := (s.channel c).deferred, deferred := false }).markIf
    (s.channel c).deferred (·.markChannel c)

theorem State.voterBoundary_eq (s : State) : s.voterBoundary = s.each (List.range 8) State.flagsMove := rfl

theorem State.flagsMove_channels (s : State) (c : Nat) :
    (s.flagsMove c).channels =
      s.channels.set c { s.channel c with blockFlag := (s.channel c).deferred, deferred := false } :=
  State.markIf_frame State.channels rfl

theorem State.flagsMove_grows (s : State) (c : Nat) : State.Grows State.sansVoter s (s.flagsMove c) := by
  have written : State.Grows State.sansVoter s
      (s.modChannels fun l => l.set c { s.channel c with blockFlag := (s.channel c).deferred, deferred := false }) :=
    ⟨by simp [State.sansVoter, List.map_const'], .refl _⟩
  exact written.trans (.markIf (.modMarks rfl (.addChannel _ _)))

theorem State.voterBoundary_grows (s : State) : State.Grows State.sansVoter s s.voterBoundary :=
  .each fun t c _ => t.flagsMove_grows c

/-- A channel after the voter's part of a boundary: its block flag is its deferred flag, which is clear (R112). -/
theorem State.voterBoundary_channel {s : State} {c : Nat} (hc : c < 8) (length : s.channels.length = 8) :
    s.voterBoundary.channel c = { s.channel c with blockFlag := (s.channel c).deferred, deferred := false } ∧
      ((s.channel c).deferred = true → s.voterBoundary.clp.marks.channel.getLsbD c = true) := by
  obtain ⟨v, grows, kept, rest, last⟩ := State.each_at (s := s) (State.channel · c) List.nodup_range (List.mem_range.2 hc)
    (fun t d _ => t.flagsMove_grows d) fun t _ d _ hd => by
      rw [State.channel, State.flagsMove_channels, State.channel]
      simp [State.channel, List.getElem?_set_ne hd]
  have kept : v.channel c = s.channel c := kept
  have lengths : v.channels.length = 8 := (State.channels_length_of_sansVoter grows.same).trans length
  rw [State.voterBoundary_eq]
  refine ⟨last.trans ?_, fun deferred => rest.marks.channel c ?_⟩
  · rw [State.channel, State.flagsMove_channels, kept]
    simp [lengths, hc]
  · rw [State.flagsMove, kept, deferred, State.markIf_true]
    simp [State.markChannel, hc]

/-- The state as the audio block boundary begins: the boundary is recorded as taken. -/
def State.atBlock (s : State) : State := { s with blockAt := s.now }

/-- The split installed and the voter's flags moved: what the sources find. -/
def State.blockBegun (s : State) : State := s.atBlock.installSplit.voterBoundary

/-- What the voter's part of a boundary leaves unchanged. -/
def State.besidesVoter (s : State) := (s.besidesBlock, s.lvq, s.bim, s.apl)

section
variable (s : State)

theorem State.voterBoundary_besides : s.voterBoundary.besidesVoter = s.besidesVoter :=
  (s.voterBoundary_grows.map (q := State.besidesVoter) State.besidesVoter fun _ => rfl).same

/-- What the sources find is the part as it was, with the boundary and the split. -/
theorem State.blockBegun_besides :
    s.blockBegun.besidesVoter =
      ((s.now, { s.zmg with effective := s.zmg.stored }, s.lpc, s.sau, s.pbe, s.bands, s.flash, s.now, s.loopOn), s.lvq, s.bim,
        s.apl) := by
  have installed : s.atBlock.installSplit.besidesVoter =
      (s.atBlock.modZmg fun z => { z with effective := z.stored }).besidesVoter := State.markIf_frame State.besidesVoter rfl
  exact (State.voterBoundary_besides _).trans installed

theorem State.blockBegun_length : s.blockBegun.channels.length = s.channels.length := by
  have installed : s.atBlock.installSplit.channels = s.channels := State.markIf_frame State.channels rfl
  rw [State.blockBegun, State.channels_length_of_sansVoter (State.voterBoundary_grows _).same, installed]

theorem State.blockBegun_channel {c : Nat} (hc : c < 8) (length : s.channels.length = 8) :
    s.blockBegun.channel c = { s.channel c with blockFlag := (s.channel c).deferred, deferred := false } ∧
      ((s.channel c).deferred = true → s.blockBegun.clp.marks.channel.getLsbD c = true) := by
  have installed : s.atBlock.installSplit.channels = s.channels := State.markIf_frame State.channels rfl
  have moved := State.voterBoundary_channel (s := s.atBlock.installSplit) hc (by rw [installed, length])
  rw [State.channel_congr installed] at moved
  rw [State.blockBegun]
  exact moved

end

end Sys2Proof.Machine
end

section
/-! The live session at an audio block boundary (R141), row by row; and what its part of the boundary leaves unchanged. -/

namespace Sys2Proof.Machine

/-! ### The rows -/

section
variable {s : State}

theorem State.liveBoundary_of_waiting (h : s.lvq.state = .none ∨ s.lvq.state = .opening) : s.liveBoundary = s := by
  unfold State.liveBoundary
  rcases h with state | state <;> simp only [state]

/-- A session with a block in its queue gives it (R141). -/
theorem State.liveBoundary_of_block {v : VoiceBlock} {rest : List VoiceBlock}
    (h : s.lvq.state = .playing ∨ s.lvq.state = .draining) (queue : s.lvq.queue = v :: rest) :
    s.liveBoundary =
      s.modLvq fun q =>
        { q with
          queue := rest, gaps := if v.gap then min (q.gaps + 1) 65535 else q.gaps, played := min (q.played + 1) 65535
          air := .block v.gap v.data } := by
  unfold State.liveBoundary
  rcases h with state | state <;> simp only [state, queue, satInc]

theorem State.liveBoundary_of_starving (state : s.lvq.state = .playing) (queue : s.lvq.queue = []) :
    s.liveBoundary = (s.modLvq fun q => { q with state := .starved, starve := 1, air := .silence }).markLive := by
  unfold State.liveBoundary
  simp only [state, queue]

theorem State.liveBoundary_of_starved (state : s.lvq.state = .starved) (within : s.lvq.starve < 100) :
    s.liveBoundary = s.modLvq fun q => { q with starve := q.starve + 1, air := .silence } := by
  unfold State.liveBoundary
  simp only [state, if_pos within]

/-- The session ends at an audio block boundary for a reason: DRAINING with an empty queue, or STARVED for 100 blocks (R141). -/
def Lvq.EndsAtBlock (q : Lvq) (r : LiveEndReason) : Prop :=
  (q.state = .draining ∧ q.queue = [] ∧ r = .drained) ∨ (q.state = .starved ∧ 100 ≤ q.starve ∧ r = .starved)

theorem State.liveBoundary_of_end {r : LiveEndReason} (h : s.lvq.EndsAtBlock r) : s.liveBoundary = s.endLive r := by
  unfold State.liveBoundary
  rcases h with ⟨state, queue, rfl⟩ | ⟨state, limit, rfl⟩
  · simp only [state, queue]
  · simp only [state, if_neg (Nat.not_lt.2 limit)]

end

/-! ### A session that goes on, and one that ends -/

/-- What the offer of a session is made of besides its audio (R132, R137), with whether there is one at all. -/
def Lvq.offering (q : Lvq) : Bool × Bool × Option Nat × ZoneSet := (q.state != .none, q.state == .opening, q.priority, q.target)

/-- From `s` to `t` the live session has gone on: of the part its record and its mark alone have changed, and of the record not what
its offer is made of. -/
def State.LiveGoesOn (s t : State) : Prop :=
  ∃ (q : Lvq) (b : Bool), t = (s.modLvq fun _ => q).markIf b (·.markLive) ∧ q.offering = s.lvq.offering

/-- A session ends at the boundary, or it goes on. -/
theorem State.liveBoundary_cases (s : State) :
    (∃ r, s.lvq.EndsAtBlock r ∧ s.liveBoundary = s.endLive r) ∨ s.LiveGoesOn s.liveBoundary := by
  have block : ∀ v rest, s.lvq.state = .playing ∨ s.lvq.state = .draining → s.lvq.queue = v :: rest →
      s.LiveGoesOn s.liveBoundary := fun v rest state queue =>
    ⟨_, false, State.liveBoundary_of_block state queue, rfl⟩
  cases state : s.lvq.state with
  | none => exact .inr ⟨s.lvq, false, State.liveBoundary_of_waiting (.inl state), rfl⟩
  | opening => exact .inr ⟨s.lvq, false, State.liveBoundary_of_waiting (.inr state), rfl⟩
  | playing =>
    cases queue : s.lvq.queue with
    | nil => exact .inr ⟨_, true, State.liveBoundary_of_starving state queue, by rw [Lvq.offering, Lvq.offering, state]; rfl⟩
    | cons v rest => exact .inr (block v rest (.inl state) queue)
  | starved =>
    by_cases within : s.lvq.starve < 100
    · exact .inr ⟨_, false, State.liveBoundary_of_starved state within, rfl⟩
    · have ends : s.lvq.EndsAtBlock .starved := .inr ⟨state, Nat.not_lt.1 within, rfl⟩
      exact .inl ⟨_, ends, State.liveBoundary_of_end ends⟩
  | draining =>
    cases queue : s.lvq.queue with
    | nil =>
      have ends : s.lvq.EndsAtBlock .drained := .inl ⟨state, queue, rfl⟩
      exact .inl ⟨_, ends, State.liveBoundary_of_end ends⟩
    | cons v rest => exact .inr (block v rest (.inr state) queue)

/-- What the live session leaves unchanged at a boundary. -/
def State.besidesSession (s : State) := (s.besidesSources, s.apl)

section
variable {s t : State}

theorem State.LiveGoesOn.offering (h : s.LiveGoesOn t) : t.lvq.offering = s.lvq.offering := by
  obtain ⟨q, b, rfl, same⟩ := h
  exact (congrArg Lvq.offering (State.markIf_frame State.lvq rfl)).trans same

theorem State.LiveGoesOn.besides (h : s.LiveGoesOn t) : t.besidesSession = s.besidesSession ∧ t.bim = s.bim := by
  obtain ⟨q, b, rfl, -⟩ := h
  exact ⟨State.markIf_frame State.besidesSession rfl, State.markIf_frame State.bim rfl⟩

theorem State.LiveGoesOn.sources (h : s.LiveGoesOn t) : t.sources = s.sources := by
  obtain ⟨besides, bim⟩ := h.besides
  have apl : t.apl = s.apl := congrArg (·.2) besides
  refine Prod.ext (funext fun src => ?_) (congrArg Bim.activation bim)
  cases src with
  | live => exact congrArg (·.1) h.offering
  | player p => exact congrArg (fun a : Apl => (a.players.getD p Player.initial).running) apl

end

section
variable (s : State) (r : LiveEndReason)

/-- What changes neither with the replies, the live record and the mixer nor with a mark of a break-in source, stands as the session
ends. -/
theorem State.endLive_frame {α : Type} (p : State → α) (answer : ∀ v tag st fields, p (State.answer v tag st fields) = p v)
    (lvq : ∀ v f, p (State.modLvq v f) = p v) (bim : ∀ v f, p (State.modBim v f) = p v)
    (live : ∀ v, p (State.markLive v) = p v) : p (s.endLive r) = p s := by
  have answerOpt : ∀ v tag st fields, p (State.answerOpt v tag st fields) = p v := fun v tag st fields => by
    cases tag
    · rfl
    · exact answer v _ st fields
  have leaves : ∀ v, p (State.deactivate v .live) = p v := fun v => (State.markIf_frame p (live _)).trans (bim v _)
  unfold State.endLive
  exact (live _).trans ((leaves _).trans ((lvq _ _).trans (answerOpt _ _ _ _)))

theorem State.endLive_besides : (s.endLive r).besidesSession = s.besidesSession :=
  s.endLive_frame r State.besidesSession
    (fun v tag st fields => (congrArg State.besidesSession (v.answer_eq tag st fields)).trans rfl) (fun _ _ => rfl) (fun _ _ => rfl)
    fun _ => rfl

theorem State.endLive_lvq :
    (s.endLive r).lvq =
      { s.lvq with
        state := .none, priority := none, target := 0#24, queue := [], waitingEnd := none, ended := some r, air := .silence } := by
  have answered : ∀ st fields, (s.answerOpt s.lvq.waitingEnd st fields).lvq = s.lvq := fun st fields => by
    cases s.lvq.waitingEnd <;> rfl
  have left : ∀ v : State, (v.deactivate .live).markLive.lvq = v.lvq := fun v => State.markIf_frame State.lvq rfl
  unfold State.endLive
  rw [left]
  exact congrArg (fun q : Lvq => ({ q with
    state := .none, priority := none, target := 0#24, queue := [], waitingEnd := none, ended := some r, air := .silence } : Lvq))
    (answered _ _)

theorem State.endLive_activation : (s.endLive r).bim.activation = s.bim.activation.filter (· != .live) := by
  have answered : ∀ st fields, (s.answerOpt s.lvq.waitingEnd st fields).bim = s.bim := fun st fields => by
    cases s.lvq.waitingEnd <;> rfl
  unfold State.endLive
  exact (State.deactivate_activation _ _).trans (congrArg (fun b : Bim => b.activation.filter (· != .live)) (answered _ _))

/-- A session that ends leaves the active sources and the activation list (R130, R141). -/
theorem State.endLive_sources : (s.endLive r).sources = s.sourcesWithout .live := by
  refine Prod.ext (funext fun src => ?_) (s.endLive_activation r)
  cases src with
  | live =>
    refine (congrArg (fun q : Lvq => q.state != .none) (s.endLive_lvq r)).trans ?_
    simp [State.sourcesWithout]
  | player p =>
    refine (congrArg (fun v => (v.2.players.getD p Player.initial).running) (s.endLive_besides r)).trans ?_
    simp [State.sourcesWithout, State.runs, State.player, State.besidesSession]

theorem State.endLive_mark : (s.endLive r).clp.marks.live = true := rfl

end

section
variable (s : State)

theorem State.liveBoundary_besides : s.liveBoundary.besidesSession = s.besidesSession := by
  rcases s.liveBoundary_cases with ⟨r, -, ends⟩ | goes
  · rw [ends, State.endLive_besides]
  · exact goes.besides.1

theorem State.liveBoundary_sources : State.SourceStep .live s s.liveBoundary := by
  rcases s.liveBoundary_cases with ⟨r, -, ends⟩ | goes
  · rw [ends]
    exact .inr (s.endLive_sources r)
  · exact .inl goes.sources

/-- A PLAYING session goes on (R141). -/
theorem State.liveBoundary_of_playing (playing : s.lvq.state = .playing) : s.LiveGoesOn s.liveBoundary := by
  rcases s.liveBoundary_cases with ⟨r, ends, -⟩ | goes
  · rcases ends with ⟨state, -⟩ | ⟨state, -⟩ <;> cases playing.symm.trans state
  · exact goes

/-- The offer of a session that has not ended at the boundary is made of what the boundary found (R132). -/
theorem State.liveBoundary_offering (live : s.liveBoundary.lvq.state ≠ .none) :
    s.liveBoundary.lvq.offering = s.lvq.offering := by
  rcases s.liveBoundary_cases with ⟨r, -, ends⟩ | goes
  · exact absurd (by rw [ends, State.endLive_lvq]) live
  · exact goes.offering

end

end Sys2Proof.Machine
end

section
/-! The offers and the winners at an audio block boundary (R132, R133), and the boundary put together. -/

namespace Sys2Proof.Machine

/-! ### Winners (R133) -/

theorem bestOffer_mem {offers : List Offer} {o : Offer} (h : bestOffer offers = some o) : o ∈ offers := by
  induction offers generalizing o with
  | nil => cases h
  | cons x l ih =>
    unfold bestOffer at h
    cases best : bestOffer l with
    | none =>
      rw [best] at h
      exact Option.some.inj h ▸ List.mem_cons_self
    | some y =>
      rw [best] at h
      dsimp only at h
      split at h
      · exact Option.some.inj h ▸ List.mem_cons_of_mem x (ih best)
      · exact Option.some.inj h ▸ List.mem_cons_self

/-- The winner of a zone is the source of one of the offers. -/
theorem winnerOf_source {offers : List Offer} {i threshold : Nat} {src : Source} (h : winnerOf offers i threshold = some src) :
    ∃ o ∈ offers, o.source = src := by
  obtain ⟨o, best, source⟩ := Option.map_eq_some_iff.1 h
  exact ⟨o, List.mem_of_mem_filter (bestOffer_mem best), source⟩

/-- A single offer wins the zones in which it is eligible. -/
theorem winnerOf_singleton (o : Offer) (i threshold : Nat) :
    winnerOf [o] i threshold = if o.eligible i threshold then some o.source else none := by
  unfold winnerOf
  cases eligible : o.eligible i threshold <;> simp [eligible, bestOffer]

/-! ### The mixer (R133, R136) -/

/-- The threshold of the zone of index `i` (R39). -/
def State.thresholdOf (s : State) (i : Nat) : Nat := (s.zmg.zones.getD i ⟨0, .normal⟩).threshold

section
variable (s : State) (offers : List Offer)

/-- The mixer's choice changes the winners, the thresholds in force and marks of the break-in sources alone. -/
theorem State.chooseWinners_frame {α : Type} (p : State → α) (bim : ∀ t g, p (State.modBim t g) = p t)
    (mark : ∀ t src, p (State.markSource t src) = p t) : p (s.chooseWinners offers) = p s := by
  unfold State.chooseWinners
  exact (foldl_frame p _ _ fun t src => State.markIf_frame p (mark t src)).trans (bim s _)

/-- What the mixer leaves unchanged at a boundary. -/
def State.besidesMixer (s : State) := (s.besidesSources, s.lvq, s.apl)

theorem State.chooseWinners_besides : (s.chooseWinners offers).besidesMixer = s.besidesMixer :=
  s.chooseWinners_frame offers State.besidesMixer (fun _ _ => rfl) fun _ src => by cases src <;> rfl

theorem State.chooseWinners_bim :
    (s.chooseWinners offers).bim =
      { s.bim with
        winners := (List.range s.n).map fun i => winnerOf offers i (s.thresholdOf i)
        inForce := (List.range s.n).map s.thresholdOf } := by
  have chosen : (List.range s.n).map (fun i => winnerOf offers i (((List.range s.n).map s.thresholdOf).getD i 0)) =
      (List.range s.n).map fun i => winnerOf offers i (s.thresholdOf i) :=
    List.map_congr_left fun i hi => by rw [getD_map_range _ _ _ (List.mem_range.1 hi)]
  rw [← chosen]
  unfold State.chooseWinners
  exact foldl_frame State.bim _ _ fun t src => State.markIf_frame State.bim (by cases src <;> rfl)

/-- A live mark that is set stays set through the mixer's choice. -/
theorem State.chooseWinners_live (h : s.clp.marks.live = true) : (s.chooseWinners offers).clp.marks.live = true := by
  unfold State.chooseWinners
  refine List.foldlRecOn (motive := fun t : State => t.clp.marks.live = true) _ _ h fun t marked src _ => ?_
  have source : (t.markSource src).clp.marks.live = true := by
    cases src
    · rfl
    · exact marked
  unfold State.markIf
  split
  · exact source
  · exact marked

end

/-! ### The boundary put together -/

section
variable (s : State)

/-- The sources have handled the boundary (R132): the live session, then the players. -/
def State.sourcesServed : State := s.liveBoundary.playerBoundaries

theorem exec_audioBlockBoundary {s : State} (on : s.power = .on) (due : s.blockDue = true) :
    exec .audioBlockBoundary s = .next s.blockBoundary.settle := by
  refine (State.whenOn_of_on on fun s => if s.blockDue then s.blockBoundary else s).trans ?_
  rw [if_pos due]

theorem State.loopOn_of_blockDue {s : State} (due : s.blockDue = true) : s.loopOn = true := by
  simp only [State.blockDue, Bool.and_eq_true] at due
  obtain ⟨⟨⟨on, -⟩, -⟩, -⟩ := due
  exact on

theorem State.sourcesServed_kept :
    s.sourcesServed.besidesSources = s.besidesSources ∧ s.sourcesServed.lvq = s.liveBoundary.lvq ∧
      s.sourcesServed.clp.marks.live = s.liveBoundary.clp.marks.live := by
  have players := s.liveBoundary.playerBoundaries_besides
  have session := s.liveBoundary_besides
  simp only [State.besidesPlayers, State.besidesSession, Prod.mk.injEq] at players session
  obtain ⟨sources, lvq, mark⟩ := players
  obtain ⟨sources', -⟩ := session
  rw [State.sourcesServed]
  exact ⟨sources.trans sources', lvq, mark⟩

/-- The sources' part and the mixer's choice (R132, R133, R136). -/
def State.mixed (s : State) : State := s.sourcesServed.chooseWinners (s.offers s.sourcesServed)

theorem State.blockBoundary_eq : s.blockBoundary = s.blockBegun.mixed.latchOutputs := rfl

theorem State.mixed_kept :
    s.mixed.besidesSources = s.besidesSources ∧ s.mixed.lvq = s.liveBoundary.lvq ∧ s.mixed.apl = s.sourcesServed.apl := by
  have mixer := s.sourcesServed.chooseWinners_besides (s.offers s.sourcesServed)
  simp only [State.besidesMixer, Prod.mk.injEq] at mixer
  obtain ⟨sources, lvq, apl⟩ := mixer
  obtain ⟨sources', lvq', -⟩ := s.sourcesServed_kept
  rw [State.mixed]
  exact ⟨sources.trans sources', lvq.trans lvq', apl⟩

/-- The outputs taken change the keyed items and the outputs alone (R98). -/
theorem State.latchOutputs_kept :
    s.latchOutputs.besidesBlock = s.besidesBlock ∧ s.latchOutputs.lvq = s.lvq ∧ s.latchOutputs.apl = s.apl ∧
      s.latchOutputs.bim = s.bim := by
  unfold State.latchOutputs
  split <;> exact ⟨rfl, rfl, rfl, rfl⟩

/-- The Zone Manager, the loop, the engine, the bands, the flash and the time after the boundary. -/
theorem State.blockBoundary_besides :
    s.blockBoundary.besidesBlock =
      (s.now, { s.zmg with effective := s.zmg.stored }, s.lpc, s.sau, s.pbe, s.bands, s.flash, s.now, s.loopOn) := by
  have begun := s.blockBegun_besides
  obtain ⟨mixed, -⟩ := s.blockBegun.mixed_kept
  obtain ⟨latched, -⟩ := State.latchOutputs_kept s.blockBegun.mixed
  simp only [State.besidesVoter, State.besidesSources, Prod.mk.injEq] at begun mixed
  obtain ⟨begun, -⟩ := begun
  obtain ⟨mixed, -⟩ := mixed
  rw [State.blockBoundary_eq, latched, mixed, begun]

theorem State.mixed_bim :
    s.mixed.bim =
      { s.sourcesServed.bim with
        winners := (List.range s.n).map fun i => winnerOf (s.offers s.sourcesServed) i (s.thresholdOf i)
        inForce := (List.range s.n).map s.thresholdOf } := by
  obtain ⟨kept, -⟩ := s.sourcesServed_kept
  simp only [State.besidesSources, State.besidesBlock, Prod.mk.injEq] at kept
  obtain ⟨⟨-, zmg, lpc, -⟩, -⟩ := kept
  have n : s.sourcesServed.n = s.n := by rw [State.n, lpc, State.n]
  have thresholds : s.sourcesServed.thresholdOf = s.thresholdOf := by
    funext i
    rw [State.thresholdOf, State.thresholdOf, zmg]
  rw [← n, ← thresholds, State.mixed, State.chooseWinners_bim]

/-- A channel after the boundary: its flags moved, its keyed item following its state (R98, R112). -/
theorem State.blockBoundary_channel {s : State} {c : Nat} (due : s.blockDue = true) (hc : c < 8) (length : s.channels.length = 8) :
    s.blockBoundary.channel c =
        { s.channel c with blockFlag := (s.channel c).deferred, deferred := false, keyed := (s.channel c).keys } ∧
      ((s.channel c).deferred = true → s.blockBoundary.clp.marks.channel.getLsbD c = true) := by
  obtain ⟨begun, marked⟩ := s.blockBegun_channel hc length
  have besides := s.blockBegun_besides
  obtain ⟨kept, -⟩ := s.blockBegun.mixed_kept
  have lengths := s.blockBegun_length
  simp only [State.besidesVoter, State.besidesSources, State.besidesBlock, Prod.mk.injEq] at besides kept
  obtain ⟨⟨-, -, -, -, -, -, -, -, on⟩, channels, marks⟩ := kept
  obtain ⟨⟨-, -, -, -, -, -, -, -, on'⟩, -⟩ := besides
  have on := on.trans (on'.trans (State.loopOn_of_blockDue due))
  rw [State.blockBoundary_eq, State.latchOutputs_channel on (by rw [channels, lengths, length]; exact hc), State.latchOutputs_clp,
    State.channel_congr channels, begun, marks]
  exact ⟨rfl, marked⟩

end

end Sys2Proof.Machine
end

section
/-! The audio block boundary: the offers of the sources that have not ended there, and the obligation (R132, R133). -/

namespace Sys2Proof.Machine

/-! ### The offers (R132) -/

theorem ZoneSet.below_of_ge (p : Nat → Bool) {k : Nat} (hk : 24 ≤ k) : ZoneSet.below p k = ZoneSet.below p 24 := by
  induction k, hk using Nat.le_induction with
  | base => rfl
  | succ k hk ih =>
    have outside : ZoneSet.one k = 0#24 := by
      refine BitVec.eq_of_getLsbD_eq fun i hi => ?_
      rw [ZoneSet.one, BitVec.getLsbD_twoPow, BitVec.getLsbD_zero, decide_eq_false (by omega : ¬ k = i), Bool.and_false]
    rw [ZoneSet.below, outside, BitVec.or_zero, ite_self, ih]

/-- The zones that meet both of two conditions. -/
theorem ZoneSet.below_and (p q : Nat → Bool) (k : Nat) :
    ZoneSet.below p k &&& ZoneSet.below q k = ZoneSet.below (fun i => p i && q i) k := by
  have within : ∀ k ≤ 24, ZoneSet.below p k &&& ZoneSet.below q k = ZoneSet.below (fun i => p i && q i) k := fun k hk => by
    refine BitVec.eq_of_getLsbD_eq fun i _ => ?_
    have member := fun r => ZoneSet.below_mem r k i hk
    simp only [ZoneSet.mem] at member
    rw [BitVec.getLsbD_and, member, member, member]
    cases decide (i < k) <;> simp
  rcases Nat.le_total k 24 with hk | hk
  · exact within k hk
  · rw [ZoneSet.below_of_ge p hk, ZoneSet.below_of_ge q hk, ZoneSet.below_of_ge _ hk, within 24 le_rfl]

section
variable {s t : State} (zmg : t.zmg = { s.zmg with effective := s.zmg.stored }) (lpc : t.lpc = s.lpc)
include zmg lpc

/-- The EMERGENCY zones of a region under the split that the boundary installs (R42). -/
theorem State.emergencies_of_split (inA : Bool) :
    t.emergencyZones &&& t.regionZones inA =
      ZoneSet.below (fun i => s.modeOf i == .emergency && decide (i + 1 < s.zmg.stored) == inA) s.n := by
  have n : t.n = s.n := by rw [State.n, lpc, State.n]
  have modes : t.modeOf = s.modeOf := by
    funext i
    rw [State.modeOf, State.modeOf, zmg]
  have region : t.inRegionA = fun i => decide (i + 1 < s.zmg.stored) := by
    funext i
    rw [State.inRegionA, zmg]
  rw [State.emergencyZones, State.regionZones, ZoneSet.below_and, n, modes, region]

/-- The target of a player's offer is the one that the boundary derives (R132, R152). -/
theorem State.boundaryTarget_eq (p : Nat) : t.boundaryTarget (s.player p) = s.offeredTarget (.player p) := by
  have emergencies := State.emergencies_of_split zmg lpc
  unfold State.boundaryTarget State.offeredTarget
  cases binding : (s.player p).binding with
  | none => simp [binding]
  | some b => cases b <;> simp [binding, emergencies]

end

/-- The offer of a live session that there is (R132, R137). -/
theorem State.liveOffer_eq {s : State} (live : s.lvq.state ≠ .none) :
    s.liveOffer = ⟨.live, s.lvq.state != .opening, s.lvq.priority.getD 0, s.lvq.target, s.lvq.air⟩ := by
  have ready : (s.lvq.state == .playing || s.lvq.state == .starved || s.lvq.state == .draining) = (s.lvq.state != .opening) := by
    cases state : s.lvq.state
    case none => exact absurd state live
    all_goals rfl
  rw [State.liveOffer, ← ready]

/-- The offer of a session that has gone on is made of what it was made of, with its new audio. -/
theorem State.liveOffer_of_offering {s t : State} (same : t.lvq.offering = s.lvq.offering) (live : t.lvq.state ≠ .none) :
    t.liveOffer = ⟨.live, s.lvq.state != .opening, s.lvq.priority.getD 0, s.lvq.target, t.lvq.air⟩ := by
  simp only [Lvq.offering, Prod.mk.injEq] at same
  obtain ⟨-, opening, priority, target⟩ := same
  rw [State.liveOffer_eq live, bne, opening, priority, target, ← bne]

/-! ### The boundary as the sources see it -/

section
variable (s : State)

theorem State.blockBegun_kept :
    s.blockBegun.zmg = { s.zmg with effective := s.zmg.stored } ∧ s.blockBegun.lpc = s.lpc ∧ s.blockBegun.lvq = s.lvq ∧
      s.blockBegun.bim = s.bim ∧ s.blockBegun.apl = s.apl := by
  have besides := s.blockBegun_besides
  simp only [State.besidesVoter, State.besidesBlock, Prod.mk.injEq] at besides
  obtain ⟨⟨-, zmg, lpc, -⟩, lvq, bim, apl⟩ := besides
  exact ⟨zmg, lpc, lvq, bim, apl⟩

theorem State.blockBoundary_served :
    s.blockBoundary.lvq = s.blockBegun.liveBoundary.lvq ∧ s.blockBoundary.apl = s.blockBegun.sourcesServed.apl ∧
      s.blockBoundary.bim.activation = s.blockBegun.sourcesServed.bim.activation ∧
      s.blockBoundary.bim.winners =
        (List.range s.n).map (fun i => winnerOf (s.blockBegun.offers s.blockBegun.sourcesServed) i (s.thresholdOf i)) ∧
      s.blockBoundary.bim.inForce = (List.range s.n).map s.thresholdOf := by
  obtain ⟨zmg, lpc, -⟩ := s.blockBegun_kept
  have n : s.blockBegun.n = s.n := by rw [State.n, lpc, State.n]
  have thresholds : s.blockBegun.thresholdOf = s.thresholdOf := by
    funext i
    rw [State.thresholdOf, State.thresholdOf, zmg]
  obtain ⟨-, lvq, apl, bim⟩ := State.latchOutputs_kept s.blockBegun.mixed
  obtain ⟨-, lvq', apl'⟩ := s.blockBegun.mixed_kept
  rw [State.blockBoundary_eq, lvq, apl, bim, lvq', apl', State.mixed_bim, n, thresholds]
  dsimp only
  exact ⟨rfl, rfl, rfl, rfl, rfl⟩

/-- A live mark that the session's part of the boundary sets stands after the boundary. -/
theorem State.blockBoundary_live (h : s.blockBegun.liveBoundary.clp.marks.live = true) :
    s.blockBoundary.clp.marks.live = true := by
  rw [State.blockBoundary_eq, State.latchOutputs_clp, State.mixed]
  obtain ⟨-, -, mark⟩ := s.blockBegun.sourcesServed_kept
  exact State.chooseWinners_live _ _ (mark.trans h)

/-- A session that ends at the boundary is not in the activation list that the mixer finds. -/
theorem State.not_live_of_end {r : LiveEndReason} (h : s.lvq.EndsAtBlock r) : .live ∉ s.sourcesServed.bim.activation := by
  rw [State.sourcesServed, State.playerBoundaries_live, State.liveBoundary_of_end h, State.endLive_activation]
  simp

/-- No offer is LIVE's where it is not in the activation list. -/
theorem State.offers_ne_live {before after : State} (h : .live ∉ after.bim.activation) :
    ∀ o ∈ before.offers after, o.source ≠ .live := by
  intro o mem
  obtain ⟨src, listed, rfl⟩ := List.mem_map.1 mem
  cases src with
  | live => exact absurd listed h
  | player p => exact Source.noConfusion

end

/-! ### Under the law of the activation list -/

theorem State.breakInLaw.lists {s : State} (law : s.breakInLaw) : s.Lists s.bim.activation := by
  obtain ⟨-, -, runs, known, -⟩ := law
  exact (List.filter_eq_self.2 fun src mem => (runs src (known src mem)).1 mem).symm

theorem State.sourcesServed_lists {s : State} {l : List Source} (length : s.apl.players.length = 4) (h : s.Lists l) :
    s.sourcesServed.Lists l := by
  have session := s.liveBoundary_besides
  simp only [State.besidesSession, Prod.mk.injEq] at session
  obtain ⟨-, apl⟩ := session
  exact State.playerBoundaries_lists (by rw [apl, length]) (s.liveBoundary_sources.lists h)

/-- Every source keeps its place in the activation list at the boundary unless it ends there (R130). -/
theorem State.blockBoundary_activation {s : State} (law : s.breakInLaw) :
    s.blockBoundary.bim.activation = s.bim.activation.filter s.blockBoundary.runs := by
  obtain ⟨-, -, lvq, bim, apl⟩ := s.blockBegun_kept
  obtain ⟨lvq', apl', activation, -⟩ := s.blockBoundary_served
  obtain ⟨-, session, -⟩ := s.blockBegun.sourcesServed_kept
  have ⟨_, length, _⟩ := law
  have begun : s.blockBegun.Lists s.bim.activation :=
    State.SourceStep.lists (src := .live) (.inl (State.sources_of_eq lvq apl bim)) law.lists
  have served := State.sourcesServed_lists (by rw [apl, length]) begun
  have runs : s.blockBoundary.runs = s.blockBegun.sourcesServed.runs := State.runs_congr (lvq'.trans session.symm) apl'
  rw [activation, runs, ← served]

/-- The offers that the mixer takes are those of the sources that are active after the boundary (R132). -/
theorem State.blockBoundary_offers {s : State} (law : s.breakInLaw) :
    s.blockBegun.offers s.blockBegun.sourcesServed = s.blockBoundary.bim.activation.map (s.offerAt s.blockBoundary) := by
  obtain ⟨zmg, lpc, lvq, -, apl⟩ := s.blockBegun_kept
  obtain ⟨lvq', apl', activation, -⟩ := s.blockBoundary_served
  rw [State.offers, ← activation]
  refine List.map_congr_left fun src mem => ?_
  have active : s.blockBoundary.runs src = true := by
    rw [State.blockBoundary_activation law] at mem
    exact (List.mem_filter.1 mem).2
  cases src with
  | live =>
    have live : s.blockBegun.liveBoundary.lvq.state ≠ .none := by
      rw [← lvq']
      simpa [State.runs] using active
    have offering := s.blockBegun.liveBoundary_offering live
    obtain ⟨-, served, -⟩ := s.blockBegun.sourcesServed_kept
    rw [← served, lvq] at offering
    rw [← served] at live
    dsimp only
    rw [State.liveOffer_of_offering offering live, served, ← lvq']
    rfl
  | player p =>
    have record : ∀ v : State, v.apl = s.apl → v.player p = s.player p := fun v h => by rw [State.player, h, State.player]
    have air : s.blockBegun.sourcesServed.player p = s.blockBoundary.player p := by rw [State.player, ← apl', State.player]
    dsimp only
    rw [State.playerOffer, record _ apl, State.boundaryTarget_eq zmg lpc, air]
    rfl

/-! ### LIVE alone, and no source at all -/

/-- With LIVE alone active, PLAYING, and every player at rest, the session's offer is the only one. -/
theorem State.offers_of_live {s : State} (playing : s.lvq.state = .playing) (alone : s.bim.activation = [.live])
    (rest : ∀ x ∈ s.apl.players, x.state = .idle) :
    s.offers s.sourcesServed = [⟨.live, true, s.lvq.priority.getD 0, s.lvq.target, s.liveBoundary.lvq.air⟩] := by
  have goes := State.liveBoundary_of_playing s playing
  obtain ⟨besides, bim⟩ := goes.besides
  simp only [State.besidesSession, Prod.mk.injEq] at besides
  obtain ⟨-, apl⟩ := besides
  have served : s.sourcesServed = s.liveBoundary := State.playerBoundaries_of_rest (by rwa [apl])
  have live : s.liveBoundary.lvq.state ≠ .none := by
    have there := goes.offering
    simp only [Lvq.offering, playing, Prod.mk.injEq] at there
    obtain ⟨there, -⟩ := there
    exact bne_iff_ne.1 there
  rw [served, State.offers, bim, alone, List.map_singleton, State.liveOffer_of_offering goes.offering live, playing]
  rfl

/-- With no session and no source in the activation list there is no offer. -/
theorem State.offers_of_none {s : State} (none : s.lvq.state = .none) (empty : s.bim.activation = [])
    (rest : ∀ x ∈ s.apl.players, x.state = .idle) : s.offers s.sourcesServed = [] := by
  have session := State.liveBoundary_of_waiting (s := s) (.inl none)
  have served : s.sourcesServed = s := by
    rw [State.sourcesServed, session]
    exact State.playerBoundaries_of_rest rest
  rw [served, State.offers, empty, List.map_nil]

/-- What the boundary leaves of a session that ends there (R130, R136, R141). -/
theorem State.blockBoundary_of_end {s : State} {r : LiveEndReason} (h : s.lvq.EndsAtBlock r) :
    s.blockBoundary.lvq.state = .none ∧ s.blockBoundary.lvq.ended = some r ∧ s.blockBoundary.lvq.queue = [] ∧
      .live ∉ s.blockBoundary.bim.activation ∧ (∀ w ∈ s.blockBoundary.bim.winners, w ≠ some .live) ∧
      s.blockBoundary.clp.marks.live = true := by
  obtain ⟨-, -, lvq, -⟩ := s.blockBegun_kept
  obtain ⟨lvq', -, activation, winners, -⟩ := s.blockBoundary_served
  rw [← lvq] at h
  have ends := State.liveBoundary_of_end h
  have gone := State.not_live_of_end _ h
  rw [lvq', activation, winners, ends, State.endLive_lvq]
  refine ⟨rfl, rfl, rfl, gone, fun w mem live => ?_, State.blockBoundary_live s (by rw [ends, State.endLive_mark])⟩
  obtain ⟨i, -, rfl⟩ := List.mem_map.1 mem
  obtain ⟨o, offered, source⟩ := winnerOf_source live
  exact State.offers_ne_live gone o offered source

/-- Settles O34: the parts of the boundary one after another: the split and the flags, the session by its row, the offers of the
sources that have not ended, the winners. -/
theorem audioBlockBoundaryServesTheBlock : Obligations.AudioBlockBoundaryServesTheBlock := by
  intro s on due length
  obtain ⟨-, -, lvq, bim, apl⟩ := s.blockBegun_kept
  obtain ⟨lvq', -, -, winners, inForce⟩ := s.blockBoundary_served
  have besides := s.blockBoundary_besides
  simp only [State.besidesBlock, Prod.mk.injEq] at besides
  obtain ⟨blockAt, zmg, lpc, sau, pbe, bands, flash, now, -⟩ := besides
  refine ⟨s.blockBoundary, exec_audioBlockBoundary on due, blockAt, zmg, inForce, fun c hc => ?_, fun opening => ?_,
    fun v head state => ?_, fun playing empty => ?_, fun starved within => ?_, fun r _ ends => State.blockBoundary_of_end ends,
    fun law => ⟨State.blockBoundary_activation law, ?_⟩, fun playing alone rest => ?_, fun none empty rest => ?_,
    lpc, sau, pbe, bands, flash, now⟩
  · obtain ⟨channel, marked⟩ := State.blockBoundary_channel due (List.mem_range.1 hc) length
    rw [channel]
    exact ⟨rfl, rfl, rfl, rfl, marked⟩
  · rw [lvq', State.liveBoundary_of_waiting (.inr (by rw [lvq, opening])), lvq]
  · obtain ⟨rest, queue⟩ : ∃ rest, s.lvq.queue = v :: rest := List.head?_eq_some_iff.1 head
    rw [lvq', State.liveBoundary_of_block (by rwa [lvq]) (by rw [lvq, queue]), State.modLvq_lvq, lvq, queue]
    rfl
  · have starves := State.liveBoundary_of_starving (s := s.blockBegun) (by rw [lvq, playing]) (by rw [lvq, empty])
    refine ⟨?_, State.blockBoundary_live s (by rw [starves]; rfl)⟩
    rw [lvq', starves, ← lvq]
    rfl
  · rw [lvq', State.liveBoundary_of_starved (by rw [lvq, starved]) (by rwa [lvq]), State.modLvq_lvq, lvq]
  · rw [← State.blockBoundary_offers law]
    exact winners
  · have offers := State.offers_of_live (s := s.blockBegun) (by rw [lvq, playing]) (by rw [bim, alone]) (by rwa [apl])
    rw [winners, offers, lvq]
    exact List.map_congr_left fun i _ => winnerOf_singleton ..
  · rw [winners, State.offers_of_none (by rw [lvq, none]) (by rw [bim, empty]) (by rwa [apl])]
    rfl

end Sys2Proof.Machine
end

section
/-! SUPPORT. The shared operations of the Clip Store Controller (R160 to R171): the commands of the flash port by the operation that
holds it, a directory entry that changes, replies sent one after another. For each, what it does and what it leaves unchanged. -/

namespace Sys2Proof.Machine

/-! ### The commands of the flash port (R164, R165) -/

section
variable {s : State} {o : PortOp} (on : s.power = .on)
include on

theorem exec_programComplete (present : s.csc.absent = false) (port : s.csc.port = some o) (program : o.op.isProgram = true) :
    exec .programComplete s = .next ((s.freePort o).programDone o.owner o.op).settle := by
  have held : s.portOp = some o := by rw [State.portOp, present, port]; rfl
  refine (State.whenOn_of_on on State.programCompletes).trans ?_
  simp only [State.programCompletes, held, program, if_true]

theorem exec_eraseComplete (present : s.csc.absent = false) (port : s.csc.port = some o) (erase : o.op.isErase = true) :
    exec .eraseComplete s = .next ((s.freePort o).eraseDone o.owner).settle := by
  have held : s.portOp = some o := by rw [State.portOp, present, port]; rfl
  refine (State.whenOn_of_on on State.eraseCompletes).trans ?_
  simp only [State.eraseCompletes, held, erase, if_true]

theorem exec_playerReadComplete {slot index p start : Nat} (present : s.csc.absent = false)
    (port : s.csc.port = some ⟨.readBlock slot index, .player p, start⟩) :
    exec .playerReadComplete s =
      .next ((s.freePort ⟨.readBlock slot index, .player p, start⟩).workPlayer p
        fun x => x.takeBlock (readBlock s.flash slot index)).settle := by
  have held : s.portOp = some ⟨.readBlock slot index, .player p, start⟩ := by rw [State.portOp, present, port]; rfl
  refine (State.whenOn_of_on on State.playerReadCompletes).trans ?_
  simp only [State.playerReadCompletes, held]

theorem exec_verifyReadComplete {slot index start : Nat} (present : s.csc.absent = false)
    (port : s.csc.port = some ⟨.readBlock slot index, .verify, start⟩) :
    exec .verifyReadComplete s =
      .next ((s.freePort ⟨.readBlock slot index, .verify, start⟩).verifyArrives (readBlock s.flash slot index)).settle := by
  have held : s.portOp = some ⟨.readBlock slot index, .verify, start⟩ := by rw [State.portOp, present, port]; rfl
  refine (State.whenOn_of_on on State.verifyReadCompletes).trans ?_
  simp only [State.verifyReadCompletes, held]

/-- The failed operation ended on the flash, and the port free, before its owner takes the failure (R165). -/
theorem exec_flashOpFail (port : s.csc.port = some o) :
    exec .flashOpFail s =
      .next (State.ownerFails { s with flash := s.flash.cutOp o.op, csc := { s.csc with port := none } } o).settle := by
  refine (State.whenOn_of_on on State.opFails).trans ?_
  simp only [State.opFails, port]
  rfl

theorem exec_flashOpTimeout (port : s.csc.port = some o) :
    exec .flashOpTimeout s = if o.start + 8000 ≤ s.now + 1 then exec .flashOpFail s else .next s.settle := by
  refine (State.whenOn_of_on on State.opTimesOut).trans ?_
  rw [show exec .flashOpFail s = .next s.opFails.settle from State.whenOn_of_on on State.opFails]
  simp only [State.opTimesOut, port]
  split <;> rfl

end

/-! ### The operation on the port has ended -/

section
variable (s : State) (o : PortOp)

@[simp] theorem State.freePort_flash : (s.freePort o).flash = s.flash.finish o.op := rfl
@[simp] theorem State.freePort_dirEntry (k : Nat) : (s.freePort o).dirEntry k = s.dirEntry k := rfl

/-- A read leaves the flash: its end frees the port alone. -/
theorem State.freePort_of_read (slot index start : Nat) (owner : FlashOwner) :
    s.freePort ⟨.readBlock slot index, owner, start⟩ = { s with csc := { s.csc with port := none } } := rfl

end

/-! ### A directory entry changes (R160, R162) -/

/-- The clip store's part of a change of a slot's entry. -/
def Csc.setEntry (c : Csc) (slot : Nat) (old new : DirEntry) : Csc :=
  let drop := old.state != new.state && (c.verify.map (·.slot) == some slot)
  { c with
    directory := c.directory.set slot new
    verify := if drop then none else c.verify
    cursor := if drop then (slot + 1) % 63 else c.cursor }

/-- What the players' reports and the directory mark leave unchanged, a change of an entry leaves as the clip store's part of it
does. -/
theorem State.setDir_frame {α : Type} (p : State → α) (s : State) (slot : Nat) (f : DirEntry → DirEntry)
    (reported : ∀ v q g, p (State.workPlayer v q g) = p v) (marked : ∀ v, p (State.markDirectory v) = p v) :
    p (s.setDir slot f) = p (s.modCsc fun c => c.setEntry slot (s.dirEntry slot) (f (s.dirEntry slot))) := by
  have told : ∀ v : State, p (v.reportDamaged slot) = p v := fun v => State.each_frame p fun v q _ => reported v q _
  unfold State.setDir
  dsimp only
  split
  · exact (told _).trans (State.markIf_frame p (marked _))
  · exact State.markIf_frame p (marked _)

/-- The state without the directory, the verify and the players' records, and of the notice marks that of the part state alone. -/
def State.besidesDirectory (s : State) : State :=
  { s with
    apl := { s.apl with players := [] }
    csc := { s.csc with directory := [], verify := none, cursor := 0 }
    clp := { s.clp with marks := { Marks.clear with part := s.clp.marks.part } } }

theorem State.workPlayer_besidesDirectory (s : State) (p : Nat) (f : Player → Player) :
    (s.workPlayer p f).besidesDirectory = s.besidesDirectory := by
  rw [State.workPlayer_eq]
  rfl

section
variable (s : State) (slot : Nat) (f : DirEntry → DirEntry)

theorem State.setDir_besidesDirectory : (s.setDir slot f).besidesDirectory = s.besidesDirectory :=
  (State.setDir_frame State.besidesDirectory s slot f State.workPlayer_besidesDirectory fun _ => rfl).trans rfl

theorem State.setDir_directory : (s.setDir slot f).csc.directory = s.csc.directory.set slot (f (s.dirEntry slot)) :=
  (State.setDir_frame (·.csc.directory) s slot f (fun v q g => congrArg Csc.directory (v.workPlayer_csc q g)) fun _ => rfl).trans rfl

/-- With no verify in hand there is none after the change. -/
theorem State.setDir_verify (free : s.csc.verify = none) : (s.setDir slot f).csc.verify = none := by
  refine (State.setDir_frame (·.csc.verify) s slot f (fun v q g => congrArg Csc.verify (v.workPlayer_csc q g)) fun _ => rfl).trans ?_
  simp [Csc.setEntry, free]

theorem State.setDir_dirEntry_ne {k : Nat} (h : k ≠ slot) : (s.setDir slot f).dirEntry k = s.dirEntry k := by
  rw [State.dirEntry, State.setDir_directory, List.getD_eq_getElem?_getD, List.getElem?_set_ne h.symm,
    ← List.getD_eq_getElem?_getD]
  rfl

theorem State.setDir_dirEntry (h : slot < s.csc.directory.length) : (s.setDir slot f).dirEntry slot = f (s.dirEntry slot) := by
  rw [State.dirEntry, State.setDir_directory]
  simp [h]

end

/-- What a change of an entry keeps of the clip store, the flash and the link. -/
theorem State.kept_of_besidesDirectory {s t : State} (h : t.besidesDirectory = s.besidesDirectory) :
    t.flash = s.flash ∧ t.clp.replies = s.clp.replies ∧ t.clp.slots = s.clp.slots ∧ t.csc.port = s.csc.port ∧
      t.csc.upload = s.csc.upload ∧ t.csc.order = s.csc.order :=
  ⟨congrArg (·.flash) h, congrArg (·.clp.replies) h, congrArg (·.clp.slots) h, congrArg (·.csc.port) h,
    congrArg (·.csc.upload) h, congrArg (·.csc.order) h⟩

theorem State.flags_of_besidesDirectory {s t : State} (h : t.besidesDirectory = s.besidesDirectory) :
    t.csc.absent = s.csc.absent ∧ t.loopOn = s.loopOn ∧ t.clp.defaulted = s.clp.defaulted ∧ t.clp.part = s.clp.part ∧
      t.now = s.now :=
  ⟨congrArg (·.csc.absent) h, congrArg (·.loopOn) h, congrArg (·.clp.defaulted) h, congrArg (·.clp.part) h, congrArg (·.now) h⟩

theorem State.dirEntry_congr {s t : State} (h : t.csc.directory = s.csc.directory) : t.dirEntry = s.dirEntry := by
  funext slot
  rw [State.dirEntry, State.dirEntry, h]

theorem State.dirEntry_of_unlisted {s : State} {slot : Nat} (h : s.csc.directory.length ≤ slot) :
    s.dirEntry slot = { DirEntry.empty with state := .damaged } := by
  rw [State.dirEntry, List.getD_eq_default _ _ h]
  rfl

/-- A slot that becomes DAMAGED is DAMAGED, listed or not: beyond the directory nothing is played. -/
theorem State.damage_state (s : State) (slot : Nat) : ((s.damage slot).dirEntry slot).state = .damaged := by
  by_cases listed : slot < s.csc.directory.length
  · rw [State.damage, State.setDir_dirEntry _ _ _ listed]
  · have length : (s.damage slot).csc.directory.length ≤ slot := by
      rw [State.damage, State.setDir_directory, List.length_set]
      exact Nat.not_lt.1 listed
    rw [State.dirEntry_of_unlisted length]

theorem State.damage_dirEntry_ne (s : State) {slot k : Nat} (h : k ≠ slot) : (s.damage slot).dirEntry k = s.dirEntry k :=
  s.setDir_dirEntry_ne slot _ h

theorem State.damage_besidesDirectory (s : State) (slot : Nat) : (s.damage slot).besidesDirectory = s.besidesDirectory :=
  s.setDir_besidesDirectory slot _

theorem State.damaged_besidesDirectory (s : State) (slot : Nat) : (s.damaged slot).besidesDirectory = s.besidesDirectory := by
  unfold State.damaged
  split
  · rfl
  · exact s.damage_besidesDirectory slot

theorem State.damaged_dirEntry_ne (s : State) {slot k : Nat} (h : k ≠ slot) : (s.damaged slot).dirEntry k = s.dirEntry k := by
  unfold State.damaged
  split
  · rfl
  · exact s.damage_dirEntry_ne h

/-! ### Replies one after another (R176) -/

/-- Requests answered one after another, each with its status alone. -/
def State.answerEach (s : State) (l : List (Octet × Status)) : State := l.foldl (fun v x => v.answer x.1 x.2 []) s

theorem State.answerEach_append (s : State) (l m : List (Octet × Status)) :
    s.answerEach (l ++ m) = (s.answerEach l).answerEach m := List.foldl_append ..

theorem State.answerOpt_eq_each (s : State) (t : Option Octet) (st : Status) :
    s.answerOpt t st [] = s.answerEach (t.toList.map (·, st)) := by cases t <;> rfl

theorem State.answerWaiting_eq_each (s : State) (ws : List WaitingData) (st : Status) :
    s.answerWaiting ws st = s.answerEach (ws.map fun w => (w.tag, st)) := by
  rw [State.answerEach, List.foldl_map]
  rfl

/-- The state without the slots of the requests and the replies that wait for the line. -/
def State.besidesReplies (s : State) : State := { s with clp := { s.clp with slots := [], replies := [] } }

theorem State.answer_besidesReplies (s : State) (t : Octet) (st : Status) (fields : List Octet) :
    (s.answer t st fields).besidesReplies = s.besidesReplies := by
  rw [State.answer_eq]
  rfl

theorem State.answerEach_besidesReplies (s : State) (l : List (Octet × Status)) :
    (s.answerEach l).besidesReplies = s.besidesReplies :=
  foldl_frame State.besidesReplies l s fun v x => v.answer_besidesReplies x.1 x.2 []

theorem State.answerOpt_besidesReplies (s : State) (t : Option Octet) (st : Status) :
    (s.answerOpt t st []).besidesReplies = s.besidesReplies := by
  rw [State.answerOpt_eq_each]
  exact s.answerEach_besidesReplies _

/-- What replies keep of the clip store, the flash and the part state. -/
theorem State.kept_of_besidesReplies {s t : State} (h : t.besidesReplies = s.besidesReplies) :
    t.csc = s.csc ∧ t.flash = s.flash ∧ t.clp.marks = s.clp.marks :=
  ⟨congrArg (·.csc) h, congrArg (·.flash) h, congrArg (·.clp.marks) h⟩

/-- A request other than those answered waits as before. -/
theorem State.answerEach_find {l : List (Octet × Status)} {t : Octet} (h : t ∉ l.map (·.1)) (s : State) :
    (s.answerEach l).clp.slots.find? (Slot.waits t) = s.clp.slots.find? (Slot.waits t) := by
  induction l generalizing s with
  | nil => rfl
  | cons x l ih =>
    simp only [List.map_cons, List.mem_cons, not_or] at h
    exact (ih h.2 (s.answer x.1 x.2 [])).trans (Clp.answer_find h.1 x.2 [])

theorem Clp.statusReplies_append (c : Clp) (l m : List (Octet × Status)) :
    c.statusReplies (l ++ m) = c.statusReplies l ++ c.statusReplies m := List.filterMap_append ..

/-- The replies of requests that wait in two ports alike. -/
theorem Clp.statusReplies_of_find {c c' : Clp} {l : List (Octet × Status)}
    (h : ∀ x ∈ l, c'.slots.find? (Slot.waits x.1) = c.slots.find? (Slot.waits x.1)) : c'.statusReplies l = c.statusReplies l :=
  List.filterMap_congr fun x mem => by rw [h x mem]

theorem Clp.statusReplies_of_slots {c c' : Clp} (h : c'.slots = c.slots) (l : List (Octet × Status)) :
    c'.statusReplies l = c.statusReplies l := Clp.statusReplies_of_find fun x _ => by rw [h]

/-- Requests with different tags get the replies that the port owes them at first. -/
theorem State.answerEach_replies {l : List (Octet × Status)} (nodup : (l.map (·.1)).Nodup) (s : State) :
    (s.answerEach l).clp.replies = s.clp.replies ++ s.clp.statusReplies l := by
  induction l generalizing s with
  | nil => exact (List.append_nil _).symm
  | cons x l ih =>
    obtain ⟨first, rest⟩ := List.nodup_cons.1 nodup
    have one : (s.answer x.1 x.2 []).clp.replies = s.clp.replies ++ s.clp.statusReplies [x] := s.clp.answer_replies x.1 x.2
    have others : (s.answer x.1 x.2 []).clp.statusReplies l = s.clp.statusReplies l :=
      Clp.statusReplies_of_find fun y mem =>
        Clp.answer_find (ne_of_mem_of_not_mem (List.mem_map_of_mem mem) first) x.2 []
    refine (ih rest (s.answer x.1 x.2 [])).trans ?_
    rw [one, others, List.append_assoc, ← Clp.statusReplies_append]
    rfl

theorem Clp.statusReplies_singleton {c : Clp} {t : Octet} {x : Slot} (waits : x ∈ c.slots.find? (Slot.waits t)) (st : Status) :
    c.statusReplies [(t, st)] = [⟨x.kind + 0x80#8, t, [st.code], false⟩] := by
  simp only [Clp.statusReplies, List.filterMap_cons, Option.mem_def.1 waits, Option.map_some, List.filterMap_nil]

/-- A reply that waits in a block, to a request that waits for it: from a state `v` whose link is still that of `s`. -/
theorem State.answerOpt_replies {s v : State} (slots : v.clp.slots = s.clp.slots) (replies : v.clp.replies = s.clp.replies)
    (tag : Option Octet) (st : Status) :
    ∀ t ∈ tag, ∀ x ∈ s.clp.slots.find? (Slot.waits t),
      (v.answerOpt tag st []).clp.replies = s.clp.replies ++ [⟨x.kind + 0x80#8, t, [st.code], false⟩] := by
  intro t owed x waits
  obtain rfl := Option.mem_def.1 owed
  rw [← Clp.statusReplies_singleton waits, ← replies, ← Clp.statusReplies_of_slots slots]
  exact v.clp.answer_replies t st

theorem State.mem_answer_replies {s : State} {r : Reply} (h : r ∈ s.clp.replies) (t : Octet) (st : Status) :
    r ∈ (s.answer t st []).clp.replies := by
  rw [show (s.answer t st []).clp.replies = _ from s.clp.answer_replies t st]
  exact List.mem_append_left _ h

theorem State.mem_answerEach_replies {s : State} {r : Reply} (h : r ∈ s.clp.replies) (l : List (Octet × Status)) :
    r ∈ (s.answerEach l).clp.replies := by
  induction l generalizing s with
  | nil => exact h
  | cons x l ih => exact ih (State.mem_answer_replies h x.1 x.2)

/-- Each request that waits is among those answered, whatever the other tags are. -/
theorem State.answerEach_answers {s : State} {tags : List Octet} {st : Status} {t : Octet} {x : Slot} (asked : t ∈ tags)
    (waits : x ∈ s.clp.slots.find? (Slot.waits t)) :
    (⟨x.kind + 0x80#8, t, [st.code], false⟩ : Reply) ∈ (s.answerEach (tags.map (·, st))).clp.replies := by
  induction tags generalizing s with
  | nil => cases asked
  | cons t' tags ih =>
    by_cases same : t = t'
    · subst same
      refine State.mem_answerEach_replies (s := s.answer t st []) ?_ _
      rw [show (s.answer t st []).clp.replies = _ from s.clp.answer_replies t st, Clp.statusReplies_singleton waits]
      exact List.mem_append_right _ (List.mem_singleton_self _)
    · refine ih ((List.mem_cons.1 asked).resolve_left same) ?_
      rwa [show (s.answer t' st []).clp.slots.find? (Slot.waits t) = _ from Clp.answer_find same st []]

end Sys2Proof.Machine
end

section
/-! A block read that arrives at its player or at the verify (R153, R162). -/

namespace Sys2Proof.Machine

/-- The record of a player that takes a block of its clip (R153). -/
theorem Player.takeBlock_of_clip {x : Player} {slot length offered fetched : Nat}
    (plays : x.progress = .clip slot length offered fetched) (sound : x.failed = false) (d : List Octet) :
    x.takeBlock d =
      { x with
        buffer := x.buffer ++ [d]
        progress := .clip slot length offered (fetched + 1)
        state :=
          if x.state = .starting ∧ (4 ≤ x.buffer.length + 1 ∨ length ≤ x.buffer.length + 1) then .playing else x.state } := by
  simp only [Player.takeBlock, plays, sound, List.length_append, List.length_singleton, Bool.false_eq_true, if_false]

section
variable {s : State} {v : Verify} (inHand : s.csc.verify = some v) (data : List Octet)
include inHand

/-- The verify goes on while its clip has blocks left (R162). -/
theorem State.verifyArrives_of_more (more : v.next < (s.dirEntry v.slot).length) :
    s.verifyArrives data =
      { s with csc := { s.csc with verify := some ⟨v.slot, v.next + 1, crc32More v.crc data⟩ } } := by
  simp only [State.verifyArrives, inHand, more, if_true]
  rfl

/-- The verify ends after the clip's last block: it is given up, and the slot's entry takes its outcome (R162). -/
theorem State.verifyArrives_of_last (last : (s.dirEntry v.slot).length ≤ v.next) :
    s.verifyArrives data = (s.modCsc Csc.abandonVerify).setDir v.slot fun e =>
      if crc32Result (crc32More v.crc data) = (s.dirEntry v.slot).crc then { e with verified := true }
      else { e with state := .damaged, verified := false } := by
  simp only [State.verifyArrives, inHand, Nat.not_lt.2 last, if_false]
  split <;> rfl

/-- What the end of the verify leaves: nothing in hand, the outcome in the slot's entry, every other entry kept (R162). -/
theorem State.verifyArrives_ends (listed : v.slot < s.csc.directory.length) (last : (s.dirEntry v.slot).length ≤ v.next) :
    (s.verifyArrives data).csc.port = s.csc.port ∧ (s.verifyArrives data).csc.verify = none ∧
      (s.verifyArrives data).dirEntry v.slot =
        (if crc32Result (crc32More v.crc data) = (s.dirEntry v.slot).crc then { s.dirEntry v.slot with verified := true }
        else { s.dirEntry v.slot with state := .damaged, verified := false }) ∧
      (∀ k, k ≠ v.slot → (s.verifyArrives data).dirEntry k = s.dirEntry k) ∧ (s.verifyArrives data).flash = s.flash := by
  have csc : (s.modCsc Csc.abandonVerify).csc = { s.csc with verify := none, cursor := (v.slot + 1) % 63 } := by
    rw [State.modCsc_csc, Csc.abandonVerify, inHand]
  have entry : (s.modCsc Csc.abandonVerify).dirEntry = s.dirEntry := by
    funext k
    rw [State.dirEntry, csc]
    rfl
  rw [State.verifyArrives_of_last inHand data last]
  obtain ⟨flash, -, -, port, -⟩ :=
    State.kept_of_besidesDirectory (State.setDir_besidesDirectory (s.modCsc Csc.abandonVerify) v.slot _)
  refine ⟨port.trans (by rw [csc]), State.setDir_verify _ _ _ (by rw [csc]), ?_, fun k other => ?_, flash⟩
  · rw [State.setDir_dirEntry _ _ _ (by rwa [csc]), entry]
  · rw [State.setDir_dirEntry_ne _ _ _ other, entry]

end

/-- Settles O42: the record of the player that takes the block, and the verify by whether its clip has blocks left. -/
theorem blockReadsArrive : Obligations.BlockReadsArrive := by
  refine ⟨fun s p slot index start length offered fetched on present _ _ port plays sound => ?_,
    fun s v start on present listed directory inHand port => ?_⟩
  · refine ⟨_, exec_playerReadComplete on present port, ?_⟩
    rw [State.freePort_of_read, State.workPlayer_eq]
    refine ⟨?_, rfl⟩
    dsimp only
    rw [show State.player { s with csc := { s.csc with port := none } } p = s.player p from rfl,
      Player.takeBlock_of_clip plays sound]
  · have arrives := exec_verifyReadComplete on present port
    rw [State.freePort_of_read] at arrives
    refine ⟨fun more => ?_, fun last => ?_⟩
    · rw [arrives, State.verifyArrives_of_more (s := { s with csc := { s.csc with port := none } }) inHand _ more]
    · obtain ⟨port', verify, outcome, others, flash⟩ :=
        State.verifyArrives_ends (s := { s with csc := { s.csc with port := none } }) inHand (readBlock s.flash v.slot v.next) (directory ▸ listed) last
      exact ⟨_, arrives, port', verify, outcome, fun k _ other => others k other, flash⟩

end Sys2Proof.Machine
end

section
/-! SUPPORT. What the completions and the failures of the flash port keep of the flash, of the port and of the marks, and the upload's
share in them: a page programmed, the upload faulted, the upload ended (R165 to R168). -/

namespace Sys2Proof.Machine

/-! ### What the work of the blocks leaves of the flash and its port -/

/-- The flash, the operation on its port whoever owns it, whether the flash is absent, and the mark of the part state. -/
def State.portView (s : State) : Flash × Option FlashOp × Bool × Bool :=
  (s.flash, s.csc.port.map (·.op), s.csc.absent, s.clp.marks.part)

section
variable {s t : State} (h : t.portView = s.portView)
include h

theorem State.flash_of_portView : t.flash = s.flash := congrArg Prod.fst h

theorem State.absent_of_portView : t.csc.absent = s.csc.absent := congrArg (fun x => x.2.2.1) h

theorem State.partMark_of_portView : t.clp.marks.part = s.clp.marks.part := congrArg (fun x => x.2.2.2) h

theorem State.free_of_portView (free : s.csc.port = none) : t.csc.port = none := by
  have op : t.csc.port.map (·.op) = s.csc.port.map (·.op) := congrArg (fun x => x.2.1) h
  rwa [free, Option.map_none, Option.map_eq_none_iff] at op

end

theorem State.portView_of_besidesDirectory {s t : State} (h : t.besidesDirectory = s.besidesDirectory) :
    t.portView = s.portView := by
  have masked : ∀ v : State, v.portView = v.besidesDirectory.portView := fun _ => rfl
  rw [masked t, masked s, h]

theorem State.portView_of_besidesReplies {s t : State} (h : t.besidesReplies = s.besidesReplies) : t.portView = s.portView := by
  have masked : ∀ v : State, v.portView = v.besidesReplies.portView := fun _ => rfl
  rw [masked t, masked s, h]

/-- An operation that loses its owner stays on the port. -/
theorem map_op_of_disowned (port : Option PortOp) (owner : FlashOwner) :
    (port.map fun o => if o.owner = owner then { o with owner := .nobody } else o).map (·.op) = port.map (·.op) := by
  rw [Option.map_map]
  congr 1
  funext o
  dsimp only [Function.comp]
  split <;> rfl

section
variable (s : State)

theorem State.workPlayer_portView (p : Nat) (f : Player → Player) : (s.workPlayer p f).portView = s.portView := by
  rw [State.workPlayer_eq]
  rfl

theorem State.setDir_portView (slot : Nat) (f : DirEntry → DirEntry) : (s.setDir slot f).portView = s.portView :=
  State.portView_of_besidesDirectory (s.setDir_besidesDirectory slot f)

theorem State.damaged_portView (slot : Nat) : (s.damaged slot).portView = s.portView :=
  State.portView_of_besidesDirectory (s.damaged_besidesDirectory slot)

theorem State.answerEach_portView (l : List (Octet × Status)) : (s.answerEach l).portView = s.portView :=
  State.portView_of_besidesReplies (s.answerEach_besidesReplies l)

theorem State.answerOpt_portView (t : Option Octet) (st : Status) : (s.answerOpt t st []).portView = s.portView :=
  State.portView_of_besidesReplies (s.answerOpt_besidesReplies t st)

theorem State.endUpload_portView : s.endUpload.portView = s.portView :=
  congrArg (fun op => (s.flash, op, s.csc.absent, s.clp.marks.part)) (map_op_of_disowned s.csc.port .upload)

end

/-! ### The upload's record (R166, R172) -/

section
variable {s : State} {u : Upload} (held : s.csc.upload = some u)
include held

/-- What the directory mark leaves unchanged, a change of the upload leaves as the change of its record does. -/
theorem State.modUpload_frame {α : Type} (p : State → α) (f : Upload → Upload)
    (marked : ∀ v, p (State.markDirectory v) = p v) :
    p (s.modUpload f) = p (s.modCsc fun c => { c with upload := some (f u) }) := by
  simp only [State.modUpload, held]
  exact State.markIf_frame p (marked _)

/-- A change that keeps the upload's state sets no mark. -/
theorem State.modUpload_of_same_state {f : Upload → Upload} (same : (f u).state = u.state) :
    s.modUpload f = s.modCsc fun c => { c with upload := some (f u) } := by
  simp only [State.modUpload, held, same, bne_self_eq_false, State.markIf_false]

theorem State.modUpload_portView (f : Upload → Upload) : (s.modUpload f).portView = s.portView :=
  State.modUpload_frame held State.portView f fun _ => rfl

theorem State.modUpload_upload (f : Upload → Upload) : (s.modUpload f).csc.upload = some (f u) :=
  State.modUpload_frame held (·.csc.upload) f fun _ => rfl

theorem State.modUpload_link (f : Upload → Upload) :
    (s.modUpload f).clp.slots = s.clp.slots ∧ (s.modUpload f).clp.replies = s.clp.replies :=
  ⟨State.modUpload_frame held (·.clp.slots) f fun _ => rfl, State.modUpload_frame held (·.clp.replies) f fun _ => rfl⟩

end

/-! ### The CLIP_DATA that wait (R167) -/

/-- The upload after it has taken `ws`, the oldest of the CLIP_DATA that wait, into its buffer and its CRC. -/
def Upload.takes (u : Upload) (ws : List WaitingData) : Upload :=
  { u with
    buffer := u.buffer ++ ws.map (·.block)
    crc := ws.foldl (fun c w => crc32More c w.block.data) u.crc
    received := u.received + ws.length
    waiting := u.waiting.drop ws.length }

theorem Upload.takes_nil (u : Upload) : u.takes [] = u := by simp [Upload.takes]

theorem Upload.takes_cons (u : Upload) (w : WaitingData) {rest : List WaitingData} (queue : u.waiting = w :: rest)
    (ws : List WaitingData) : ({ u.take w.block with waiting := rest } : Upload).takes ws = u.takes (w :: ws) := by
  simp [Upload.takes, Upload.take, queue, Nat.add_comm, Nat.add_left_comm]

/-- Replies and a change of the clip store do not meet. -/
theorem State.answerEach_modCsc (s : State) (f : Csc → Csc) (l : List (Octet × Status)) :
    (s.modCsc f).answerEach l = (s.answerEach l).modCsc f := by
  induction l generalizing s with
  | nil => rfl
  | cons x l ih => exact ih (s.answer x.1 x.2 [])

theorem State.modCsc_upload_self {s : State} {u : Upload} (held : s.csc.upload = some u) :
    (s.modCsc fun c => { c with upload := some u }) = s := by
  rw [← held]
  rfl

/-- As many of the waiting CLIP_DATA are taken, in the order of their arrival, as find a place; each is answered OK. -/
theorem State.takeWaiting_eq {s : State} {u : Upload} (held : s.csc.upload = some u) {fuel : Nat}
    (enough : 8 - u.buffer.length ≤ fuel) :
    s.takeWaiting fuel =
      (s.answerEach ((u.waiting.take (8 - u.buffer.length)).map fun w => (w.tag, .ok))).modCsc fun c =>
        { c with upload := some (u.takes (u.waiting.take (8 - u.buffer.length))) } := by
  have nothing : u.waiting.take (8 - u.buffer.length) = [] →
      s = (s.answerEach ((u.waiting.take (8 - u.buffer.length)).map fun w => (w.tag, .ok))).modCsc fun c =>
        { c with upload := some (u.takes (u.waiting.take (8 - u.buffer.length))) } := fun none => by
    rw [none, Upload.takes_nil]
    exact (State.modCsc_upload_self held).symm
  induction fuel generalizing s u with
  | zero => exact nothing (by rw [Nat.le_zero.1 enough, List.take_zero])
  | succ fuel ih =>
    cases queue : u.waiting with
    | nil =>
      rw [← queue, ← nothing (by rw [queue, List.take_nil])]
      simp only [State.takeWaiting, held, queue]
    | cons w rest =>
      by_cases room : u.buffer.length < 8
      · have more : 8 - u.buffer.length = 8 - (u.take w.block).buffer.length + 1 := by
          simp only [Upload.take, List.length_append, List.length_singleton]
          omega
        have step : s.takeWaiting (fuel + 1) =
            ((s.answer w.tag .ok []).modCsc fun c =>
              { c with upload := some { u.take w.block with waiting := rest } }).takeWaiting fuel := by
          simp only [State.takeWaiting, held, queue, room, if_true]
          rw [State.modUpload_of_same_state held rfl]
          rfl
        rw [step, ih (u := { u.take w.block with waiting := rest }) rfl (by dsimp only; omega)
          fun none => by rw [none, Upload.takes_nil]; exact (State.modCsc_upload_self rfl).symm,
          State.answerEach_modCsc, Upload.takes_cons u w queue, more, List.take_succ_cons]
        rfl
      · have full : 8 - u.buffer.length = 0 := by omega
        rw [← queue, ← nothing (by rw [full, List.take_zero])]
        simp only [State.takeWaiting, held, queue, room, if_false]

/-! ### The upload ends with a failed UPLOAD_END (R168) -/

theorem State.closeUpload_eq (s : State) (u : Upload) (tag : Octet) (st : Status) :
    s.closeUpload u tag st =
      ((s.damaged u.slot).answerEach
        (u.beginTag.toList.map (·, .aborted) ++ u.waiting.map (fun w => (w.tag, st)) ++ [(tag, st)])).endUpload := by
  rw [State.answerEach_append, State.answerEach_append, ← State.answerOpt_eq_each, ← State.answerWaiting_eq_each]
  rfl

theorem State.closeUpload_portView (s : State) (u : Upload) (tag : Octet) (st : Status) :
    (s.closeUpload u tag st).portView = s.portView := by
  rw [State.closeUpload_eq]
  exact (State.endUpload_portView _).trans ((State.answerEach_portView _ _).trans (s.damaged_portView u.slot))

theorem State.closeUpload_dirEntry (s : State) (u : Upload) (tag : Octet) (st : Status) :
    (s.closeUpload u tag st).dirEntry = (s.damaged u.slot).dirEntry := by
  rw [State.closeUpload_eq]
  obtain ⟨csc, -⟩ := State.kept_of_besidesReplies (State.answerEach_besidesReplies (s.damaged u.slot)
    (u.beginTag.toList.map (·, .aborted) ++ u.waiting.map (fun w => (w.tag, st)) ++ [(tag, st)]))
  exact State.dirEntry_congr (show _ = _ from congrArg (·.directory) csc)

/-- The replies with which an upload ends: each that it owes, in the order of log entry 62. -/
theorem State.closeUpload_replies {s : State} {u : Upload} {tag : Octet} (asked : u.endTag = some tag) (nodup : u.owes.Nodup)
    (st : Status) : (s.closeUpload u tag st).clp.replies = s.clp.replies ++ u.endReplies s.clp st := by
  obtain ⟨-, replies, slots, -⟩ := State.kept_of_besidesDirectory (s.damaged_besidesDirectory u.slot)
  have tags : (u.beginTag.toList.map (·, Status.aborted) ++ u.waiting.map (fun w => (w.tag, st)) ++ [(tag, st)]).map (·.1) =
      u.owes := by
    simp [Upload.owes, asked, Function.comp_def]
  rw [State.closeUpload_eq]
  refine (State.answerEach_replies (by rwa [tags]) (s.damaged u.slot)).trans ?_
  rw [replies, Clp.statusReplies_of_slots slots, Upload.endReplies, asked]
  rfl

/-! ### An operation of the upload has failed (R165) -/

/-- The upload whose operation has failed. -/
def Upload.fault (u : Upload) : Upload := { u with state := .faulted, beginTag := none, waiting := [] }

/-- The UPLOAD_BEGIN and the CLIP_DATA that wait are answered, in the order of log entry 62. -/
def Upload.faultReplies (u : Upload) : List (Octet × Status) :=
  (u.beginTag.toList ++ u.waiting.map (·.tag)).map (·, .flashFault)

/-- What a failed operation does to every upload: its slot is DAMAGED, the requests but UPLOAD_END are answered, and its work is
dropped. -/
def State.faulted (s : State) (u : Upload) : State :=
  (((s.damage u.slot).answerEach u.faultReplies).modUpload Upload.fault).modCsc fun c =>
    { c with order := c.order.filter (· != .upload) }

section
variable {s : State} {u : Upload} (held : s.csc.upload = some u)
include held

theorem State.faultUpload_cases :
    (u.endTag = none → s.faultUpload = s.faulted u) ∧
      ∀ t, u.endTag = some t → s.faultUpload = ((s.faulted u).answer t .flashFault []).endUpload := by
  have answered : ∀ v : State, (v.answerOpt u.beginTag .flashFault []).answerWaiting u.waiting .flashFault =
      v.answerEach u.faultReplies := fun v => by
    rw [Upload.faultReplies, List.map_append, State.answerEach_append, ← State.answerOpt_eq_each, State.answerWaiting_eq_each,
      List.map_map]
    rfl
  refine ⟨fun silent => ?_, fun t asked => ?_⟩
  · simp only [State.faultUpload, held, silent, answered]
    rfl
  · simp only [State.faultUpload, held, asked, answered]
    rfl

/-- What a failed operation leaves of every upload. -/
theorem State.faulted_leaves :
    (s.faulted u).portView = s.portView ∧ (s.faulted u).csc.upload = some u.fault ∧
      ((s.faulted u).dirEntry u.slot).state = .damaged ∧ (s.faulted u).csc.order = s.csc.order.filter (· != .upload) ∧
      (s.faulted u).clp.slots = ((s.damage u.slot).answerEach u.faultReplies).clp.slots ∧
      (s.faulted u).clp.replies = ((s.damage u.slot).answerEach u.faultReplies).clp.replies := by
  obtain ⟨-, -, -, -, upload, order⟩ := State.kept_of_besidesDirectory (s.damage_besidesDirectory u.slot)
  have view : ((s.damage u.slot).answerEach u.faultReplies).portView = s.portView :=
    (State.answerEach_portView _ _).trans (s.setDir_portView u.slot _)
  have csc : ((s.damage u.slot).answerEach u.faultReplies).csc = (s.damage u.slot).csc :=
    (State.kept_of_besidesReplies (State.answerEach_besidesReplies _ _)).1
  rw [State.faulted]
  generalize (s.damage u.slot).answerEach u.faultReplies = d at view csc
  have held' : d.csc.upload = some u := by rw [csc, upload, held]
  have kept := State.modUpload_frame held' (fun v => (v.csc.directory, v.csc.order)) Upload.fault fun _ => rfl
  obtain ⟨directory, orders⟩ := Prod.mk.inj kept
  refine ⟨(State.modUpload_portView held' _).trans view, State.modUpload_upload held' _, ?_, ?_, State.modUpload_link held' _⟩
  · have entries : ((d.modUpload Upload.fault).modCsc fun c => { c with order := c.order.filter (· != .upload) }).dirEntry =
        (s.damage u.slot).dirEntry := State.dirEntry_congr (directory.trans (show d.csc.directory = _ by rw [csc]))
    rw [entries]
    exact s.damage_state u.slot
  · exact congrArg (List.filter (· != .upload)) (orders.trans (show d.csc.order = _ by rw [csc, order]))

/-- The end of an upload that owes an UPLOAD_END and whose operation has failed (R168). -/
theorem State.faultUpload_ends {t : Octet} (asked : u.endTag = some t) :
    s.faultUpload.portView = s.portView ∧ s.faultUpload.csc.upload = none ∧ (s.faultUpload.dirEntry u.slot).state = .damaged ∧
      s.faultUpload.csc.order = s.csc.order.filter (· != .upload) := by
  obtain ⟨view, -, damaged, order, -⟩ := State.faulted_leaves held
  rw [(State.faultUpload_cases held).2 t asked]
  generalize s.faulted u = v at view damaged order
  have answered := v.answer_besidesReplies t .flashFault []
  obtain ⟨csc, -⟩ := State.kept_of_besidesReplies answered
  have entries : (v.answer t .flashFault []).endUpload.dirEntry = v.dirEntry :=
    State.dirEntry_congr (show (v.answer t .flashFault []).csc.directory = _ by rw [csc])
  have orders : (v.answer t .flashFault []).endUpload.csc.order = v.csc.order.filter (· != .upload) := by
    rw [← csc]
    rfl
  refine ⟨(State.endUpload_portView _).trans ((State.portView_of_besidesReplies answered).trans view), rfl, ?_, ?_⟩
  · rw [entries]
    exact damaged
  · rw [orders, order, List.filter_filter]
    simp only [Bool.and_self]

/-- The replies of an upload that owes an UPLOAD_END and whose operation has failed: each that it owes, FLASH_FAULT (R168). -/
theorem State.faultUpload_replies {t : Octet} (asked : u.endTag = some t) (nodup : u.owes.Nodup) :
    s.faultUpload.clp.replies = s.clp.replies ++ s.clp.statusReplies (u.owes.map (·, .flashFault)) := by
  obtain ⟨-, -, -, -, slots, replies⟩ := State.faulted_leaves held
  obtain ⟨-, replies', slots', -⟩ := State.kept_of_besidesDirectory (s.damage_besidesDirectory u.slot)
  rw [Upload.owes, asked, Option.toList_some] at nodup ⊢
  obtain ⟨first, -, apart⟩ := List.nodup_append.1 nodup
  have tags : u.faultReplies.map (·.1) = u.beginTag.toList ++ u.waiting.map (·.tag) := by
    simp [Upload.faultReplies, Function.comp_def]
  have last : t ∉ u.faultReplies.map (·.1) := by
    rw [tags]
    exact fun mem => apart t mem t (List.mem_singleton_self t) rfl
  have found : (s.faulted u).clp.statusReplies [(t, .flashFault)] = s.clp.statusReplies [(t, .flashFault)] :=
    Clp.statusReplies_of_find fun x mem => by
      rw [List.mem_singleton.1 mem, slots, State.answerEach_find last, slots']
  rw [(State.faultUpload_cases held).2 t asked]
  refine ((s.faulted u).clp.answer_replies t .flashFault).trans ?_
  rw [found, replies, State.answerEach_replies (by rwa [tags]), replies', Clp.statusReplies_of_slots slots', List.map_append,
    Clp.statusReplies_append, List.append_assoc]
  rfl

end

end Sys2Proof.Machine
end

section
/-! SUPPORT. What a program of audio blocks and an erase make of the flash, octet by octet (R159). -/

namespace Sys2Proof.Machine

/-! ### The blocks of a program -/

section
variable {slot a : Nat}

/-- A program of blocks leaves every octet outside them. -/
theorem cellAt_writeBlocks_outside {bs : List IndexedBlock} {l : List Host.Cell} (wf : cellsWf l = true)
    (outside : ∀ b ∈ bs, a < blockAddr slot b.index ∨ blockAddr slot b.index + b.data.length ≤ a) :
    cellAt (writeBlocks programCells l slot bs) a = cellAt l a := by
  induction bs generalizing l with
  | nil => rfl
  | cons b bs ih =>
    have first := outside b List.mem_cons_self
    refine (ih (programCells_wf wf) fun c mem => outside c (List.mem_cons_of_mem b mem)).trans ?_
    rw [cellAt_programCells wf, if_neg (by omega)]

/-- Octets of one block of at most 128 octets lie outside every other block. -/
theorem block_apart {i j n k : Nat} (h : i ≠ j) (hn : n ≤ 128) (hk : k < 128) :
    blockAddr slot i + k < blockAddr slot j ∨ blockAddr slot j + n ≤ blockAddr slot i + k := by
  unfold blockAddr
  omega

/-- A program of different blocks only turns bits of their octets from one to zero. -/
theorem cellAt_writeBlocks {bs : List IndexedBlock} {l : List Host.Cell} (wf : cellsWf l = true)
    (different : (bs.map (·.index)).Nodup) (lengths : ∀ b ∈ bs, b.data.length ≤ 128) {b : IndexedBlock} (mem : b ∈ bs)
    {k : Nat} (hk : k < b.data.length) :
    cellAt (writeBlocks programCells l slot bs) (blockAddr slot b.index + k) =
      cellAt l (blockAddr slot b.index + k) &&& b.data.getD k 0#8 := by
  have short := lengths b mem
  induction bs generalizing l with
  | nil => cases mem
  | cons c bs ih =>
    obtain ⟨first, rest⟩ := List.nodup_cons.1 different
    have written : cellAt (writeBlocks programCells l slot (c :: bs)) =
        cellAt (writeBlocks programCells (programCells l (blockAddr slot c.index) c.data) slot bs) := rfl
    rw [written]
    obtain rfl | later := List.mem_cons.1 mem
    · have others : ∀ d ∈ bs, blockAddr slot b.index + k < blockAddr slot d.index ∨
          blockAddr slot d.index + d.data.length ≤ blockAddr slot b.index + k := fun d hd =>
        block_apart (ne_of_mem_of_not_mem (List.mem_map_of_mem hd) first).symm (lengths d (List.mem_cons_of_mem b hd)) (by omega)
      rw [cellAt_writeBlocks_outside (programCells_wf wf) others, cellAt_programCells wf, if_pos (by omega), Nat.add_sub_cancel_left]
    · have apart : blockAddr slot b.index + k < blockAddr slot c.index ∨
          blockAddr slot c.index + c.data.length ≤ blockAddr slot b.index + k :=
        block_apart (ne_of_mem_of_not_mem (List.mem_map_of_mem later) first) (lengths c List.mem_cons_self) (by omega)
      rw [ih (programCells_wf wf) rest (fun d hd => lengths d (List.mem_cons_of_mem c hd)) later, cellAt_programCells wf,
        if_neg (by omega)]

end

/-! ### The unit of an erase -/

/-- After an erase of a unit its octets are all ones, and every other octet is what it was, in whatever form the flash is held. -/
theorem cellAt_erased (l : List Host.Cell) (lo hi a : Nat) :
    cellAt (eraseCells l lo hi) a = if lo ≤ a ∧ a < hi then 0xFF#8 else cellAt l a := by
  induction l with
  | nil => simp [eraseCells, cellAt]
  | cons x l ih =>
    obtain ⟨b, v⟩ := x
    unfold eraseCells at ih ⊢
    by_cases inside : lo ≤ b ∧ b < hi
    · rw [List.filter_cons_of_neg (by simp [inside]), ih]
      by_cases here : a = b
      · rw [here, if_pos inside, if_pos inside]
      · rw [cellAt, if_neg here]
    · rw [List.filter_cons_of_pos (by simp; omega), cellAt, cellAt, ih]
      by_cases here : a = b
      · rw [here, if_pos rfl, if_neg inside, if_pos rfl]
      · rw [if_neg here, if_neg here]

/-- The header of a slot after an erase: that of the erased unit's slot reads as erased where the unit is the first. -/
theorem Flash.header_finish_eraseUnit (f : Flash) (slot unit : Nat) {k : Nat} (hk : k < f.headers.length) :
    (f.finish (.eraseUnit slot unit)).header k = if k = slot ∧ unit = 0 then Header.erased else f.header k := by
  unfold Flash.header Flash.finish
  dsimp only
  by_cases first : unit = 0
  · rw [if_pos first]
    by_cases same : k = slot
    · subst same
      simp [first, hk]
    · simp [same, List.getElem?_set_ne (Ne.symm same)]
  · simp [first]

end Sys2Proof.Machine
end

section
/-! SUPPORT. What follows a program or an erase that has completed, by the owner of the operation (R166 to R171). -/

namespace Sys2Proof.Machine

/-! ### The flash and the port are left to the operation itself -/

section
variable (s : State)

theorem State.uploadProgrammed_portView (op : FlashOp) : (s.uploadProgrammed op).portView = s.portView := by
  cases held : s.csc.upload with
  | none => simp only [State.uploadProgrammed, held]
  | some u =>
    cases op <;> simp only [State.uploadProgrammed, held]
    case programBegun => exact (State.answerOpt_portView _ _ _).trans (State.modUpload_portView held _)
    case programBlocks =>
      rw [State.takeWaiting_eq (State.modUpload_upload held _) (by omega)]
      exact (State.answerEach_portView _ _).trans (State.modUpload_portView held _)
    case programComplete =>
      exact (State.answerOpt_portView _ _ _).trans ((State.endUpload_portView _).trans (s.setDir_portView _ _))

theorem State.uploadOpDone_portView {work : State → State} (kept : (work s).portView = s.portView) :
    (s.uploadOpDone work).portView = s.portView := by
  unfold State.uploadOpDone
  split
  · rfl
  · split
    · exact s.closeUpload_portView _ _ _
    · exact kept

theorem State.programDone_portView {owner : FlashOwner} (other : owner ≠ .settings) (op : FlashOp) :
    (s.programDone owner op).portView = s.portView := by
  cases owner with
  | settings => exact absurd rfl other
  | upload => exact s.uploadOpDone_portView (s.uploadProgrammed_portView op)
  | _ => rfl

theorem State.slotErased_portView : s.slotErased.portView = s.portView := by
  unfold State.slotErased
  split
  · rfl
  · split
    · rfl
    · exact (State.answerOpt_portView _ _ _).trans (s.setDir_portView _ _)

theorem State.unitErased_portView : (s.modUpload fun u => { u with units := u.units + 1 }).portView = s.portView := by
  cases held : s.csc.upload with
  | none => simp only [State.modUpload, held]
  | some u => exact State.modUpload_portView held _

theorem State.eraseDone_portView (owner : FlashOwner) : (s.eraseDone owner).portView = s.portView := by
  cases owner with
  | upload => exact s.uploadOpDone_portView s.unitErased_portView
  | eraseSlot => exact s.slotErased_portView
  | _ => rfl

end

/-! ### A program of the upload (R166 to R168) -/

/-- The blocks of the upload buffer that a page program leaves there. -/
def Upload.kept (u : Upload) (bs : List IndexedBlock) : List IndexedBlock :=
  u.buffer.filter fun b => !(bs.any fun x => x.index == b.index)

section
variable {s : State} {u : Upload} (held : s.csc.upload = some u)
include held

/-- The begun header opens RECEIVING, and UPLOAD_BEGIN is answered (R166). -/
theorem State.uploadProgrammed_begun (slot length : Nat) (label : List Octet) :
    (s.uploadProgrammed (.programBegun slot length label)).csc.upload =
        some { u with begun := true, beginTag := none, state := if u.state = .preparing then .receiving else u.state } ∧
      ∀ t ∈ u.beginTag, ∀ x ∈ s.clp.slots.find? (Slot.waits t),
        (s.uploadProgrammed (.programBegun slot length label)).clp.replies =
          s.clp.replies ++ [⟨x.kind + 0x80#8, t, [0x00#8], false⟩] := by
  obtain ⟨begins, hb⟩ : ∃ f : Upload → Upload, f = fun u =>
    { u with begun := true, beginTag := none, state := if u.state = .preparing then .receiving else u.state } := ⟨_, rfl⟩
  have programmed : s.uploadProgrammed (.programBegun slot length label) =
      (s.modUpload begins).answerOpt u.beginTag .ok [] := by
    simp only [State.uploadProgrammed, held, hb]
  obtain ⟨slots, replies⟩ := State.modUpload_link held begins
  obtain ⟨csc, -⟩ := State.kept_of_besidesReplies ((s.modUpload begins).answerOpt_besidesReplies u.beginTag .ok)
  rw [programmed]
  exact ⟨by rw [csc, State.modUpload_upload held, hb], State.answerOpt_replies slots replies u.beginTag .ok⟩

/-- A page frees places in the buffer, and CLIP_DATA that wait are taken (R167). -/
theorem State.uploadProgrammed_page (slot : Nat) (bs : List IndexedBlock) :
    s.uploadProgrammed (.programBlocks slot bs) =
      (s.answerEach ((u.waiting.take (8 - (u.kept bs).length)).map fun w => (w.tag, .ok))).modCsc fun c =>
        { c with
          upload := some (({ u with buffer := u.kept bs } : Upload).takes (u.waiting.take (8 - (u.kept bs).length))) } := by
  have programmed : s.uploadProgrammed (.programBlocks slot bs) =
      (s.modUpload fun u => { u with buffer := u.kept bs }).takeWaiting 8 := by
    simp only [State.uploadProgrammed, held, Upload.kept]
  rw [programmed, State.modUpload_of_same_state held rfl, State.takeWaiting_eq rfl (by omega), State.answerEach_modCsc]
  rfl

/-- The complete marker ends the upload: its slot is READY and verified, and UPLOAD_END is answered (R168). -/
theorem State.uploadProgrammed_complete (slot : Nat) (crc : BitVec 32) (listed : u.slot < s.csc.directory.length) :
    (s.uploadProgrammed (.programComplete slot crc)).csc.upload = none ∧
      (s.uploadProgrammed (.programComplete slot crc)).dirEntry u.slot = ⟨.ready, true, u.length, u.label, crc⟩ ∧
      (∀ k, k ≠ u.slot → (s.uploadProgrammed (.programComplete slot crc)).dirEntry k = s.dirEntry k) ∧
      ∀ t ∈ u.endTag, ∀ x ∈ s.clp.slots.find? (Slot.waits t),
        (s.uploadProgrammed (.programComplete slot crc)).clp.replies =
          s.clp.replies ++ [⟨x.kind + 0x80#8, t, [0x00#8], false⟩] := by
  obtain ⟨complete, hc⟩ : ∃ f : DirEntry → DirEntry, f = fun _ => ⟨.ready, true, u.length, u.label, crc⟩ := ⟨_, rfl⟩
  have programmed : s.uploadProgrammed (.programComplete slot crc) =
      (s.setDir u.slot complete).endUpload.answerOpt u.endTag .ok [] := by
    simp only [State.uploadProgrammed, held, hc]
  obtain ⟨-, replies, slots, -⟩ := State.kept_of_besidesDirectory (s.setDir_besidesDirectory u.slot complete)
  obtain ⟨csc, -⟩ := State.kept_of_besidesReplies ((s.setDir u.slot complete).endUpload.answerOpt_besidesReplies u.endTag .ok)
  have entries : ((s.setDir u.slot complete).endUpload.answerOpt u.endTag .ok []).dirEntry = (s.setDir u.slot complete).dirEntry :=
    State.dirEntry_congr (by rw [csc]; rfl)
  rw [programmed, entries]
  refine ⟨by rw [csc]; rfl, ?_, fun k other => s.setDir_dirEntry_ne _ _ other,
    State.answerOpt_replies (v := (s.setDir u.slot complete).endUpload) slots replies u.endTag .ok⟩
  rw [s.setDir_dirEntry _ _ listed, hc]

end

/-! ### A page of the settings copy (R163, R171) -/

section
variable {s : State} {x : SettingsJob} (job : s.csc.settings = some x)
include job

theorem State.settingsProgrammed_more (more : 1 < x.pagesLeft) :
    s.settingsProgrammed = s.modCsc fun c => { c with settings := some { x with pagesLeft := x.pagesLeft - 1 } } := by
  simp only [State.settingsProgrammed, job, more, if_true]

/-- The last page makes the copy valid and brings the new level into force, and the request is answered. -/
theorem State.settingsProgrammed_last (last : x.pagesLeft ≤ 1) :
    ∃ v : State, s.settingsProgrammed = v.answerOpt x.tag .ok [] ∧
      v.csc =
        { s.csc with
          settings := none, order := s.csc.order.filter (· != .settings), level := x.level.getD s.csc.level, copyValid := true } ∧
      v.flash = { s.flash with area := .copy x.copy } ∧ v.clp.slots = s.clp.slots ∧ v.clp.replies = s.clp.replies := by
  obtain ⟨w, hw⟩ : ∃ w : State, w = s.markIf (x.level.getD s.csc.level != s.csc.level) State.markDirectory := ⟨_, rfl⟩
  have same : w.besidesDirectory = s.besidesDirectory := by
    rw [hw]
    exact State.markIf_frame State.besidesDirectory rfl
  have csc : w.csc = s.csc := by
    rw [hw]
    exact State.markIf_frame State.csc rfl
  obtain ⟨flash, replies, slots, -⟩ := State.kept_of_besidesDirectory same
  have frame : ∀ {α : Type} (p : State → α) (v : State), (∀ u, p (State.markDirectory u) = p u) →
      p (v.setCopyValid true) = p (v.modCsc fun c => { c with copyValid := true }) :=
    fun p v marked => State.markIf_frame p (marked _)
  simp only [State.settingsProgrammed, job, Nat.not_lt.2 last, if_false, ← hw]
  refine ⟨_, rfl, (frame State.csc _ fun _ => rfl).trans ?_, (frame State.flash _ fun _ => rfl).trans ?_,
    (frame (·.clp.slots) _ fun _ => rfl).trans slots, (frame (·.clp.replies) _ fun _ => rfl).trans replies⟩
  · simp only [State.modCsc_csc, State.modFlash_csc, csc]
  · simp only [State.modCsc_flash, State.modFlash_flash, flash]

end

/-! ### An erase of the ERASE_SLOT job (R170) -/

section
variable {s : State} {e : EraseJob} (job : s.csc.erase = some e)
include job

theorem State.slotErased_more (more : e.units < 3) :
    s.slotErased = s.modCsc fun c => { c with erase := some { e with units := e.units + 1 } } := by
  simp only [State.slotErased, job, more, if_true]

/-- The fourth unit leaves the slot EMPTY, and the request is answered. -/
theorem State.slotErased_last (last : 3 ≤ e.units) (listed : e.slot < s.csc.directory.length) :
    s.slotErased.csc.erase = none ∧ s.slotErased.dirEntry e.slot = DirEntry.empty ∧
      ∀ t ∈ e.tag, ∀ x ∈ s.clp.slots.find? (Slot.waits t),
        s.slotErased.clp.replies = s.clp.replies ++ [⟨x.kind + 0x80#8, t, [0x00#8], false⟩] := by
  obtain ⟨v, hv⟩ : ∃ v : State, v = (s.setDir e.slot fun _ => DirEntry.empty).modCsc fun c =>
    { c with erase := none, order := c.order.filter (· != .eraseSlot) } := ⟨_, rfl⟩
  have erased : s.slotErased = v.answerOpt e.tag .ok [] := by
    simp only [State.slotErased, job, Nat.not_lt.2 last, if_false, hv]
  obtain ⟨-, replies, slots, -⟩ := State.kept_of_besidesDirectory (s.setDir_besidesDirectory e.slot fun _ => DirEntry.empty)
  obtain ⟨csc, -⟩ := State.kept_of_besidesReplies (v.answerOpt_besidesReplies e.tag .ok)
  have entries : (v.answerOpt e.tag .ok []).dirEntry = (s.setDir e.slot fun _ => DirEntry.empty).dirEntry :=
    State.dirEntry_congr (by rw [csc, hv]; rfl)
  rw [erased, entries, s.setDir_dirEntry _ _ listed, csc]
  exact ⟨by rw [hv]; rfl, rfl, State.answerOpt_replies (by rw [hv]; exact slots) (by rw [hv]; exact replies) e.tag .ok⟩

end

end Sys2Proof.Machine
end

section
/-! A program or an erase completes: the flash, the upload, the erase job and the settings job move on and answer (R159, R166 to R168,
R170, R171). -/

namespace Sys2Proof.Machine

/-! ### A program completes -/

/-- The tags of the CLIP_DATA that are taken are different (R175). -/
theorem taken_nodup {s : State} {up : Upload} (held : s.csc.upload = some up) (owed : up.waiting = [] ∨ s.owedLaw) (n : Nat) :
    (((up.waiting.take n).map fun w => (w.tag, Status.ok)).map (·.1)).Nodup := by
  rw [List.map_map]
  obtain none | law := owed
  · simp [none]
  · have all := State.owes_nodup law held
    rw [Upload.owes, List.nodup_append, List.nodup_append] at all
    obtain ⟨⟨-, waiting, -⟩, -⟩ := all
    exact waiting.sublist ((List.take_sublist n up.waiting).map _)

/-- An UPLOAD_END that has failed waits for its reply (R168). -/
theorem State.endTag_of_failed {s : State} {up : Upload} {st : Status} (law : s.owedLaw) (held : s.csc.upload = some up)
    (failed : up.failed = some st) : ∃ t, up.endTag = some t := by
  obtain ⟨-, -, sound, -⟩ := law
  obtain ⟨asked, -, -, -, finishing, -⟩ := sound up held
  exact Option.isSome_iff_exists.1 (asked.2 (finishing (by rw [failed]; rfl)))

section
variable {s : State} (on : s.power = .on) (present : s.csc.absent = false)
include on present

/-- A program of audio blocks, whoever owns it (R159). -/
theorem programComplete_blocks {o : PortOp} {slot : Nat} {bs : List IndexedBlock} (law : s.protectionLaw)
    (port : s.csc.port = some o) (op : o.op = .programBlocks slot bs) :
    ∃ u : State, exec .programComplete s = .next u.settle ∧ u.csc.port = none ∧
      u.flash = { s.flash with cells := writeBlocks programCells s.flash.cells slot bs } := by
  obtain ⟨-, -, -, -, -, settings, -⟩ := law
  have other : o.owner ≠ .settings := fun owner => by
    have writes := settings o port owner
    rw [op] at writes
    cases writes
  have view := (s.freePort o).programDone_portView other o.op
  refine ⟨_, exec_programComplete on present port (by rw [op]; rfl), State.free_of_portView view rfl, ?_⟩
  rw [State.flash_of_portView view, State.freePort_flash, op]
  rfl

section
variable {up : Upload} (held : s.csc.upload = some up)
include held

/-- A program of an upload that has not failed: the upload moves on, and the port stays free. -/
theorem programComplete_upload {op : FlashOp} {start : Nat} (going : up.failed = none)
    (port : s.csc.port = some ⟨op, .upload, start⟩) (program : op.isProgram = true) :
    exec .programComplete s = .next ((s.freePort ⟨op, .upload, start⟩).uploadProgrammed op).settle ∧
      ((s.freePort ⟨op, .upload, start⟩).uploadProgrammed op).csc.port = none ∧
      ((s.freePort ⟨op, .upload, start⟩).uploadProgrammed op).flash = s.flash.finish op := by
  have view := (s.freePort ⟨op, .upload, start⟩).uploadProgrammed_portView op
  refine ⟨?_, State.free_of_portView view rfl, State.flash_of_portView view⟩
  rw [exec_programComplete on present port program, State.programDone,
    State.uploadOpDone_work (s := s.freePort ⟨op, .upload, start⟩) _ held going]

/-- A page of audio blocks of an upload (R167). -/
theorem programComplete_page {bs : List IndexedBlock} {start : Nat} (going : up.failed = none)
    (port : s.csc.port = some ⟨.programBlocks up.slot bs, .upload, start⟩) (owed : up.waiting = [] ∨ s.owedLaw) :
    ∃ u : State, exec .programComplete s = .next u.settle ∧ u.csc.port = none ∧
      u.clp.replies =
        s.clp.replies ++ s.clp.statusReplies ((up.waiting.take (8 - (up.kept bs).length)).map fun w => (w.tag, .ok)) ∧
      u.csc.upload =
        some (({ up with buffer := up.kept bs } : Upload).takes (up.waiting.take (8 - (up.kept bs).length))) := by
  obtain ⟨run, port', -⟩ := programComplete_upload on present held going port rfl
  rw [State.uploadProgrammed_page (s := s.freePort _) held] at run port'
  exact ⟨_, run, port', State.answerEach_replies (taken_nodup held owed _) (s.freePort _), rfl⟩

/-- The operation of an upload whose UPLOAD_END has failed: with it the upload ends (R168). -/
theorem operation_ends_upload {o : PortOp} {st : Status} (law : s.owedLaw) (failed : up.failed = some st)
    (port : s.csc.port = some o) (owner : o.owner = .upload) {c : Instr} (mem : c ∈ [Instr.eraseComplete, .programComplete])
    (ends : (if c = .eraseComplete then o.op.isErase else o.op.isProgram) = true) :
    ∃ u : State, exec c s = .next u.settle ∧ u.csc.port = none ∧ u.csc.upload = none ∧
      (u.dirEntry up.slot).state = .damaged ∧ (∀ k, k ≠ up.slot → u.dirEntry k = s.dirEntry k) ∧
      u.clp.replies = s.clp.replies ++ up.endReplies s.clp st := by
  obtain ⟨t, asked⟩ := State.endTag_of_failed law held failed
  have closes : ∀ work, (s.freePort o).uploadOpDone work = (s.freePort o).closeUpload up t st := fun work =>
    State.uploadOpDone_failed work held failed asked
  have run : exec c s = .next ((s.freePort o).closeUpload up t st).settle := by
    obtain rfl | rfl : c = .eraseComplete ∨ c = .programComplete := by simpa using mem
    · rw [exec_eraseComplete on present port ends, owner, State.eraseDone]
      exact congrArg (fun v => Host.Outcome.next v.settle) (closes _)
    · rw [exec_programComplete on present port ends, owner, State.programDone]
      exact congrArg (fun v => Host.Outcome.next v.settle) (closes _)
  have entries := (s.freePort o).closeUpload_dirEntry up t st
  obtain ⟨-, -, -, damaged⟩ := (s.freePort o).damaged_eq up.slot
  refine ⟨_, run, State.free_of_portView (State.closeUpload_portView _ _ _ _) rfl, ?_, by rw [entries]; exact damaged,
    fun k other => ?_, State.closeUpload_replies (s := s.freePort o) asked (State.owes_nodup law held) st⟩
  · rw [State.closeUpload_eq]
    rfl
  · rw [entries, State.damaged_dirEntry_ne _ other, State.freePort_dirEntry]

end

/-- A page of the settings copy (R163, R171). -/
theorem programComplete_settings {x : SettingsJob} {start : Nat} (job : s.csc.settings = some x)
    (port : s.csc.port = some ⟨.programSettings, .settings, start⟩) :
    ∃ u : State, exec .programComplete s = .next u.settle ∧ u.csc.port = none ∧
      (1 < x.pagesLeft → u.csc.settings = some { x with pagesLeft := x.pagesLeft - 1 } ∧ u.csc.level = s.csc.level) ∧
      (x.pagesLeft ≤ 1 →
        u.csc.settings = none ∧ u.flash = { s.flash with area := .copy x.copy } ∧ u.csc.copyValid = true ∧
          u.csc.level = x.level.getD s.csc.level ∧
          ∀ t ∈ x.tag, ∀ y ∈ s.clp.slots.find? (Slot.waits t),
            u.clp.replies = s.clp.replies ++ [⟨y.kind + 0x80#8, t, [0x00#8], false⟩]) := by
  have run : exec .programComplete s = .next (s.freePort ⟨.programSettings, .settings, start⟩).settingsProgrammed.settle :=
    exec_programComplete on present port rfl
  obtain more | last := Nat.lt_or_ge 1 x.pagesLeft
  · rw [State.settingsProgrammed_more (s := s.freePort _) job more] at run
    exact ⟨_, run, rfl, fun _ => ⟨rfl, rfl⟩, fun last => absurd more (Nat.not_lt.2 last)⟩
  · obtain ⟨v, programmed, csc, flash, slots, replies⟩ := State.settingsProgrammed_last (s := s.freePort _) job last
    rw [programmed] at run
    obtain ⟨csc', flash', -⟩ := State.kept_of_besidesReplies (v.answerOpt_besidesReplies x.tag .ok)
    rw [csc] at csc'
    refine ⟨_, run, by rw [csc']; rfl, fun more => absurd more (Nat.not_lt.2 last), fun _ => ⟨by rw [csc'], ?_, by rw [csc'],
      by rw [csc']; rfl, State.answerOpt_replies slots replies x.tag .ok⟩⟩
    rw [flash', flash]
    rfl

/-! ### An erase completes -/

/-- A unit of a slot, whoever owns its erase (R159). -/
theorem eraseComplete_unit {o : PortOp} {slot unit : Nat} (port : s.csc.port = some o) (op : o.op = .eraseUnit slot unit) :
    exec .eraseComplete s = .next ((s.freePort o).eraseDone o.owner).settle ∧
      ((s.freePort o).eraseDone o.owner).csc.port = none ∧
      ((s.freePort o).eraseDone o.owner).flash = s.flash.finish (.eraseUnit slot unit) := by
  have view := (s.freePort o).eraseDone_portView o.owner
  refine ⟨exec_eraseComplete on present port (by rw [op]; rfl), State.free_of_portView view rfl, ?_⟩
  rw [State.flash_of_portView view, State.freePort_flash, op]

end

/-- Settles O43: each completion by the flash it leaves and the owner that moves on. -/
theorem programsAndErasesComplete : Obligations.ProgramsAndErasesComplete := by
  refine ⟨⟨fun s o slot bs on present wf law port op different lengths => ?_,
    fun s up bs start on present held going port owed => ?_, fun s up start on present held going port => ?_,
    fun s up crc start on present listed directory held going port => ?_,
    fun s up o st on present law held failed port owner listed directory c mem ends => ?_,
    fun s x start on present job port => programComplete_settings on present job port⟩,
    fun s o on present port => ⟨fun slot unit op => ?_, fun op owner => ?_⟩⟩
  · obtain ⟨u, run, port', flash⟩ := programComplete_blocks on present law port op
    refine ⟨u, run, port', ?_⟩
    rw [flash]
    exact ⟨writeBlocks_wf (write := programCells) (fun _ _ _ => programCells_wf) wf, rfl, rfl,
      fun b hb k hk => cellAt_writeBlocks wf different lengths hb (List.mem_range.1 hk),
      fun a outside => cellAt_writeBlocks_outside wf outside⟩
  · exact programComplete_page on present held going port owed
  · obtain ⟨run, port', flash⟩ := programComplete_upload on present held going port rfl
    obtain ⟨upload, replies⟩ := State.uploadProgrammed_begun
      (s := s.freePort ⟨.programBegun up.slot up.length up.label, .upload, start⟩) held up.slot up.length up.label
    exact ⟨_, run, port', upload, flash, replies⟩
  · obtain ⟨run, port', flash⟩ := programComplete_upload on present held going port rfl
    obtain ⟨upload, entry, others, replies⟩ := State.uploadProgrammed_complete
      (s := s.freePort ⟨.programComplete up.slot crc, .upload, start⟩) held up.slot crc (directory ▸ listed)
    exact ⟨_, run, port', upload, flash, entry, fun k _ other => others k other, replies⟩
  · obtain ⟨u, run, port', upload, damaged, others, replies⟩ :=
      operation_ends_upload on present held law failed port owner mem ends
    exact ⟨u, run, port', upload, damaged, fun k _ other => others k other, replies⟩
  · obtain ⟨run, port', flash⟩ := eraseComplete_unit on present port op
    refine ⟨_, run, port', fun a => ?_, by rw [flash]; rfl, fun k hk => ?_, fun up held owner going => ?_,
      fun e job owner directory listed => ?_⟩
    · rw [flash]
      exact cellAt_erased _ _ _ a
    · rw [flash]
      exact Flash.header_finish_eraseUnit _ _ _ (List.mem_range.1 hk)
    · rw [owner, State.eraseDone, State.uploadOpDone_work (s := s.freePort o) _ held going]
      exact State.modUpload_upload (s := s.freePort o) held _
    · rw [owner, State.eraseDone]
      refine ⟨fun more => ?_, fun last => ?_⟩
      · rw [State.slotErased_more (s := s.freePort o) job more]
        exact ⟨rfl, rfl⟩
      · obtain ⟨gone, entry, replies⟩ := State.slotErased_last (s := s.freePort o) job last (directory ▸ listed)
        exact ⟨gone, by rw [entry]; rfl, by rw [entry]; rfl, replies⟩
  · rw [exec_eraseComplete on present port (by rw [op]; rfl), owner, State.eraseDone]
    simp only [State.freePort, op]
    rfl

end Sys2Proof.Machine
end

section
/-! SUPPORT. The loop starts with the settings that the start-up read has found (R26, R84, R117, R171). -/

namespace Sys2Proof.Machine

/-! ### The levels that the portal shelf reports -/

/-- The record and the threshold in use of a band. -/
def Band.besidesFeed (b : Band) : Band := { b with feed := false, gates := [], displacements := 0 }

/-- The state without what the reports of the portal shelf change where no unit is ACTIVE: the allocation records, of the channels and
the bands all but the configuration and the thresholds in use, and the notice marks. -/
def State.besidesShelf (s : State) : State :=
  { s with
    pbe := { s.pbe with allocs := [] }
    channels := s.channels.map fun ch => Channel.initial ch.cfg
    bands := s.bands.map Band.besidesFeed
    clp := { s.clp with marks := Marks.clear } }

/-- An entry replaced by one that looks the same is not seen. -/
theorem map_set_of_same {α β : Type} (g : α → β) (l : List α) (i : Nat) (d : α) {x : α} (same : g x = g (l.getD i d)) :
    (l.set i x).map g = l.map g := by
  rw [List.map_set, same]
  by_cases hi : i < l.length
  · rw [List.getD_eq_getElem _ _ hi, ← List.getElem_map g (h := by simpa using hi), List.set_getElem_self]
  · rw [List.set_eq_of_length_le (by simpa using hi)]

theorem map_modify_of_same {α β : Type} {g : α → β} (f : α → α) (same : ∀ x, g (f x) = g x) (l : List α) (i : Nat) :
    (l.modify i f).map g = l.map g := by
  refine List.ext_getElem? fun k => ?_
  rw [List.getElem?_map, List.getElem?_map, List.getElem?_modify]
  cases l[k]? with
  | none => rfl
  | some x =>
    simp only [Option.map_some]
    split
    · exact congrArg some (same x)
    · rfl

/-- A change of a channel that keeps its configuration. -/
theorem State.workChannel_besidesShelf (s : State) (c : Nat) {f : ChanWork → ChanWork}
    (cfg : (f ⟨s.channel c, false⟩).ch.cfg = (s.channel c).cfg) : (s.workChannel c f).besidesShelf = s.besidesShelf := by
  have written : ({ s with channels := s.channels.set c (f ⟨s.channel c, false⟩).ch } : State).besidesShelf = s.besidesShelf := by
    have channels : (s.channels.set c (f ⟨s.channel c, false⟩).ch).map (fun ch => Channel.initial ch.cfg) =
        s.channels.map fun ch => Channel.initial ch.cfg := map_set_of_same _ _ _ _ (congrArg Channel.initial cfg)
    simp only [State.besidesShelf, channels]
  have marked : ∀ (v : State) (b : Bool), (v.markIf b (·.markChannel c)).besidesShelf = v.besidesShelf := fun v b =>
    State.markIf_frame State.besidesShelf rfl
  have reported : ∀ (v : State) (z : ZoneSet), (v.reportRadiating c z).besidesShelf = v.besidesShelf := fun v z =>
    ((v.reportRadiating_grows c z).map (q := State.besidesShelf) State.besidesShelf fun _ => rfl).same
  rw [State.workChannel_eq]
  exact (reported _ _).trans ((marked _ _).trans written)

theorem Channel.afterDlOn_cfg (ch : Channel) : ch.afterDlOn.cfg = ch.cfg := by
  unfold Channel.afterDlOn
  cases ch.state with
  | up =>
    dsimp only
    split
    · rw [Channel.leavesUp, Channel.changeSource_eq]
    · rfl
  | _ => rfl

theorem State.takeDlOn_besidesShelf (s : State) (c : Nat) : (s.takeDlOn c).besidesShelf = s.besidesShelf := by
  rw [State.takeDlOn_eq]
  split
  · rfl
  · refine s.workChannel_besidesShelf c ?_
    rw [ChanWork.takesDlOn_eq]
    dsimp only
    split
    · exact Channel.afterDlOn_cfg _
    · rfl

/-- A feed that comes up over a loop without an ACTIVE unit finds no gate to evaluate (R117, R118). -/
theorem State.feedComesUp_besidesShelf {s : State} (idle : ∀ i, s.isActive i = false) (b : Nat) :
    (s.feedComesUp b).besidesShelf = s.besidesShelf := by
  have ineligible : ∀ v : State, v.lpc = s.lpc → ∀ b i, v.eligible b i = false := fun v lpc b i => by
    rw [State.eligible, State.isActive_of_lpc lpc, idle i, Bool.false_and, Bool.false_and]
  have reported : ∀ v : State, (v.reportFeed b).besidesShelf = v.besidesShelf := fun v =>
    State.each_frame State.besidesShelf fun u i _ =>
      ((u.recomputeActive_grows i).map (q := State.besidesShelf) State.besidesShelf fun _ => rfl).same
  have marked : ∀ v : State, (v.markBand b).besidesShelf = v.besidesShelf := fun _ => rfl
  unfold State.feedComesUp
  split
  · rfl
  · dsimp only
    refine (marked _).trans ((reported _).trans ?_)
    refine State.each_keeps (P := fun v => v.besidesShelf = s.besidesShelf) (fun v i _ same => ?_) ?_
    · rw [ineligible v (show _ = s.lpc from congrArg (·.lpc) same), if_neg Bool.false_ne_true]
      exact same
    · have bands : (s.bands.modify b fun x => { x with feed := true }).map Band.besidesFeed = s.bands.map Band.besidesFeed :=
        map_modify_of_same (fun x : Band => { x with feed := true }) (fun _ => rfl) _ _
      simp only [State.besidesShelf, State.modBands, bands]

theorem State.reportShelf_besidesShelf {s : State} (idle : ∀ i, s.isActive i = false) :
    s.reportShelf.besidesShelf = s.besidesShelf := by
  have lpc : ∀ {v : State}, v.besidesShelf = s.besidesShelf → ∀ i, v.isActive i = false := fun h i =>
    (State.isActive_of_lpc (show _ = s.lpc from congrArg (·.lpc) h) i).trans (idle i)
  unfold State.reportShelf
  refine State.each_keeps (P := fun v => v.besidesShelf = s.besidesShelf)
    (fun v b _ h => (State.feedComesUp_besidesShelf (lpc h) b).trans h) ?_
  exact State.each_frame State.besidesShelf fun v c _ => v.takeDlOn_besidesShelf c

/-! ### The settings loaded or defaulted -/

/-- The part with the settings loaded or defaulted and the loop started, before the portal shelf reports. -/
def State.loopLoaded (s : State) (c : Settings) (loaded : Bool) : State :=
  { s.configure c with
    loopOn := true, clp := { s.clp with defaulted := !loaded }, csc := { s.csc with level := c.level, copyValid := loaded } }

theorem State.configure_idle (s : State) (c : Settings) (i : Nat) : (s.configure c).isActive i = false := by
  have absent : ∀ (l : List RuEntry), (∀ r ∈ l, r.state = .absent) → (l.getD i (RuEntry.initial 0#32 .a)).state = .absent := by
    intro l all
    by_cases hi : i < l.length
    · rw [List.getD_eq_getElem _ _ hi]
      exact all _ (List.getElem_mem hi)
    · rw [List.getD_eq_default _ _ (Nat.not_lt.1 hi)]
      rfl
  rw [State.isActive, State.ru, absent _ fun r mem => ?_]
  · rfl
  · obtain ⟨k, -, rfl⟩ := List.mem_map.1 mem
    rfl

theorem State.loopStart_besidesShelf (s : State) (c : Settings) (loaded : Bool) :
    (s.loopStart c loaded).besidesShelf = (s.loopLoaded c loaded).besidesShelf := by
  have started : ∀ v : State, v.besidesShelf = (s.loopLoaded c loaded).besidesShelf →
      v.reportShelf.besidesShelf = (s.loopLoaded c loaded).besidesShelf := fun v same =>
    (State.reportShelf_besidesShelf fun i =>
      (State.isActive_of_lpc (show _ = (s.configure c).lpc from congrArg (·.lpc) same) i).trans (s.configure_idle c i)).trans same
  refine started _ ((State.markIf_frame State.besidesShelf rfl).trans ?_)
  exact (State.markIf_frame State.besidesShelf rfl).trans rfl

/-! ### What the settings give the blocks -/

section
variable {s t : State} (h : t.besidesShelf = s.besidesShelf)
include h

theorem State.snapshot_of_besidesShelf : t.snapshot = s.snapshot := by
  have masked : ∀ v : State, v.snapshot = v.besidesShelf.snapshot := fun v => by
    simp [State.snapshot, State.besidesShelf, Function.comp_def, Channel.initial, Band.besidesFeed]
  rw [masked t, masked s, h]

theorem State.inUse_of_besidesShelf (inUse : ∀ b ∈ s.bands, b.inUse = b.cfg.threshold) :
    ∀ b ∈ t.bands, b.inUse = b.cfg.threshold := by
  intro b mem
  have bands : t.bands.map Band.besidesFeed = s.bands.map Band.besidesFeed := congrArg (·.bands) h
  obtain ⟨b', mem', same⟩ := List.mem_map.1 (bands ▸ List.mem_map_of_mem mem)
  have own := inUse b' mem'
  rwa [show b'.inUse = b.inUse from congrArg (·.inUse) same, show b'.cfg = b.cfg from congrArg (·.cfg) same] at own

end

/-- A settings copy that every block can hold (R171). -/
structure Settings.Fits (c : Settings) : Prop where
  preferred : c.preferred.length = c.configured.length
  thresholds : c.thresholds.length = c.configured.length
  power : c.power.length = c.configured.length
  channels : c.channels.length = 8
  bands : c.bands.length = 4
  pool : c.pool.length = 96
  splitLow : 1 ≤ c.split
  splitHigh : c.split ≤ c.configured.length + 1

theorem Settings.default_fits : Settings.default.Fits := by constructor <;> decide

theorem map_range_getD_of_length {α : Type} {l : List α} {n : Nat} (length : l.length = n) (d : Nat → α) :
    (List.range n).map (fun i => l.getD i (d i)) = l := by
  refine List.ext_getElem (by simp [length]) fun i _ hi => ?_
  simp [hi]

/-- The configuration of the blocks is the copy that they were loaded from. -/
theorem State.loopLoaded_snapshot (s : State) {c : Settings} (fits : c.Fits) (loaded : Bool) :
    (s.loopLoaded c loaded).snapshot = c := by
  obtain ⟨preferred, thresholds, power, channels, bands, pool, low, high⟩ := fits
  have split : (if 1 ≤ c.split ∧ c.split ≤ c.configured.length + 1 then c.split else c.configured.length + 1) = c.split :=
    if_pos ⟨low, high⟩
  simp only [State.snapshot, State.loopLoaded, State.configure, List.map_map, Function.comp_def, RuEntry.initial, Channel.initial,
    Band.initial, split, map_range_getD_of_length rfl, map_range_getD_of_length preferred, map_range_getD_of_length thresholds,
    map_range_getD_of_length power, map_range_getD_of_length channels, map_range_getD_of_length bands,
    map_range_getD_of_length pool]

end Sys2Proof.Machine
end

section
/-! SUPPORT. The part enters RUNNING (R53, R179): what an emergency that begins with it leaves of the flash, of its port, of the directory
and of the part state's mark. -/

namespace Sys2Proof.Machine

/-! ### The flash and its port through the beginning of an emergency (R48, R156, R169) -/

section
variable (s : State)

theorem State.holdRecord_portView (i : Nat) (r : AllocRecord) : (s.holdRecord i r).portView = s.portView := by
  rw [State.holdRecord_eq]
  rfl

theorem State.recomputeActive_portView (i : Nat) : (s.recomputeActive i).portView = s.portView := by
  unfold State.recomputeActive
  split
  · exact s.holdRecord_portView i _
  · rfl

theorem State.powerModes_portView (relay : State) (z : ZoneSet) : (s.powerModes relay z).portView = s.portView :=
  State.each_frame State.portView fun v i _ => v.holdRecord_portView i _

theorem State.relayModes_portView (old : State) (z : ZoneSet) : (s.relayModes old z).portView = s.portView := by
  have reported : ∀ (v : State) c b, (v.reportRadiating c b).portView = v.portView := fun v c b =>
    State.each_frame State.portView fun u i _ => u.recomputeActive_portView i
  refine State.each_frame State.portView fun v c _ => ?_
  dsimp only
  split
  · rfl
  · exact (reported _ _ _).trans (State.markIf_frame State.portView rfl)

theorem State.powerAndRelay_portView (old : State) (z : ZoneSet) : (s.powerAndRelay old z).portView = s.portView := by
  unfold State.powerAndRelay
  split
  · exact (State.powerModes_portView _ _ _).trans (s.relayModes_portView old z)
  · exact (State.relayModes_portView _ _ _).trans (s.powerModes_portView old z)

theorem State.workBand_portView (b : Nat) (f : BandWork → BandWork) : (s.workBand b f).portView = s.portView := by
  rw [State.workBand_eq]
  rfl

theorem State.forceGates_portView (z : ZoneSet) : (s.forceGates z).portView = s.portView :=
  State.each_frame State.portView fun _ _ _ => State.each_frame State.portView fun v b _ => by
    split
    · exact v.workBand_portView b _
    · rfl

theorem State.emergencyTaken_portView (z : ZoneSet) : (s.emergencyTaken z).portView = s.portView :=
  (State.forceGates_portView _ z).trans (State.powerAndRelay_portView _ s z)

theorem State.orphanRead_portView (p : Nat) : (s.orphanRead p).portView = s.portView :=
  congrArg (fun op => (s.flash, op, s.csc.absent, s.clp.marks.part)) (map_op_of_disowned s.csc.port (.player p))

theorem State.endPlayer_portView (p : Nat) (r : PlayEndReason) : (s.endPlayer p r).portView = s.portView := by
  have left : ∀ v : State, ((v.deactivate (.player p)).markPlayer p).portView = v.portView := fun v =>
    (show _ = (v.deactivate (.player p)).portView from rfl).trans (State.markIf_frame State.portView rfl)
  exact (left _).trans ((State.workPlayer_portView _ p _).trans (s.orphanRead_portView p))

theorem State.walkFrom_portView (p : Nat) (start : Option Nat) (pends : Bool) :
    (s.walkFrom p start pends).portView = s.portView := by
  refine Eq.trans ?_ (s.orphanRead_portView p)
  unfold State.walkFrom
  dsimp only
  split
  · exact State.workPlayer_portView _ p _
  · exact State.workPlayer_portView _ p _
  · split
    · exact State.workPlayer_portView _ p _
    · exact (State.endPlayer_portView _ p _).trans (State.workPlayer_portView _ p _)

theorem State.evacuate_portView (p : Nat) : (s.evacuate p).portView = s.portView := by
  unfold State.evacuate
  dsimp only
  split
  · exact s.workPlayer_portView p _
  · exact (State.walkFrom_portView _ p _ _).trans (s.workPlayer_portView p _)

theorem State.takeOver_portView (p : Nat) : (s.takeOver p).portView = s.portView := by
  unfold State.takeOver
  split
  · exact (State.evacuate_portView _ p).trans (s.endPlayer_portView p _)
  · exact s.evacuate_portView p

theorem State.abortUpload_portView : s.abortUpload.portView = s.portView := by
  cases held : s.csc.upload with
  | none => rw [State.abortUpload_of_none held]
  | some u =>
    exact (State.abortUpload_frame State.portView held
      (fun v t => State.portView_of_besidesReplies (v.answer_besidesReplies t .aborted []))
      State.endUpload_portView).trans (s.damaged_portView u.slot)

theorem State.applyEmergency_portView : s.applyEmergency.portView = s.portView := by
  unfold State.applyEmergency
  dsimp only
  split
  · rfl
  · rw [State.emergencySet_eq]
    split
    · exact s.emergencyTaken_portView _
    · exact (State.abortUpload_portView _).trans ((State.each_frame State.portView fun v p _ => v.takeOver_portView p).trans
        (s.emergencyTaken_portView _))

end

/-! ### The directory -/

/-- An upload that is given up changes no entry where there is none, or where every slot is DAMAGED already. -/
theorem State.abortUpload_directory {s : State} (settled : s.csc.upload = none ∨ ∀ k, (s.dirEntry k).state = .damaged) :
    s.abortUpload.csc.directory = s.csc.directory := by
  cases held : s.csc.upload with
  | none => rw [State.abortUpload_of_none held]
  | some u =>
    have damaged := settled.resolve_left (by simp [held]) u.slot
    refine (State.abortUpload_frame (·.csc.directory) held (fun v t => by rw [State.answer_eq]) fun _ => rfl).trans ?_
    rw [State.damaged, if_pos damaged]

theorem State.applyEmergency_directory {s : State} (settled : s.csc.upload = none ∨ ∀ k, (s.dirEntry k).state = .damaged) :
    s.applyEmergency.csc.directory = s.csc.directory := by
  by_cases quiet : s.joined = 0#24 ∨ s.anyEmergency = true
  · obtain ⟨-, csc, -⟩ := State.applyEmergency_quiet quiet
    rw [csc]
  · rw [not_or, Bool.not_eq_true] at quiet
    obtain ⟨t, begins, -, csc, -⟩ := State.applyEmergency_begins quiet.1 quiet.2
    obtain ⟨-, store, upload, -⟩ := State.kept_of_besidesRuns t.evacuationStart_growsRuns.same
    have directory : t.evacuationStart.csc.directory = s.csc.directory :=
      (show _ = _ from congrArg (·.directory) store).trans (by rw [csc])
    rw [begins, State.abortUpload_directory, directory]
    rwa [upload, csc, State.dirEntry_congr directory]

/-! ### RUNNING (R179) -/

/-- The part state and its mark as the part enters RUNNING. -/
def State.inRunning (s : State) : State := (s.modClp fun c => { c with part := .running }).markPart

theorem State.goRunning_eq (s : State) :
    s.goRunning = if s.inRunning.zmg.latch then s.inRunning.applyEmergency else s.inRunning := rfl

theorem State.goRunning_portView (s : State) : s.goRunning.portView = s.inRunning.portView := by
  rw [State.goRunning_eq]
  split
  · exact s.inRunning.applyEmergency_portView
  · rfl

theorem State.goRunning_leaves (s : State) :
    s.goRunning.clp.part = .running ∧ s.goRunning.clp.marks.part = true ∧ s.goRunning.clp.defaulted = s.clp.defaulted ∧
      s.goRunning.loopOn = s.loopOn ∧ s.goRunning.flash = s.flash ∧ s.goRunning.csc.absent = s.csc.absent ∧
      (s.csc.port = none → s.goRunning.csc.port = none) := by
  have view := s.goRunning_portView
  have link : s.goRunning.clp.part = .running ∧ s.goRunning.clp.defaulted = s.clp.defaulted ∧ s.goRunning.loopOn = s.loopOn := by
    rw [State.goRunning_eq]
    split
    · have kept := s.inRunning.applyEmergency_grows.same
      exact ⟨show _ = s.inRunning.clp.part from congrArg (·.clp.part) kept,
        show _ = s.inRunning.clp.defaulted from congrArg (·.clp.defaulted) kept,
        show _ = s.inRunning.loopOn from congrArg (·.loopOn) kept⟩
    · exact ⟨rfl, rfl, rfl⟩
  obtain ⟨part, defaulted, loopOn⟩ := link
  exact ⟨part, State.partMark_of_portView view, defaulted, loopOn, State.flash_of_portView (s := s.inRunning) view,
    State.absent_of_portView (s := s.inRunning) view, State.free_of_portView (s := s.inRunning) view⟩

theorem State.goRunning_directory {s : State} (settled : s.csc.upload = none ∨ ∀ k, (s.dirEntry k).state = .damaged) :
    s.goRunning.csc.directory = s.csc.directory := by
  rw [State.goRunning_eq]
  split
  · exact State.applyEmergency_directory (s := s.inRunning) settled
  · rfl

/-! ### The header scan goes on (R161) -/

/-- A slot's entry is set, and the scan takes the next header or ends. -/
def State.scanned (s : State) (slot : Nat) (e : DirEntry) : State := (s.setDir slot fun _ => e).scanOn slot

section
variable {s : State} {slot : Nat} (e : DirEntry)

/-- While headers are left, the scan reads the next. -/
theorem State.scanned_of_more (more : slot < 62) :
    (s.scanned slot e).csc.directory = s.csc.directory.set slot e ∧ (s.scanned slot e).flash = s.flash ∧
      (s.scanned slot e).csc.port = some ⟨.readHeader (slot + 1), .startup, s.now⟩ ∧
      (s.scanned slot e).clp.part = s.clp.part := by
  obtain ⟨flash, -⟩ := State.kept_of_besidesDirectory (s.setDir_besidesDirectory slot fun _ => e)
  obtain ⟨-, -, -, part, now⟩ := State.flags_of_besidesDirectory (s.setDir_besidesDirectory slot fun _ => e)
  have reads : s.scanned slot e = (s.setDir slot fun _ => e).startOp (.readHeader (slot + 1), .startup) := if_pos more
  rw [reads]
  exact ⟨s.setDir_directory slot _, flash,
    congrArg (fun n => some (⟨.readHeader (slot + 1), .startup, n⟩ : PortOp)) now, part⟩

/-- After the last header the part enters RUNNING. -/
theorem State.scanned_of_last (last : 62 ≤ slot) (free : s.csc.port = none) (noUpload : s.csc.upload = none) :
    (s.scanned slot e).csc.directory = s.csc.directory.set slot e ∧ (s.scanned slot e).flash = s.flash ∧
      (s.scanned slot e).csc.port = none ∧ (s.scanned slot e).clp.part = .running ∧
      (s.scanned slot e).clp.marks.part = true := by
  obtain ⟨flash, -, -, port, upload, -⟩ := State.kept_of_besidesDirectory (s.setDir_besidesDirectory slot fun _ => e)
  have runs : s.scanned slot e = (s.setDir slot fun _ => e).goRunning := if_neg (Nat.not_lt.2 last)
  obtain ⟨part, marked, -, -, flash', -, stays⟩ := (s.setDir slot fun _ => e).goRunning_leaves
  rw [runs]
  exact ⟨(State.goRunning_directory (.inl (upload.trans noUpload))).trans (s.setDir_directory slot _), flash'.trans flash,
    stays (port.trans free), part, marked⟩

/-- What the scan leaves after a slot whose entry it has set. -/
theorem State.scanned_leaves (free : s.csc.port = none) (noUpload : s.csc.upload = none) (listed : slot < s.csc.directory.length) :
    (s.scanned slot e).flash = s.flash ∧ (s.scanned slot e).dirEntry slot = e ∧
      (∀ k, k ≠ slot → (s.scanned slot e).dirEntry k = s.dirEntry k) ∧
      (slot < 62 → (s.scanned slot e).csc.port = some ⟨.readHeader (slot + 1), .startup, s.now⟩ ∧
        (s.scanned slot e).clp.part = s.clp.part) ∧
      (slot = 62 → (s.scanned slot e).csc.port = none ∧ (s.scanned slot e).clp.part = .running ∧
        (s.scanned slot e).clp.marks.part = true) := by
  have entries : (s.scanned slot e).csc.directory = s.csc.directory.set slot e →
      (s.scanned slot e).dirEntry slot = e ∧ ∀ k, k ≠ slot → (s.scanned slot e).dirEntry k = s.dirEntry k := fun directory => by
    rw [State.dirEntry_congr (directory.trans (s.setDir_directory slot fun _ => e).symm)]
    exact ⟨s.setDir_dirEntry slot _ listed, fun k other => s.setDir_dirEntry_ne slot _ other⟩
  obtain more | last := Nat.lt_or_ge slot 62
  · obtain ⟨directory, flash, reads⟩ := State.scanned_of_more (s := s) e more
    exact ⟨flash, (entries directory).1, (entries directory).2, fun _ => reads, fun last => by omega⟩
  · obtain ⟨directory, flash, runs⟩ := State.scanned_of_last e last free noUpload
    exact ⟨flash, (entries directory).1, (entries directory).2, fun more => by omega, fun _ => runs⟩

end

end Sys2Proof.Machine
end

section
/-! The start-up read (R161): the settings loaded or defaulted, the header scan, the part in RUNNING. -/

namespace Sys2Proof.Machine

/-! ### The settings read has completed or failed (R161 step 1, R171) -/

/-- What the start of the loop leaves of the clip store, the flash and the part state. -/
theorem State.loopStart_leaves (s : State) (c : Settings) (loaded : Bool) :
    (s.loopStart c loaded).csc = { s.csc with level := c.level, copyValid := loaded } ∧ (s.loopStart c loaded).flash = s.flash ∧
      (s.loopStart c loaded).loopOn = true ∧ (s.loopStart c loaded).now = s.now ∧
      (s.loopStart c loaded).clp.part = s.clp.part ∧ (s.loopStart c loaded).clp.defaulted = !loaded := by
  have same := s.loopStart_besidesShelf c loaded
  exact ⟨show _ = (s.loopLoaded c loaded).csc from congrArg (·.csc) same, show _ = s.flash from congrArg (·.flash) same,
    show _ = true from congrArg (·.loopOn) same, show _ = s.now from congrArg (·.now) same,
    show _ = s.clp.part from congrArg (·.clp.part) same, show _ = !loaded from congrArg (·.clp.defaulted) same⟩

/-- Every band's threshold in use is its record's before the first band frame. -/
theorem State.loopStart_inUse (s : State) (c : Settings) (loaded : Bool) :
    ∀ b ∈ (s.loopStart c loaded).bands, b.inUse = b.cfg.threshold := by
  refine State.inUse_of_besidesShelf (s.loopStart_besidesShelf c loaded) fun b mem => ?_
  obtain ⟨i, -, rfl⟩ := List.mem_map.1 mem
  rfl

/-- The configuration and the effective split are those of the settings. -/
theorem State.loopStart_settings (s : State) {c : Settings} (fits : c.Fits) (loaded : Bool) :
    (s.loopStart c loaded).snapshot = c ∧ (s.loopStart c loaded).zmg.effective = c.split := by
  have same := s.loopStart_besidesShelf c loaded
  have effective : (s.loopStart c loaded).zmg.effective = (s.loopLoaded c loaded).zmg.effective :=
    congrArg (·.zmg.effective) same
  exact ⟨(State.snapshot_of_besidesShelf same).trans (s.loopLoaded_snapshot fits loaded),
    effective.trans (if_pos ⟨fits.splitLow, fits.splitHigh⟩)⟩

/-- The port is free after the settings read, the loop starts with settings loaded or defaulted, and the header scan begins. -/
def State.loopAndScanStart (s : State) (c : Settings) (loaded : Bool) : State :=
  (State.loopStart { s with csc := { s.csc with port := none } } c loaded).startOp (.readHeader 0, .startup)

section
variable (s : State) (c : Settings) (loaded : Bool)

theorem State.loopAndScanStart_leaves :
    (s.loopAndScanStart c loaded).loopOn = true ∧
      (s.loopAndScanStart c loaded).csc.port = some ⟨.readHeader 0, .startup, s.now⟩ ∧
      (s.loopAndScanStart c loaded).clp.part = s.clp.part ∧ (s.loopAndScanStart c loaded).flash = s.flash ∧
      (s.loopAndScanStart c loaded).csc.directory = s.csc.directory ∧
      ∀ b ∈ (s.loopAndScanStart c loaded).bands, b.inUse = b.cfg.threshold := by
  obtain ⟨csc, flash, loopOn, now, part, -⟩ := State.loopStart_leaves { s with csc := { s.csc with port := none } } c loaded
  exact ⟨loopOn, congrArg (fun n => some (⟨.readHeader 0, .startup, n⟩ : PortOp)) now, part, flash, congrArg (·.directory) csc,
    State.loopStart_inUse _ c loaded⟩

theorem State.loopAndScanStart_flags :
    (s.loopAndScanStart c loaded).clp.defaulted = !loaded ∧ (s.loopAndScanStart c loaded).csc.copyValid = loaded := by
  obtain ⟨csc, -, -, -, -, defaulted⟩ := State.loopStart_leaves { s with csc := { s.csc with port := none } } c loaded
  exact ⟨defaulted, congrArg (·.copyValid) csc⟩

theorem State.loopAndScanStart_settings {c : Settings} (fits : c.Fits) :
    (s.loopAndScanStart c loaded).snapshot = c ∧ (s.loopAndScanStart c loaded).zmg.effective = c.split :=
  State.loopStart_settings { s with csc := { s.csc with port := none } } fits loaded

end

/-- The settings that a settings area gives, and whether they are loaded. -/
def SettingsArea.gives : SettingsArea → Settings × Bool
  | .copy c => (c, true)
  | .erased => (Settings.default, false)
  | .invalid => (Settings.default, false)

theorem SettingsArea.gives_of_blank {a : SettingsArea} (h : a = .erased ∨ a = .invalid) : a.gives = (Settings.default, false) := by
  obtain rfl | rfl := h <;> rfl

theorem exec_settingsReadComplete {s : State} {start : Nat} (on : s.power = .on) (present : s.csc.absent = false)
    (port : s.csc.port = some ⟨.readSettings, .startup, start⟩) :
    exec .settingsReadComplete s = .next (s.loopAndScanStart s.flash.area.gives.1 s.flash.area.gives.2).settle := by
  have held : s.portOp = some ⟨.readSettings, .startup, start⟩ := by rw [State.portOp, present, port]; rfl
  have area : (s.freePort ⟨.readSettings, .startup, start⟩).flash.area = s.flash.area := rfl
  refine (State.whenOn_of_on on State.settingsRead).trans ?_
  simp only [State.settingsRead, held, area]
  cases s.flash.area <;> rfl

/-! ### A header read has completed (R161 step 2) -/

theorem exec_headerReadComplete {s : State} {slot start : Nat} (on : s.power = .on) (present : s.csc.absent = false)
    (port : s.csc.port = some ⟨.readHeader slot, .startup, start⟩) :
    exec .headerReadComplete s =
      .next (State.scanned { s with csc := { s.csc with port := none } } slot (entryOf (s.flash.header slot))).settle := by
  have held : s.portOp = some ⟨.readHeader slot, .startup, start⟩ := by rw [State.portOp, present, port]; rfl
  refine (State.whenOn_of_on on State.headerRead).trans ?_
  simp only [State.headerRead, held]
  rfl

/-- The entry that a header gives (R161): its state by the table, the verified flag clear, the header's fields where it is READY. -/
theorem entryOf_spec (h : Header) :
    (entryOf h).state = headerTable h ∧ (entryOf h).verified = false ∧
      ((entryOf h).state = .ready →
        (entryOf h).length = h.length.toNat ∧ (entryOf h).label = h.label ∧ (entryOf h).crc = h.crc) := by
  unfold entryOf headerTable
  split
  · exact ⟨rfl, rfl, fun ready => by cases ready⟩
  · split
    · exact ⟨rfl, rfl, fun _ => ⟨rfl, rfl, rfl⟩⟩
    · exact ⟨rfl, rfl, fun _ => ⟨rfl, rfl, rfl⟩⟩

/-- Settles O41: the settings read by the area that it finds, and each header read by the entry that it sets and the scan that goes
on. -/
theorem startUpReadsTheFlash : Obligations.StartUpReadsTheFlash := by
  refine ⟨fun s start on present port => ?_, fun s slot start on present noUpload directory listed port => ?_⟩
  · obtain ⟨loopOn, port', part, flash, directory, inUse⟩ := s.loopAndScanStart_leaves s.flash.area.gives.1 s.flash.area.gives.2
    refine ⟨_, exec_settingsReadComplete on present port, loopOn, port', part, flash, directory, inUse,
      fun c area preferred thresholds power channels bands pool low high => ?_, fun blank => ?_⟩
    · obtain ⟨snapshot, effective⟩ := s.loopAndScanStart_settings true
        ⟨preferred, thresholds, power, channels, bands, pool, low, high⟩
      rw [area]
      exact ⟨snapshot, effective, s.loopAndScanStart_flags c true⟩
    · rw [SettingsArea.gives_of_blank blank]
      exact ⟨(s.loopAndScanStart_settings false Settings.default_fits).1, s.loopAndScanStart_flags Settings.default false⟩
  · obtain ⟨state, verified, fields⟩ := entryOf_spec (s.flash.header slot)
    obtain ⟨flash, entry, others, more, last⟩ := State.scanned_leaves (s := { s with csc := { s.csc with port := none } })
      (entryOf (s.flash.header slot)) rfl noUpload (directory ▸ listed)
    refine ⟨_, exec_headerReadComplete on present port, flash, ?_⟩
    rw [entry]
    exact ⟨state, verified, fields, fun k _ other => others k other, more, last⟩

end Sys2Proof.Machine
end

section
/-! An operation of the flash port fails or is overdue (R165): each owner takes the failure by its own rule. -/

namespace Sys2Proof.Machine

/-! ### The flash is absent (R161) -/

/-- The first `n` slots, none of whose headers can be read. -/
def State.unreadBelow (s : State) (n : Nat) : State := s.each (List.range n) fun s slot => s.setDir slot fun _ => entryUnread

theorem State.unreadBelow_succ (s : State) (n : Nat) :
    s.unreadBelow (n + 1) = (s.unreadBelow n).setDir n fun _ => entryUnread := by
  rw [State.unreadBelow, List.range_succ, State.each_append]
  rfl

theorem State.unreadBelow_besidesDirectory (s : State) (n : Nat) : (s.unreadBelow n).besidesDirectory = s.besidesDirectory :=
  State.each_frame State.besidesDirectory fun v slot _ => v.setDir_besidesDirectory slot _

theorem State.unreadBelow_length (s : State) (n : Nat) : (s.unreadBelow n).csc.directory.length = s.csc.directory.length :=
  State.each_frame (·.csc.directory.length) fun v slot _ => by rw [State.setDir_directory, List.length_set]

theorem State.unreadBelow_dirEntry (s : State) {n k : Nat} (below : k < n) (listed : k < s.csc.directory.length) :
    (s.unreadBelow n).dirEntry k = entryUnread := by
  induction n with
  | zero => cases below
  | succ n ih =>
    rw [State.unreadBelow_succ]
    by_cases last : k = n
    · subst last
      exact State.setDir_dirEntry _ _ _ (by rwa [State.unreadBelow_length])
    · rw [State.setDir_dirEntry_ne _ _ _ last]
      exact ih (by omega)

/-- Every slot of a directory of 63 is DAMAGED once none can be read. -/
theorem State.unread_damaged {s : State} (directory : s.csc.directory.length = 63) (k : Nat) :
    ((s.unreadBelow 63).dirEntry k).state = .damaged := by
  by_cases listed : k < 63
  · rw [s.unreadBelow_dirEntry listed (directory ▸ listed)]
    rfl
  · rw [State.dirEntry_of_unlisted (by rw [State.unreadBelow_length]; omega)]

/-- The settings read has failed: the part enters RUNNING with the defaults and every slot DAMAGED. -/
theorem State.flashAbsent_leaves {s : State} (free : s.csc.port = none) (directory : s.csc.directory.length = 63) :
    s.flashAbsent.csc.port = none ∧ s.flashAbsent.csc.absent = true ∧ s.flashAbsent.clp.part = .running ∧
      s.flashAbsent.flash = s.flash ∧ s.flashAbsent.loopOn = true ∧ s.flashAbsent.clp.defaulted = true ∧
      ∀ e ∈ s.flashAbsent.csc.directory, e.state = .damaged := by
  obtain ⟨csc, flash, loopOn, -, -, defaulted⟩ := s.loopStart_leaves Settings.default false
  obtain ⟨t, ht⟩ : ∃ t : State, t = (s.loopStart Settings.default false).modCsc fun c => { c with absent := true } := ⟨_, rfl⟩
  have absent : s.flashAbsent = (t.unreadBelow 63).goRunning := by
    rw [ht]
    rfl
  have store : t.csc = { s.csc with level := Settings.default.level, copyValid := false, absent := true } := by
    rw [ht, State.modCsc_csc, csc]
  have damaged := State.unread_damaged (s := t) (by rw [store]; exact directory)
  obtain ⟨flash', -, -, port, -⟩ := State.kept_of_besidesDirectory (t.unreadBelow_besidesDirectory 63)
  obtain ⟨gone', loopOn'', defaulted'', -⟩ := State.flags_of_besidesDirectory (t.unreadBelow_besidesDirectory 63)
  obtain ⟨part, -, defaulted', loopOn', flash'', gone, stays⟩ := (t.unreadBelow 63).goRunning_leaves
  rw [absent]
  refine ⟨stays (port.trans (by rw [store]; exact free)), gone.trans (gone'.trans (by rw [store])), part,
    flash''.trans (flash'.trans (by rw [ht]; exact flash)), loopOn'.trans (loopOn''.trans (by rw [ht]; exact loopOn)),
    defaulted'.trans (defaulted''.trans (by rw [ht]; exact defaulted)), fun e mem => ?_⟩
  rw [State.goRunning_directory (.inr damaged)] at mem
  obtain ⟨k, hk, rfl⟩ := List.mem_iff_getElem.1 mem
  have entry := damaged k
  rwa [State.dirEntry, List.getD_eq_getElem _ _ hk] at entry

/-! ### The failure by its owner (R165) -/

/-- The failed operation ended on the flash, the port free. -/
def State.opCut (s : State) (o : PortOp) : State := { s with flash := s.flash.cutOp o.op, csc := { s.csc with port := none } }

/-- A player whose item has failed keeps its notice (R154, R158). -/
theorem State.failItem_eq (s : State) (p : Nat) :
    s.failItem p = { s with apl := { s.apl with players := s.apl.players.set p { s.player p with failed := true } } } := by
  have quiet : (s.player p).noticeChange { s.player p with failed := true } = false := by simp [Player.noticeChange]
  rw [State.failItem, State.workPlayer_eq, quiet, if_neg Bool.false_ne_true]

section
variable {s : State} {o : PortOp}

/-- An upload without an UPLOAD_END goes on as a FAULTED one, its other requests answered (R165). -/
theorem ownerFails_of_upload {up : Upload} (held : s.csc.upload = some up) (owner : o.owner = .upload) (silent : up.endTag = none) :
    ((s.opCut o).ownerFails o).csc.port = none ∧ ((s.opCut o).ownerFails o).flash = s.flash.cutOp o.op ∧
      ((s.opCut o).ownerFails o).csc.upload = some { up with state := .faulted, beginTag := none, waiting := [] } ∧
      (((s.opCut o).ownerFails o).dirEntry up.slot).state = .damaged ∧
      ((s.opCut o).ownerFails o).csc.order = s.csc.order.filter (· != .upload) ∧
      ∀ t ∈ up.beginTag.toList ++ up.waiting.map (·.tag), ∀ x ∈ s.clp.slots.find? (Slot.waits t),
        (⟨x.kind + 0x80#8, t, [0x0D#8], false⟩ : Reply) ∈ ((s.opCut o).ownerFails o).clp.replies := by
  have fails : (s.opCut o).ownerFails o = (s.opCut o).faulted up := by
    rw [State.ownerFails, owner]
    exact (State.faultUpload_cases (s := s.opCut o) held).1 silent
  obtain ⟨view, upload, damaged, order, -, replies⟩ := State.faulted_leaves (s := s.opCut o) held
  obtain ⟨-, -, slots, -⟩ := State.kept_of_besidesDirectory ((s.opCut o).damage_besidesDirectory up.slot)
  rw [fails, replies, Upload.faultReplies]
  refine ⟨State.free_of_portView view rfl, State.flash_of_portView view, upload, damaged, order, fun t asked x waits => ?_⟩
  have answered := State.answerEach_answers (s := (s.opCut o).damage up.slot) (st := .flashFault) asked
    (by rw [slots]; exact waits)
  exact answered

/-- An upload that owes an UPLOAD_END ends with that reply (R168). -/
theorem ownerFails_of_ending_upload {up : Upload} (held : s.csc.upload = some up) (owner : o.owner = .upload)
    (ends : up.endTag.isSome = true) (law : s.owedLaw) :
    ((s.opCut o).ownerFails o).csc.port = none ∧ ((s.opCut o).ownerFails o).flash = s.flash.cutOp o.op ∧
      ((s.opCut o).ownerFails o).csc.upload = none ∧ (((s.opCut o).ownerFails o).dirEntry up.slot).state = .damaged ∧
      ((s.opCut o).ownerFails o).csc.order = s.csc.order.filter (· != .upload) ∧
      ((s.opCut o).ownerFails o).clp.replies = s.clp.replies ++ s.clp.statusReplies (up.owes.map (·, .flashFault)) := by
  obtain ⟨t, asked⟩ := Option.isSome_iff_exists.1 ends
  have fails : (s.opCut o).ownerFails o = (s.opCut o).faultUpload := by rw [State.ownerFails, owner]
  obtain ⟨view, gone, damaged, order⟩ := State.faultUpload_ends (s := s.opCut o) held asked
  rw [fails]
  exact ⟨State.free_of_portView view rfl, State.flash_of_portView view, gone, damaged, order,
    State.faultUpload_replies (s := s.opCut o) held asked (State.owes_nodup law held)⟩

/-- An ERASE_SLOT ends with its reply; its slot stays DAMAGED (R170). -/
theorem ownerFails_of_erase {e : EraseJob} (job : s.csc.erase = some e) (owner : o.owner = .eraseSlot) :
    ((s.opCut o).ownerFails o).csc =
        { s.csc with port := none, erase := none, order := s.csc.order.filter (· != .eraseSlot) } ∧
      ((s.opCut o).ownerFails o).flash = s.flash.cutOp o.op ∧
      ∀ t ∈ e.tag, ∀ x ∈ s.clp.slots.find? (Slot.waits t),
        ((s.opCut o).ownerFails o).clp.replies = s.clp.replies ++ [⟨x.kind + 0x80#8, t, [0x0D#8], false⟩] := by
  obtain ⟨v, hv⟩ : ∃ v : State, v = (s.opCut o).modCsc fun c => { c with erase := none, order := c.order.filter (· != .eraseSlot) } :=
    ⟨_, rfl⟩
  have fails : (s.opCut o).ownerFails o = v.answerOpt e.tag .flashFault [] := by
    simp only [State.ownerFails, owner, State.opCut, job, hv]
  obtain ⟨csc, flash, -⟩ := State.kept_of_besidesReplies (v.answerOpt_besidesReplies e.tag .flashFault)
  rw [fails, csc, flash]
  exact ⟨by rw [hv]; rfl, by rw [hv]; rfl, State.answerOpt_replies (by rw [hv]; rfl) (by rw [hv]; rfl) e.tag .flashFault⟩

/-- A settings write ends with its reply; the level and the flag stay (R163, R171). -/
theorem ownerFails_of_settings {x : SettingsJob} (job : s.csc.settings = some x) (owner : o.owner = .settings) :
    ((s.opCut o).ownerFails o).csc =
        { s.csc with port := none, settings := none, order := s.csc.order.filter (· != .settings) } ∧
      ((s.opCut o).ownerFails o).flash = s.flash.cutOp o.op ∧
      ∀ t ∈ x.tag, ∀ y ∈ s.clp.slots.find? (Slot.waits t),
        ((s.opCut o).ownerFails o).clp.replies = s.clp.replies ++ [⟨y.kind + 0x80#8, t, [0x0D#8], false⟩] := by
  obtain ⟨v, hv⟩ : ∃ v : State, v = (s.opCut o).modCsc fun c => { c with settings := none, order := c.order.filter (· != .settings) } :=
    ⟨_, rfl⟩
  have fails : (s.opCut o).ownerFails o = v.answerOpt x.tag .flashFault [] := by
    simp only [State.ownerFails, owner, State.opCut, job, hv]
  obtain ⟨csc, flash, -⟩ := State.kept_of_besidesReplies (v.answerOpt_besidesReplies x.tag .flashFault)
  rw [fails, csc, flash]
  exact ⟨by rw [hv]; rfl, by rw [hv]; rfl, State.answerOpt_replies (by rw [hv]; rfl) (by rw [hv]; rfl) x.tag .flashFault⟩

end

/-- Settles O44: the limit of the start time, and each owner's share of the failure. -/
theorem flashFailuresFollowTheirOwners : Obligations.FlashFailuresFollowTheirOwners := by
  intro s o on port
  have fails : exec .flashOpFail s = .next ((s.opCut o).ownerFails o).settle := exec_flashOpFail on port
  have overdue := exec_flashOpTimeout on port
  refine ⟨fun late => by rw [overdue, if_pos late], fun early => by rw [overdue, if_neg (Nat.not_le.2 early)],
    fun p _ _ owner => ?_, fun v inHand owner => ?_, fun up held owner silent _ _ => ?_, fun up held owner ends law => ?_,
    fun slot owner op listed directory noUpload => ?_, fun e job owner => ?_, fun x job owner => ?_,
    fun owner op directory => ?_⟩
  · have failed : (s.opCut o).ownerFails o = (s.opCut o).failItem p := by simp only [State.ownerFails, owner]
    rw [fails, failed, State.failItem_eq]
    rfl
  · rw [fails, State.ownerFails, owner]
    simp only [State.opCut, State.modCsc, Csc.abandonVerify, Option.mem_def.1 inHand]
  · exact ⟨_, fails, ownerFails_of_upload held owner silent⟩
  · exact ⟨_, fails, ownerFails_of_ending_upload held owner ends law⟩
  · have scans : (s.opCut o).ownerFails o = (s.opCut o).scanned slot entryUnread := by
      rw [State.ownerFails, owner, op]
      rfl
    obtain ⟨flash, entry, others, more, last⟩ := State.scanned_leaves (s := s.opCut o) entryUnread rfl noUpload (directory ▸ listed)
    rw [scans] at fails
    refine ⟨_, fails, flash.trans (by rw [State.opCut, op]; rfl), ?_⟩
    rw [entry]
    exact ⟨rfl, rfl, fun k _ other => others k other, more, last⟩
  · obtain ⟨csc, flash, replies⟩ := ownerFails_of_erase job owner
    exact ⟨_, fails, by rw [csc], by rw [csc], flash, by rw [csc], replies⟩
  · obtain ⟨csc, flash, replies⟩ := ownerFails_of_settings job owner
    exact ⟨_, fails, by rw [csc], by rw [csc], flash, by rw [csc], by rw [csc], replies⟩
  · have absent : (s.opCut o).ownerFails o = (s.opCut o).flashAbsent := by
      rw [State.ownerFails, owner, op]
    obtain ⟨port', gone, part, flash, rest⟩ := State.flashAbsent_leaves (s := s.opCut o) rfl directory
    rw [absent] at fails
    exact ⟨_, fails, port', gone, part, flash.trans (by rw [State.opCut, op]; rfl), rest⟩

end Sys2Proof.Machine
end

section
/-! RESTART at the Control Link Port (R181 steps 1 and 3): the requests without a reply are answered ABORTED, and from then on no block
finds a request to answer but the RESTART itself. -/

namespace Sys2Proof.Machine

/-! ### Replies one after another, as the slots see them (R176) -/

/-- A reply queues the slots that wait with its tag, and no others. -/
theorem Clp.answer_slots (c : Clp) (t : Octet) (st : Status) (fields : List Octet) :
    (c.answer t st fields).slots = c.slots.map fun y => if y.waits t then { y with phase := .queued } else y := by
  cases found : c.slots.find? (Slot.waits t) with
  | some x => rw [Clp.answer_of_waiting st fields found]
  | none =>
    rw [Clp.answer_of_not_waiting st fields found]
    exact (List.map_id _).symm.trans (List.map_congr_left fun y hy => (if_neg (List.find?_eq_none.1 found y hy)).symm)

/-- A slot once the requests with these tags have been answered (R176). -/
def Slot.answered (tags : List Octet) (y : Slot) : Slot :=
  if y.phase = .waiting ∧ y.tag ∈ tags then { y with phase := .queued } else y

/-- One more tag in front: the slot that waits with it is queued, and none of the others is touched by it. -/
theorem Slot.answered_cons (t : Octet) (tags : List Octet) (y : Slot) :
    (if y.waits t then { y with phase := .queued } else y).answered tags = y.answered (t :: tags) := by
  by_cases waits : y.phase = .waiting
  · by_cases same : y.tag = t
    · rw [if_pos (by simp [Slot.waits, waits, same])]
      simp [Slot.answered, waits, same]
    · rw [if_neg (by simp [Slot.waits, same])]
      simp [Slot.answered, waits, same]
  · rw [if_neg (by simp [Slot.waits, waits])]
    simp [Slot.answered, waits]

/-- After a list of replies the slots that waited with a tag of the list are queued. -/
theorem State.answerEach_slots (l : List (Octet × Status)) (s : State) :
    (s.answerEach l).clp.slots = s.clp.slots.map (Slot.answered (l.map (·.1))) := by
  induction l generalizing s with
  | nil => exact (List.map_id _).symm.trans (List.map_congr_left fun y _ => by simp [Slot.answered])
  | cons x l ih =>
    refine (ih (s.answer x.1 x.2 [])).trans ?_
    rw [show (s.answer x.1 x.2 []).clp.slots = _ from s.clp.answer_slots x.1 x.2 [], List.map_map]
    exact List.map_congr_left fun y _ => Slot.answered_cons x.1 _ y

/-- With different tags, a slot that waits is the one that its tag finds. -/
theorem Clp.find_of_waiting {c : Clp} (nodup : (c.slots.map (·.tag)).Nodup) {x : Slot} (hx : x ∈ c.slots)
    (waits : x.phase = .waiting) : c.slots.find? (Slot.waits x.tag) = some x := by
  cases found : c.slots.find? (Slot.waits x.tag) with
  | none => exact absurd (List.find?_eq_none.1 found x hx) (by simp [Slot.waits, waits])
  | some y =>
    have same : y.tag = x.tag := by
      have waits := List.find?_some found
      simp only [Slot.waits, Bool.and_eq_true, beq_iff_eq] at waits
      exact waits.1
    rw [List.inj_on_of_nodup_map nodup (List.mem_of_find?_eq_some found) hx same]

/-- Requests that wait get a reply each, with their own kind. -/
theorem Clp.statusReplies_of_waiting {c : Clp} (nodup : (c.slots.map (·.tag)).Nodup) {l : List Slot}
    (waits : ∀ x ∈ l, x ∈ c.slots ∧ x.phase = .waiting) (st : Status) :
    c.statusReplies (l.map fun x => (x.tag, st)) = l.map fun x => ⟨x.kind + 0x80#8, x.tag, [st.code], false⟩ := by
  rw [Clp.statusReplies, List.filterMap_map, ← List.filterMap_eq_map]
  refine List.filterMap_congr fun x hx => ?_
  obtain ⟨held, phase⟩ := waits x hx
  simp only [Function.comp, Clp.find_of_waiting nodup held phase, Option.map_some]

/-! ### The requests that RESTART aborts (R181 step 1) -/

/-- No request waits for its reply but one with this tag. -/
def State.onlyWaits (s : State) (tag : Octet) : Prop := ∀ x ∈ s.clp.slots, x.phase = .waiting → x.tag = tag

/-- A reply to another request finds none that waits. -/
theorem State.answer_of_onlyWaits {s : State} {tag t : Octet} (only : s.onlyWaits tag) (other : t ≠ tag) (st : Status)
    (fields : List Octet) : s.answer t st fields = s := by
  have none : s.clp.slots.find? (Slot.waits t) = none := List.find?_eq_none.2 fun x hx waits => by
    simp only [Slot.waits, Bool.and_eq_true, beq_iff_eq] at waits
    exact other (waits.1.symm.trans (only x hx waits.2))
  exact congrArg (fun c => { s with clp := c }) (Clp.answer_of_not_waiting st fields none)

/-- The slots of the requests without a reply, queued. -/
def queuedSlots (l : List Slot) : List Slot := l.map fun x => if x.phase = .waiting then { x with phase := .queued } else x

/-- The replies of the requests without one, ABORTED, in the order of their acceptance. -/
def abortedReplies (l : List Slot) : List Reply :=
  (l.filter (·.phase == .waiting)).map fun x => ⟨x.kind + 0x80#8, x.tag, [0x09#8], false⟩

/-- The part that has taken a RESTART and has aborted the other requests. -/
def State.quelled (s : State) (tag : Octet) : State := (s.seat 0x03#8 tag).abortOthers tag

section
variable {s : State} {tag : Octet}

theorem State.abortOthers_eq_each (s : State) (tag : Octet) :
    s.abortOthers tag =
      s.answerEach ((s.clp.slots.filter fun x => x.tag != tag && x.phase == .waiting).map fun x => (x.tag, .aborted)) := by
  rw [State.answerEach, List.foldl_map]
  rfl

theorem State.quelled_besides (s : State) (tag : Octet) : (s.quelled tag).besidesReplies = s.hunt.besidesReplies := by
  rw [State.quelled, State.abortOthers_eq_each]
  exact State.answerEach_besidesReplies _ _

/-- The other requests without a reply, as the RESTART finds them from its own slot. -/
theorem State.seat_others (free : ∀ x ∈ s.clp.slots, x.tag ≠ tag) :
    (s.seat 0x03#8 tag).clp.slots.filter (fun x => x.tag != tag && x.phase == .waiting) =
      s.clp.slots.filter (·.phase == .waiting) := by
  have seated : (s.seat 0x03#8 tag).clp.slots = s.clp.slots ++ [⟨0x03#8, tag, .waiting⟩] := rfl
  rw [seated, List.filter_append, List.filter_cons_of_neg (by simp), List.filter_nil, List.append_nil]
  exact List.filter_congr fun x hx => by simp [free x hx]

theorem State.quelled_slots (free : ∀ x ∈ s.clp.slots, x.tag ≠ tag) :
    (s.quelled tag).clp.slots = queuedSlots s.clp.slots ++ [⟨0x03#8, tag, .waiting⟩] := by
  have seated : (s.seat 0x03#8 tag).clp.slots = s.clp.slots ++ [⟨0x03#8, tag, .waiting⟩] := rfl
  rw [State.quelled, State.abortOthers_eq_each, State.answerEach_slots, State.seat_others free, seated, List.map_append,
    List.map_map]
  congr 1
  · refine List.map_congr_left fun y hy => ?_
    by_cases waits : y.phase = .waiting
    · have named : y.tag ∈ (s.clp.slots.filter (·.phase == .waiting)).map (·.tag) :=
        List.mem_map_of_mem (List.mem_filter.2 ⟨hy, by simp [waits]⟩)
      rw [if_pos waits]
      exact if_pos ⟨waits, named⟩
    · rw [if_neg waits]
      exact if_neg fun h => waits h.1
  · have out : tag ∉ (s.clp.slots.filter (·.phase == .waiting)).map (·.tag) := fun named => by
      obtain ⟨x, hx, same⟩ := List.mem_map.1 named
      exact free x (List.mem_of_mem_filter hx) same
    exact congrArg (fun x => [x]) (if_neg fun h => out h.2)

theorem State.quelled_replies (free : ∀ x ∈ s.clp.slots, x.tag ≠ tag) (nodup : (s.clp.slots.map (·.tag)).Nodup) :
    (s.quelled tag).clp.replies = s.clp.replies ++ abortedReplies s.clp.slots := by
  have seated : (s.seat 0x03#8 tag).clp.slots = s.clp.slots ++ [⟨0x03#8, tag, .waiting⟩] := rfl
  have tags : ((s.seat 0x03#8 tag).clp.slots.map (·.tag)).Nodup := by
    rw [seated, List.map_append]
    refine List.nodup_append.2 ⟨nodup, List.nodup_singleton _, fun t ht t' ht' => ?_⟩
    obtain ⟨x, hx, rfl⟩ := List.mem_map.1 ht
    rw [List.mem_singleton.1 ht']
    exact free x hx
  rw [State.quelled, State.abortOthers_eq_each, State.seat_others free, State.answerEach_replies]
  · refine congrArg (s.clp.replies ++ ·) (Clp.statusReplies_of_waiting tags (fun x hx => ?_) .aborted)
    obtain ⟨held, waits⟩ := List.mem_filter.1 hx
    exact ⟨seated ▸ List.mem_append_left _ held, by simpa using waits⟩
  · rw [List.map_map]
    exact nodup.sublist (List.filter_sublist.map _)

theorem State.quelled_onlyWaits (free : ∀ x ∈ s.clp.slots, x.tag ≠ tag) : (s.quelled tag).onlyWaits tag := by
  intro x hx waits
  rw [State.quelled_slots free] at hx
  rcases List.mem_append.1 hx with queued | own
  · obtain ⟨y, -, rfl⟩ := List.mem_map.1 queued
    by_cases was : y.phase = .waiting
    · rw [if_pos was] at waits
      cases waits
    · rw [if_neg was] at waits
      exact absurd waits was
  · rw [List.mem_singleton.1 own]

/-- No block owes a reply to a request that has just been accepted. -/
theorem State.owed_ne_of_accepts (h : s.accepts tag) (owed : s.owedLaw) : ∀ t ∈ s.owedTags, t ≠ tag := by
  obtain ⟨⟨-, -, free, -⟩, -⟩ := h
  obtain ⟨-, perm, -⟩ := owed
  intro t ht
  obtain ⟨x, hx, rfl⟩ := List.mem_map.1 (perm.mem_iff.2 ht)
  exact free x (List.mem_of_mem_filter hx)

end

end Sys2Proof.Machine
end

section
/-! RESTART at the Announcement Players (R157): every run ends, and in an emergency the takeover of the evacuation players runs again;
what this leaves of each player's record and of the activation list. -/

namespace Sys2Proof.Machine

/-- The runs of the players are no part of the zone modes. -/
theorem State.anyEmergency_of_besidesRuns {s t : State} (h : t.besidesRuns = s.besidesRuns) : t.anyEmergency = s.anyEmergency :=
  show t.besidesRuns.anyEmergency = s.besidesRuns.anyEmergency by rw [h]

theorem State.lvq_of_besidesRuns {s t : State} (h : t.besidesRuns = s.besidesRuns) : t.lvq = s.lvq := congrArg (·.lvq) h

/-! ### One player at RESTART (R157) -/

/-- A player whose run is ended by RESTART, its missing-evacuation flag cleared. -/
def State.restPlayer (s : State) (p : Nat) : State := (s.halted p .restarted).setMissing p false

/-- The players at rest, before the takeover runs again. -/
def State.restPlayers (s : State) : State := s.each (List.range 4) State.restPlayer

theorem State.restartPlayers_eq (s : State) :
    s.restartPlayers = if s.restPlayers.anyEmergency then s.restPlayers.each [0, 1] State.evacuateAgain else s.restPlayers := rfl

/-- The record of a player at rest. -/
def Player.rested (x : Player) : Player := { (if x.running then x.finish .restarted else x) with missing := false }

theorem Player.rested_running (x : Player) : x.rested.running = false := by
  unfold Player.rested
  split
  · rfl
  · next idle => exact Bool.eq_false_iff.2 idle

theorem Player.rested_fields (x : Player) (rest : x.running = false → x.buffer = []) :
    x.rested.running = false ∧ x.rested.missing = false ∧ x.rested.buffer = [] ∧
      (x.running = true → x.rested.ended = some .restarted) := by
  refine ⟨x.rested_running, rfl, ?_⟩
  unfold Player.rested
  split
  · exact ⟨rfl, fun _ => rfl⟩
  · next idle => exact ⟨rest (Bool.eq_false_iff.2 idle), fun runs => absurd runs idle⟩

section
variable (s : State) (p : Nat)

theorem State.restPlayer_sansRun : (s.restPlayer p).sansRun p = s.sansRun p := by
  rw [State.restPlayer, State.setMissing]
  exact (State.workPlayer_sansRun _ p _).trans (s.halted_sansRun p _)

theorem State.restPlayer_grows : State.Grows State.sansPlayers s (s.restPlayer p) := by
  rw [State.restPlayer, State.setMissing]
  exact (s.halted_grows p _).trans (State.workPlayer_grows _ p _)

theorem State.restPlayer_growsRuns : State.Grows State.besidesRuns s (s.restPlayer p) :=
  ⟨State.besidesRuns_of_sansRun (s.restPlayer_sansRun p), (s.restPlayer_grows p).marks⟩

theorem State.evacuateAgain_sansRun : (s.evacuateAgain p).sansRun p = s.sansRun p := by
  rw [State.evacuateAgain]
  exact (State.evacuate_sansRun _ p).trans (s.workPlayer_sansRun p _)

theorem State.evacuateAgain_grows : State.Grows State.sansPlayers s (s.evacuateAgain p) := by
  rw [State.evacuateAgain]
  exact (s.workPlayer_grows p _).trans (State.evacuate_grows _ p)

theorem State.evacuateAgain_growsRuns : State.Grows State.besidesRuns s (s.evacuateAgain p) :=
  ⟨State.besidesRuns_of_sansRun (s.evacuateAgain_sansRun p), (s.evacuateAgain_grows p).marks⟩

theorem State.restPlayers_growsRuns : State.Grows State.besidesRuns s s.restPlayers :=
  .each fun v p _ => v.restPlayer_growsRuns p

theorem State.restartPlayers_growsRuns : State.Grows State.besidesRuns s s.restartPlayers := by
  rw [State.restartPlayers_eq]
  split
  · exact s.restPlayers_growsRuns.trans (.each fun v p _ => v.evacuateAgain_growsRuns p)
  · exact s.restPlayers_growsRuns

end

section
variable {s : State} {p : Nat}

theorem State.restPlayer_player (hp : p < s.apl.players.length) : (s.restPlayer p).player p = (s.player p).rested := by
  rw [State.restPlayer, State.setMissing, State.workPlayer_player (by rwa [State.halted_length])]
  unfold State.halted Player.rested
  split
  · rw [State.endPlayer_player hp]
  · rfl

/-- A player that RESTART brings to rest leaves the active sources and the activation list, or was at rest. -/
theorem State.restPlayer_sources (hp : p < s.apl.players.length) : State.SourceStep (.player p) s (s.restPlayer p) := by
  have flag : (s.restPlayer p).sources = (s.halted p .restarted).sources := by
    rw [State.restPlayer, State.setMissing]
    exact State.workPlayer_sources (by rwa [State.halted_length]) rfl
  unfold State.SourceStep
  rw [flag]
  unfold State.halted
  split
  · exact .inr (State.endPlayer_sources hp _)
  · exact .inl rfl

/-! ### All players at rest -/

theorem State.restPlayers_player (length : s.apl.players.length = 4) (hp : p < 4) : s.restPlayers.player p = (s.player p).rested := by
  obtain ⟨v, grows, player, -, last⟩ := State.each_at (s := s) (State.player · p) List.nodup_range (List.mem_range.2 hp)
    (fun v j _ => v.restPlayer_growsRuns j) fun v _ j _ hj => State.player_of_sansRun (v.restPlayer_sansRun j) hj.symm
  have here := State.restPlayer_player (s := v) (p := p) (by rw [State.players_length_of_besidesRuns grows.same, length]; exact hp)
  exact last.trans (here.trans (congrArg Player.rested player))

theorem State.restPlayers_lists {l : List Source} (length : s.apl.players.length = 4) (h : s.Lists l) : s.restPlayers.Lists l := by
  refine (State.each_keeps (P := fun t => t.apl.players.length = 4 ∧ t.Lists l) (fun t p mem h => ?_) ⟨length, h⟩).2
  obtain ⟨length, lists⟩ := h
  exact ⟨(State.players_length_of_sansRun (t.restPlayer_sansRun p)).trans length,
    (State.restPlayer_sources (length ▸ List.mem_range.1 mem)).lists lists⟩

/-! ### The takeover runs again (R157) -/

/-- Of a player at rest the takeover at RESTART is that of the beginning of an emergency, its end reason RESTARTED. -/
theorem State.evacuateAgain_eq (rest : (s.player p).running = false) (hp : p < s.apl.players.length) :
    s.evacuateAgain p = (s.workPlayer p fun x => { x with ended := some .restarted }).takeOver p := by
  have still : ((s.workPlayer p fun x => { x with ended := some .restarted }).player p).running = false := by
    rw [State.workPlayer_player hp]
    exact rest
  rw [State.takeOver_eq, State.halted, if_neg (by rw [still]; exact Bool.false_ne_true)]
  rfl

theorem State.restPlayers_anyEmergency (s : State) : s.restPlayers.anyEmergency = s.anyEmergency :=
  State.anyEmergency_of_besidesRuns s.restPlayers_growsRuns.same

/-- Without an emergency every player is left at rest. -/
theorem State.restartPlayers_of_calm (calm : s.anyEmergency = false) : s.restartPlayers = s.restPlayers := by
  rw [State.restartPlayers_eq, State.restPlayers_anyEmergency, if_neg (by rw [calm]; exact Bool.false_ne_true)]

/-- Players 2 and 3 are left at rest, and so are all four without an emergency. -/
theorem State.restartPlayers_rested (length : s.apl.players.length = 4) (hp : p < 4) (out : s.anyEmergency = false ∨ 2 ≤ p) :
    s.restartPlayers.player p = (s.player p).rested := by
  rw [← State.restPlayers_player length hp, State.restartPlayers_eq]
  split
  · next emergency =>
    rw [State.restPlayers_anyEmergency] at emergency
    have above : 2 ≤ p := out.resolve_left (by rw [emergency]; decide)
    refine State.each_frame (State.player · p) fun v j hj => State.player_of_sansRun (v.evacuateAgain_sansRun j) ?_
    rintro rfl
    fin_cases hj <;> omega
  · rfl

/-- The players after RESTART in an emergency as one evacuation player sees them: a takeover that finds it at rest, ended by the
RESTART. -/
theorem State.restartPlayers_at (emergency : s.anyEmergency = true) (hp : p ∈ [0, 1]) (length : s.apl.players.length = 4) :
    ∃ v : State, v.besidesRuns = s.besidesRuns ∧ (v.player p).running = false ∧ (v.player p).ended = some .restarted ∧
      s.restartPlayers.run p = (v.takeOver p).run p := by
  have h4 : p < 4 := by fin_cases hp <;> decide
  obtain ⟨v, grows, run, -, last⟩ := State.each_at (s := s.restPlayers) (State.run · p) (by decide) hp
    (fun v j _ => v.evacuateAgain_growsRuns j) fun v _ j _ hj => State.run_of_sansRun (v.evacuateAgain_sansRun j) hj.symm
  have besides := grows.same.trans s.restPlayers_growsRuns.same
  have player : v.player p = (s.player p).rested := (State.run_eq run).1.trans (State.restPlayers_player length h4)
  have four : p < v.apl.players.length := by rw [State.players_length_of_besidesRuns besides, length]; exact h4
  have rest : (v.player p).running = false := by
    rw [player]
    exact (s.player p).rested_running
  have written := State.workPlayer_sansRun v p fun x => { x with ended := some .restarted }
  have record := State.workPlayer_player four fun x => { x with ended := some .restarted }
  refine ⟨_, (State.besidesRuns_of_sansRun written).trans besides, by rw [record]; exact rest, by rw [record], ?_⟩
  rw [State.restartPlayers_eq, State.restPlayers_anyEmergency, if_pos emergency, ← State.evacuateAgain_eq rest four]
  exact last

/-- An evacuation player without a head item at a RESTART in an emergency. -/
theorem State.restartPlayers_of_none (emergency : s.anyEmergency = true) (hp : p ∈ [0, 1]) (length : s.apl.players.length = 4)
    (head : s.zmg.plan.head p = none) :
    (s.restartPlayers.player p).running = false ∧ (s.restartPlayers.player p).missing = true ∧
      (s.restartPlayers.player p).ended = some .restarted := by
  have h4 : p < 4 := by fin_cases hp <;> decide
  obtain ⟨v, besides, rest, ended, last⟩ := State.restartPlayers_at emergency hp length
  obtain ⟨zmg, -⟩ := State.kept_of_besidesRuns besides
  obtain ⟨running, missing, reason, -⟩ := State.takeOver_of_none (s := v) (p := p)
    (by rw [State.players_length_of_besidesRuns besides, length]; exact h4) h4 (by rw [zmg, head])
  rw [(State.run_eq last).1]
  exact ⟨running, missing, reason.trans (by rw [rest, ended]; rfl)⟩

/-- An evacuation player whose head item plays audio at a RESTART in an emergency. -/
theorem State.restartPlayers_of_some (emergency : s.anyEmergency = true) (hp : p ∈ [0, 1]) (length : s.apl.players.length = 4)
    {i : Nat} {x : Player} (head : s.zmg.plan.head p = some i) (plays : s.evacuating p i = some x) :
    s.restartPlayers.player p = x ∧ .player p ∈ s.restartPlayers.bim.activation := by
  have h4 : p < 4 := by fin_cases hp <;> decide
  obtain ⟨v, besides, -, -, last⟩ := State.restartPlayers_at emergency hp length
  obtain ⟨zmg, -⟩ := State.kept_of_besidesRuns besides
  obtain ⟨record, listed, -⟩ := State.run_eq last
  rw [record, listed]
  exact State.takeOver_of_some (by rw [State.players_length_of_besidesRuns besides, length]; exact h4) (by rw [zmg, head])
    (by rw [State.evacuating_of_besidesRuns besides, plays])

/-- Without an emergency and without a live session no source is left in the activation list. -/
theorem State.restartPlayers_activation {l : List Source} (calm : s.anyEmergency = false) (length : s.apl.players.length = 4)
    (lists : s.Lists l) (known : ∀ src ∈ l, src ∈ [Source.live, .player 0, .player 1, .player 2, .player 3])
    (silent : s.lvq.state = .none) : s.restartPlayers.bim.activation = [] := by
  have lvq : s.restPlayers.lvq = s.lvq := State.lvq_of_besidesRuns s.restPlayers_growsRuns.same
  rw [State.restartPlayers_of_calm calm, State.restPlayers_lists length lists]
  refine List.filter_eq_nil_iff.2 fun src mem => ?_
  have rests : ∀ p < 4, (s.restPlayers.player p).running = false := fun p hp => by
    rw [State.restPlayers_player length hp]
    exact (s.player p).rested_running
  have listed := known src mem
  simp only [List.mem_cons, List.not_mem_nil, or_false] at listed
  obtain rfl | rfl | rfl | rfl | rfl := listed
  · simp [State.runs, lvq, silent]
  all_goals simp [State.runs, rests]

end

end Sys2Proof.Machine
end

section
/-! RESTART at the Break-in Mixer and the Live Voice Queue (R145): the session ends, the players come to rest, no zone has a winner;
what this leaves of the other blocks. -/

namespace Sys2Proof.Machine

/-! ### The live session (R145 step 1) -/

/-- The part with its live session, where there is one, ended by RESTART. -/
def State.silenced (s : State) : State := if s.lvq.state = .none then s else s.endLive .restarted

/-- The part with the mixer, the live session and the players as RESTART leaves them. -/
def State.quieted (s : State) : State := s.silenced.restartPlayers.clearWinners

theorem State.restartBlocks_eq (s : State) :
    s.restartBlocks = s.quieted.restartChannels.restartGates.restartClips.rereadMismatch := rfl

/-- The state without the break-in sources, the mixer, the operation on the flash port and the notice marks. -/
def State.besidesBreakIn (s : State) : State :=
  { s with
    lvq := Lvq.initial, bim := ⟨[], [], []⟩, apl := { s.apl with players := [] }, csc := { s.csc with port := none }
    clp := { s.clp with marks := Marks.clear } }

section
variable {s : State} {tag : Octet}

theorem State.endLive_besidesBreakIn (only : s.onlyWaits tag) (other : ∀ t ∈ s.lvq.waitingEnd, t ≠ tag) (r : LiveEndReason) :
    (s.endLive r).besidesBreakIn = s.besidesBreakIn ∧ (s.endLive r).apl = s.apl := by
  have unanswered : ∀ st fields, s.answerOpt s.lvq.waitingEnd st fields = s := fun st fields => by
    cases owed : s.lvq.waitingEnd with
    | none => rfl
    | some t => exact State.answer_of_onlyWaits only (other t owed) st fields
  have left : ∀ v : State, (v.deactivate .live).besidesBreakIn = v.besidesBreakIn := fun v =>
    State.markIf_frame State.besidesBreakIn rfl
  have marked : ∀ v : State, v.markLive.besidesBreakIn = v.besidesBreakIn := fun _ => rfl
  have players : ∀ v : State, (v.deactivate .live).markLive.apl = v.apl := fun v => v.deactivate_apl .live
  unfold State.endLive
  dsimp only
  rw [unanswered, players, marked, left]
  exact ⟨rfl, rfl⟩

theorem State.silenced_besides (only : s.onlyWaits tag) (other : ∀ t ∈ s.lvq.waitingEnd, t ≠ tag) :
    s.silenced.besidesBreakIn = s.besidesBreakIn ∧ s.silenced.apl = s.apl := by
  unfold State.silenced
  split
  · exact ⟨rfl, rfl⟩
  · exact State.endLive_besidesBreakIn only other _

/-- No session is left, and one that there was has ended with RESTARTED. -/
theorem State.silenced_lvq (s : State) :
    s.silenced.lvq.state = .none ∧ (s.lvq.state ≠ .none → s.silenced.lvq.ended = some .restarted) := by
  unfold State.silenced
  split
  · next none => exact ⟨none, fun live => absurd none live⟩
  · rw [State.endLive_lvq]
    exact ⟨rfl, fun _ => rfl⟩

theorem State.silenced_lists {l : List Source} (lists : s.Lists l) : s.silenced.Lists l := by
  unfold State.silenced
  split
  · exact lists
  · exact State.SourceStep.lists (.inr (s.endLive_sources .restarted)) lists

end

/-! ### The winners (R145 step 3) -/

section
variable (s : State)

theorem State.clearWinners_frame {α : Type} (p : State → α) (bim : ∀ t g, p (State.modBim t g) = p t)
    (mark : ∀ t src, p (State.markSource t src) = p t) : p s.clearWinners = p s := by
  unfold State.clearWinners
  exact (foldl_frame p _ _ fun t src => State.markIf_frame p (mark t src)).trans (bim s _)

theorem State.clearWinners_bim : s.clearWinners.bim = { s.bim with winners := s.bim.winners.map fun _ => none } := by
  unfold State.clearWinners
  exact foldl_frame State.bim _ _ fun t src => State.markIf_frame State.bim (by cases src <;> rfl)

theorem State.clearWinners_activation : s.clearWinners.bim.activation = s.bim.activation := by rw [State.clearWinners_bim]

theorem State.clearWinners_winners : ∀ w ∈ s.clearWinners.bim.winners, w = none := by
  rw [State.clearWinners_bim]
  rintro w mem
  obtain ⟨-, -, rfl⟩ := List.mem_map.1 mem
  rfl

theorem State.clearWinners_besides : s.clearWinners.besidesBreakIn = s.besidesBreakIn :=
  s.clearWinners_frame State.besidesBreakIn (fun _ _ => rfl) fun _ src => by cases src <;> rfl

theorem State.clearWinners_lvq : s.clearWinners.lvq = s.lvq :=
  s.clearWinners_frame State.lvq (fun _ _ => rfl) fun _ src => by cases src <;> rfl

theorem State.clearWinners_apl : s.clearWinners.apl = s.apl :=
  s.clearWinners_frame State.apl (fun _ _ => rfl) fun _ src => by cases src <;> rfl

end

/-! ### The break-in sources after RESTART -/

theorem State.besidesBreakIn_of_besidesRuns {s t : State} (h : t.besidesRuns = s.besidesRuns) :
    t.besidesBreakIn = s.besidesBreakIn := by
  have masked : ∀ v : State, v.besidesBreakIn =
      { v.besidesRuns with lvq := Lvq.initial, apl := { v.besidesRuns.apl with players := [] } } := fun _ => rfl
  rw [masked t, masked s, h]

/-- The break-in sources are no part of the zone modes, the plan and the directory. -/
theorem State.views_of_besidesBreakIn {s t : State} (h : t.besidesBreakIn = s.besidesBreakIn) :
    t.anyEmergency = s.anyEmergency ∧ t.zmg = s.zmg ∧ t.csc.directory = s.csc.directory :=
  ⟨show t.besidesBreakIn.anyEmergency = s.besidesBreakIn.anyEmergency by rw [h], congrArg (·.zmg) h, congrArg (·.csc.directory) h⟩

theorem State.player_congr {s t : State} (h : t.apl = s.apl) : t.player = s.player := by
  unfold State.player
  rw [h]

section
variable {s : State} {tag : Octet} (only : s.onlyWaits tag) (other : ∀ t ∈ s.lvq.waitingEnd, t ≠ tag)
include only other

/-- The other blocks are as before. -/
theorem State.quieted_besides : s.quieted.besidesBreakIn = s.besidesBreakIn :=
  (State.clearWinners_besides _).trans
    ((State.besidesBreakIn_of_besidesRuns s.silenced.restartPlayers_growsRuns.same).trans
      (State.silenced_besides only other).1)

theorem State.silenced_views :
    s.silenced.player = s.player ∧ s.silenced.evacuating = s.evacuating ∧ s.silenced.anyEmergency = s.anyEmergency ∧
      s.silenced.zmg = s.zmg := by
  obtain ⟨besides, apl⟩ := State.silenced_besides only other
  obtain ⟨emergency, zmg, directory⟩ := State.views_of_besidesBreakIn besides
  exact ⟨State.player_congr apl, State.evacuating_congr (congrArg Apl.pool apl) directory, emergency, zmg⟩

end

/-- No session, no winner. -/
theorem State.quieted_silent (s : State) :
    s.quieted.lvq.state = .none ∧ (s.lvq.state ≠ .none → s.quieted.lvq.ended = some .restarted) ∧
      ∀ w ∈ s.quieted.bim.winners, w = none := by
  obtain ⟨state, ended⟩ := s.silenced_lvq
  have lvq := State.lvq_of_besidesRuns s.silenced.restartPlayers_growsRuns.same
  rw [State.quieted, State.clearWinners_lvq, lvq]
  exact ⟨state, ended, State.clearWinners_winners _⟩

section
variable {s : State} {tag : Octet} (only : s.onlyWaits tag) (other : ∀ t ∈ s.lvq.waitingEnd, t ≠ tag) (law : s.breakInLaw)
include only other law

/-- The players and the activation list are those that the Announcement Players leave. -/
theorem State.quieted_players :
    s.quieted.player = s.silenced.restartPlayers.player ∧
      s.quieted.bim.activation = s.silenced.restartPlayers.bim.activation ∧ s.silenced.apl.players.length = 4 := by
  obtain ⟨-, apl⟩ := State.silenced_besides only other
  rw [State.quieted, State.player_congr (State.clearWinners_apl _), State.clearWinners_activation, apl]
  exact ⟨rfl, rfl, law.2.1⟩

/-- The players that RESTART leaves at rest (R157). -/
theorem State.quieted_rested (rest : s.restLaw) {p : Nat} (hp : p < 4) (out : s.anyEmergency = false ∨ 2 ≤ p) :
    (s.quieted.player p).running = false ∧ (s.quieted.player p).missing = false ∧ (s.quieted.player p).buffer = [] ∧
      ((s.player p).running = true → (s.quieted.player p).ended = some .restarted) := by
  obtain ⟨players, -, length⟩ := State.quieted_players only other law
  obtain ⟨player, -, emergency, -⟩ := State.silenced_views only other
  rw [players, State.restartPlayers_rested length hp (out.imp_left emergency.trans), player]
  refine (s.player p).rested_fields fun idle => ?_
  have four : p < s.apl.players.length := by rw [law.2.1]; exact hp
  have listed : s.player p ∈ s.apl.players := by
    rw [State.player, List.getD_eq_getElem _ _ four]
    exact List.getElem_mem four
  exact (rest _ listed (by simpa [Player.running] using idle)).2.2

/-- Without an emergency no source is active. -/
theorem State.quieted_activation (calm : s.anyEmergency = false) : s.quieted.bim.activation = [] := by
  obtain ⟨-, activation, length⟩ := State.quieted_players only other law
  obtain ⟨-, -, emergency, -⟩ := State.silenced_views only other
  have known : ∀ src ∈ s.bim.activation, src ∈ [Source.live, .player 0, .player 1, .player 2, .player 3] := law.2.2.2.1
  rw [activation]
  exact State.restartPlayers_activation (emergency.trans calm) length (State.silenced_lists law.lists) known s.silenced_lvq.1

/-- The takeover runs again (R157). -/
theorem State.quieted_evacuates (emergency : s.anyEmergency = true) {p : Nat} (hp : p ∈ [0, 1]) :
    (s.zmg.plan.head p = none →
      (s.quieted.player p).running = false ∧ (s.quieted.player p).missing = true ∧
        (s.quieted.player p).ended = some .restarted) ∧
      ∀ i ∈ s.zmg.plan.head p, ∀ x ∈ s.evacuating p i,
        s.quieted.player p = x ∧ .player p ∈ s.quieted.bim.activation := by
  obtain ⟨players, activation, length⟩ := State.quieted_players only other law
  obtain ⟨-, evacuating, any, zmg⟩ := State.silenced_views only other
  rw [players, activation, ← zmg, ← evacuating]
  exact ⟨State.restartPlayers_of_none (any.trans emergency) hp length, fun i head x plays =>
    State.restartPlayers_of_some (any.trans emergency) hp length head plays⟩

end

end Sys2Proof.Machine
end

section
/-! RESTART at the Rescue Relay and the Uplink Voter (R102, R112): what each channel's turn leaves of its record and its mark. -/

namespace Sys2Proof.Machine

/-! ### A channel at rest -/

/-- A channel's record at rest (R81, R103): its configuration, the carrier level and the two counts are kept. -/
def Channel.atRest (ch : Channel) : Channel :=
  { ch with
    state := .idle, dlPending := false, marker := false, turnT := none, hangT := none, talkT := none, keyed := false
    source := none, lockout := 0#24, cands := [], blockFlag := false, deferred := false }

/-- A channel's record after RESTART: at rest, or taken up again by the carrier. -/
def Channel.restarted (ch : Channel) : Channel :=
  { ch.atRest with state := if ch.cfg.enabled && ch.carrier then .down else .idle }

/-- What RESTART changes of a channel's state, flags and lockout set (R102). -/
def Channel.stirred (ch : Channel) : Prop :=
  ch.restarted.state ≠ ch.state ∨ ch.state = .up ∨ ch.dlPending = true ∨ ch.lockout ≠ 0#24

/-- However a channel leaves its state, at rest only its configuration, its carrier level and its counts are left of it. -/
theorem ChanWork.rest_ch (w : ChanWork) : w.rest.ch = w.ch.atRest := by
  unfold ChanWork.rest ChanWork.disable
  dsimp only
  split
  · rw [ChanWork.leaveUp_eq]
    unfold Channel.leavesUp
    rw [Channel.changeSource_eq]
    rfl
  · rw [ChanWork.setSource_ch]
    rfl

theorem ChanWork.rest_mark (w : ChanWork) (moved : w.ch.state ≠ .idle ∨ w.ch.dlPending = true ∨ w.ch.lockout ≠ 0#24) :
    w.rest.mark = true := by
  unfold ChanWork.rest ChanWork.disable
  simp only [Bool.or_eq_true, bne_iff_ne, ne_eq]
  tauto

/-- The carrier takes an enabled channel up again (R102 step 2). -/
def ChanWork.retake (w : ChanWork) : ChanWork := if w.ch.cfg.enabled && w.ch.carrier then ⟨{ w.ch with state := .down }, true⟩ else w

theorem ChanWork.retake_atRest (ch : Channel) (mark : Bool) :
    (ChanWork.retake ⟨ch.atRest, mark⟩).ch = ch.restarted ∧
      (ch.restarted.state ≠ .idle → (ChanWork.retake ⟨ch.atRest, mark⟩).mark = true) := by
  unfold ChanWork.retake Channel.restarted
  have kept : (ch.atRest.cfg.enabled && ch.atRest.carrier) = (ch.cfg.enabled && ch.carrier) := rfl
  dsimp only
  rw [kept]
  split
  · exact ⟨rfl, fun _ => rfl⟩
  · exact ⟨rfl, fun moved => absurd rfl moved⟩

/-! ### The channels of the part -/

/-- One channel's turn at RESTART. -/
def State.restartChannel (s : State) (c : Nat) : State := (s.workChannel c ChanWork.rest).workChannel c ChanWork.retake

theorem State.restartChannels_eq (s : State) : s.restartChannels = s.each (List.range 8) State.restartChannel := rfl

theorem State.restartChannel_grows (s : State) (c : Nat) : State.Grows State.sansRelay s (s.restartChannel c) :=
  (s.workChannel_grows c _).trans (State.workChannel_grows _ c _)

theorem State.restartChannels_grows (s : State) : State.Grows State.sansRelay s s.restartChannels :=
  .each fun v c _ => v.restartChannel_grows c

theorem State.restartChannel_channel_ne (s : State) {c d : Nat} (h : d ≠ c) : (s.restartChannel c).channel d = s.channel d :=
  (State.workChannel_channel_ne _ _ h).trans (s.workChannel_channel_ne _ h)

section
variable {s : State} {c : Nat}

/-- A channel's turn leaves its record restarted, with the mark set where its state, its flags or its lockout set change. -/
theorem State.restartChannel_channel (hc : c < s.channels.length) (h8 : c < 8) :
    (s.restartChannel c).channel c = (s.channel c).restarted ∧
      ((s.channel c).stirred → (s.restartChannel c).clp.marks.channel.getLsbD c = true) := by
  have rested : (s.workChannel c ChanWork.rest).channel c = (s.channel c).atRest :=
    (s.workChannel_channel _ hc).trans (ChanWork.rest_ch _)
  have length : c < (s.workChannel c ChanWork.rest).channels.length := by rwa [State.workChannel_channels, List.length_set]
  obtain ⟨record, retaken⟩ := ChanWork.retake_atRest (s.channel c) false
  rw [State.restartChannel]
  refine ⟨?_, fun stirred => ?_⟩
  · rw [State.workChannel_channel _ _ length, rested, record]
  · by_cases moved : (s.channel c).state ≠ .idle ∨ (s.channel c).dlPending = true ∨ (s.channel c).lockout ≠ 0#24
    · exact (State.workChannel_grows _ c _).marks.channel c (s.workChannel_marked _ h8 (ChanWork.rest_mark _ moved))
    · simp only [not_or, ne_eq, not_not, Bool.not_eq_true] at moved
      obtain ⟨idle, clear, free⟩ := moved
      refine State.workChannel_marked _ _ h8 ?_
      rw [rested]
      refine retaken ?_
      rcases stirred with changed | up | pending | locked
      · rwa [idle] at changed
      · rw [idle] at up; cases up
      · rw [clear] at pending; cases pending
      · exact absurd free locked

/-- RESTART on every channel (R102). -/
theorem State.restartChannels_channel (length : s.channels.length = 8) (hc : c < 8) :
    s.restartChannels.channel c = (s.channel c).restarted ∧
      ((s.channel c).stirred → s.restartChannels.clp.marks.channel.getLsbD c = true) := by
  obtain ⟨v, grows, same, later, last⟩ := State.each_at (s := s) (fun t => t.channel c) List.nodup_range (List.mem_range.2 hc)
    (fun v j _ => v.restartChannel_grows j) fun v _ j _ hne => v.restartChannel_channel_ne hne.symm
  obtain ⟨record, marked⟩ := State.restartChannel_channel (s := v) (c := c)
    (by rw [State.channels_length_of_sansRelay grows.same, length]; exact hc) hc
  rw [same] at record marked
  rw [State.restartChannels_eq]
  exact ⟨last.trans record, fun stirred => later.marks.channel c (marked stirred)⟩

end

end Sys2Proof.Machine
end

section
/-! RESTART at the Mobile Band Supervisor (R128): the gates evaluated afresh from none OPEN, and how many places they take. -/

namespace Sys2Proof.Machine

/-! ### The places that asking gates take (R119) -/

/-- A CLOSED gate that asks to open takes a free place; with none free it takes another gate's or waits. -/
theorem BandWork.ask_opened (w : BandWork) {i : Nat} (due : Nat) (closed : (w.band.gate i).state = .closed)
    (hi : i < w.band.gates.length) (within : w.band.count .opened ≤ w.band.cfg.capacity) :
    (w.ask i due).band.count .opened = min w.band.cfg.capacity (w.band.count .opened + 1) := by
  have opens := w.set_count .opened (some due) .opened hi
  have waits := w.set_count .pending (some due) .opened hi
  rw [closed] at opens waits
  simp only [if_true, reduceCtorEq, if_false] at opens waits
  unfold BandWork.ask
  split
  · omega
  · split
    · omega
    · next q quietest =>
      dsimp only
      split
      · have lost := Band.quietest_opened quietest
        have ne : i ≠ q := by rintro rfl; rw [closed] at lost; cases lost
        have leaves := w.set_count .pending (w.band.gate q).hold .opened (Band.lt_of_mem_inState (pickBest_mem _ quietest))
        have takes := (w.keepHold q .pending).set_count .opened (some due) .opened (i := i)
          (by rw [BandWork.keepHold, (w.set_like q _ _).length]; exact hi)
        rw [lost] at leaves
        rw [BandWork.keepHold, w.set_gate_ne _ _ ne, closed] at takes
        simp only [if_true, reduceCtorEq, if_false] at leaves takes
        show ((w.set q .pending (w.band.gate q).hold).set i .opened (some due)).band.count .opened = _
        omega
      · omega

/-- Whether a gate asks to open as its turn comes (R119). -/
def Band.asks (b : Band) (i : Nat) : Bool := (b.gate i).state == .closed && b.heard i

theorem BandWork.turn_opened (w : BandWork) (boundary : Nat) {i : Nat} (hi : i < w.band.gates.length)
    (within : w.band.count .opened ≤ w.band.cfg.capacity) :
    (w.turn boundary i).band.count .opened =
      min w.band.cfg.capacity (w.band.count .opened + if w.band.asks i then 1 else 0) := by
  unfold BandWork.turn BandWork.askIfHeard Band.asks
  by_cases closed : (w.band.gate i).state = .closed
  · by_cases heard : w.band.heard i = true
    · simp only [closed, heard, beq_self_eq_true, Bool.and_self, if_true]
      exact w.ask_opened _ closed hi within
    · simp [closed, heard, within]
  · simp [closed, within]

theorem Band.asks_congr {b b' : Band} (like : b.Like b') {i : Nat} (same : (b'.gate i).view = (b.gate i).view) :
    b'.asks i = b.asks i := by
  have closed : ((b'.gate i).state == .closed) = ((b.gate i).state == .closed) := by
    rw [Bool.eq_iff_iff, beq_iff_eq, beq_iff_eq, ← Gate.view_closed, same, Gate.view_closed]
  rw [Band.asks, Band.asks, closed, Band.heard, Band.heard, like.inUse, like.latest]

/-- The gates of a list have their turn one after another: as many are OPEN as there are places for those that were and those that
ask. -/
theorem BandWork.turns_opened (boundary : Nat) {l : List Nat} (nodup : l.Nodup) (w : BandWork)
    (hl : ∀ i ∈ l, i < w.band.gates.length) (within : w.band.count .opened ≤ w.band.cfg.capacity) :
    (l.foldl (BandWork.turn boundary) w).band.count .opened =
      min w.band.cfg.capacity (w.band.count .opened + (l.filter w.band.asks).length) := by
  induction l generalizing w with
  | nil => simp [within]
  | cons i l ih =>
    obtain ⟨fresh, nodup⟩ := List.nodup_cons.1 nodup
    obtain ⟨like, -, others⟩ := w.turn_like boundary (hl i List.mem_cons_self)
    have opened := w.turn_opened boundary (hl i List.mem_cons_self) within
    have later : l.filter (w.turn boundary i).band.asks = l.filter w.band.asks :=
      List.filter_congr fun j hj => Band.asks_congr like (others j (by rintro rfl; exact fresh hj))
    have rest := ih nodup (w.turn boundary i) (fun j hj => by rw [like.length]; exact hl j (List.mem_cons_of_mem i hj))
      (by rw [like.cfg, opened]; exact Nat.min_le_left _ _)
    rw [List.foldl_cons, rest, later, like.cfg, opened, List.filter_cons]
    by_cases asks : w.band.asks i = true
    · rw [if_pos asks, if_pos asks, List.length_cons]
      omega
    · rw [if_neg asks, if_neg asks]
      omega

theorem BandWork.openings_opened (w : BandWork) (boundary : Nat) (none : w.band.count .opened = 0) :
    (w.openings boundary).band.count .opened =
      min w.band.cfg.capacity ((List.range w.band.gates.length).filter w.band.asks).length := by
  have turns := BandWork.turns_opened boundary List.nodup_range w (fun i hi => List.mem_range.1 hi) (by omega)
  rw [none, Nat.zero_add] at turns
  exact turns

/-! ### The gates of one band (R128) -/

/-- Whether the gate of an index follows its activity: it is neither FORCED nor DISABLED. -/
def Band.follows (b : Band) (i : Nat) : Bool :=
  (b.gate i).state == .opened || (b.gate i).state == .pending || (b.gate i).state == .closed

theorem Band.follows_iff (b : Band) (i : Nat) :
    b.follows i = true ↔ (b.gate i).state ≠ .forced ∧ (b.gate i).state ≠ .disabled := by
  unfold Band.follows
  cases (b.gate i).state <;> simp

/-- Step 1 of R128: the gates that follow their activity CLOSED, their holds stopped. -/
def BandWork.closeAll (w : BandWork) : BandWork :=
  ((List.range w.band.gates.length).filter w.band.follows).foldl (fun w i => w.set i .closed none) w

/-- The gates of a band evaluated afresh (R128), after boundary `now`. -/
def BandWork.restart (now : Nat) (w : BandWork) : BandWork := if w.band.feed then w.closeAll.openings (now + 1) else w

theorem BandWork.closeAll_like (w : BandWork) :
    w.band.Like w.closeAll.band ∧
      ∀ i < w.band.gates.length,
        w.closeAll.band.gate i = if w.band.follows i then ⟨.closed, (w.band.gate i).latest, none⟩ else w.band.gate i := by
  have steps := fun i => foldl_at (P := fun x : BandWork => w.band.Like x.band) (fun x => x.band.gate i)
    (f := fun w i => w.set i .closed none) (s := w) (i := i)
    ((List.nodup_range (n := w.band.gates.length)).filter w.band.follows) (.refl _)
    (fun x j _ like => like.trans (x.set_like j _ _)) fun x _ j _ hne => x.set_gate_ne _ _ hne.symm
  refine ⟨(steps 0).1, fun i hi => ?_⟩
  by_cases follows : w.band.follows i = true
  · obtain ⟨x, like, same, last⟩ := (steps i).2.2 (List.mem_filter.2 ⟨List.mem_range.2 hi, follows⟩)
    rw [if_pos follows]
    refine last.trans ?_
    rw [x.set_gate _ _ (by rw [like.length]; exact hi), same]
  · rw [if_neg follows]
    exact (steps i).2.1 fun mem => follows (List.mem_filter.1 mem).2

theorem BandWork.closeAll_opened (w : BandWork) : w.closeAll.band.count .opened = 0 := by
  obtain ⟨like, gates⟩ := w.closeAll_like
  refine Band.count_eq_zero_of_inState (List.filter_eq_nil_iff.2 fun i hi => ?_)
  rw [like.length] at hi
  rw [gates i (List.mem_range.1 hi)]
  split
  · simp
  · next out =>
    intro opened
    exact out (by simp [Band.follows, beq_iff_eq.1 opened])

/-- What R128 says of a band after boundary `now`: its record, its threshold and its feed are kept; with its feed UP the gates that
follow their activity ask to open or are CLOSED, and the others are kept. -/
structure Band.Restarts (b b' : Band) (now : Nat) : Prop where
  kept : b'.cfg = b.cfg ∧ b'.inUse = b.inUse ∧ b'.feed = b.feed
  down : b.feed = false → b' = b
  opened : b.feed = true →
    b'.count .opened =
      min b.cfg.capacity ((List.range b.gates.length).filter fun i => b.follows i && b.heard i).length
  stays : b.feed = true → ∀ i < b.gates.length, b.follows i = false → b'.gate i = b.gate i
  asks : b.feed = true → ∀ i < b.gates.length, b.follows i = true → b.heard i = true →
    ((b'.gate i).state = .opened ∨ (b'.gate i).state = .pending) ∧ (b'.gate i).latest = (b.gate i).latest ∧
      (b'.gate i).hold = some (now + 4 * b.cfg.hold + 1)
  closes : b.feed = true → ∀ i < b.gates.length, b.follows i = true → b.heard i = false →
    b'.gate i = ⟨.closed, (b.gate i).latest, none⟩

/-- A gate that looks like one neither OPEN nor PENDING is that gate. -/
theorem Gate.eq_of_view {g h : Gate} (same : h.view = g.view) (out : g.state ≠ .opened ∧ g.state ≠ .pending) : h = g := by
  obtain ⟨latest, hold, state⟩ := Gate.view_eq_iff.1 same
  rw [if_neg (not_or.2 out)] at state
  obtain ⟨_, _, _⟩ := h
  obtain ⟨_, _, _⟩ := g
  simp_all

theorem BandWork.restart_restarts (w : BandWork) (now : Nat) : w.band.Restarts (w.restart now).band now := by
  cases feed : w.band.feed with
  | false =>
    have same : w.restart now = w := by rw [BandWork.restart, feed]; rfl
    have off : ¬ w.band.feed = true := by rw [feed]; exact Bool.false_ne_true
    rw [same]
    exact ⟨⟨rfl, rfl, rfl⟩, fun _ => rfl, (absurd · off), (absurd · off), (absurd · off), (absurd · off)⟩
  | true =>
    have opens : w.restart now = w.closeAll.openings (now + 1) := by rw [BandWork.restart, feed]; rfl
    obtain ⟨closed, gates⟩ := w.closeAll_like
    obtain ⟨like, views⟩ := w.closeAll.openings_like (now + 1)
    have kept := closed.trans like
    have due : now + 1 + 4 * w.band.cfg.hold = now + 4 * w.band.cfg.hold + 1 := by omega
    have view : ∀ i < w.band.gates.length, ((w.restart now).band.gate i).view =
        ((if w.band.follows i then ⟨.closed, (w.band.gate i).latest, none⟩ else w.band.gate i : Gate).asking w.band.inUse
          (now + 4 * w.band.cfg.hold + 1)).view := fun i hi => by
      rw [opens, views i (by rw [closed.length]; exact hi), gates i hi, closed.inUse, closed.cfg, due]
    refine ⟨by rw [opens]; exact ⟨kept.cfg, kept.inUse, kept.feed⟩, fun down => absurd (feed.symm.trans down) (by decide),
      fun _ => ?_, fun _ i hi out => ?_, fun _ i hi follows heard => ?_, fun _ i hi follows silent => ?_⟩
    · have asking : ∀ i ∈ List.range w.band.gates.length, w.closeAll.band.asks i = (w.band.follows i && w.band.heard i) :=
        fun i hi => by
          rw [Band.asks, Band.heard, closed.inUse, closed.latest, gates i (List.mem_range.1 hi)]
          split
          · next follows => rw [follows]; rfl
          · next out =>
            have not_closed : ((w.band.gate i).state == .closed) = false :=
              Bool.eq_false_iff.2 fun h => out (by rw [Band.follows, h, Bool.or_true])
            rw [not_closed, Bool.eq_false_iff.2 out, Bool.false_and, Bool.false_and]
      rw [opens, BandWork.openings_opened _ _ w.closeAll_opened, closed.cfg, closed.length, List.filter_congr asking]
    · have same := view i hi
      have state : (w.band.gate i).state ≠ .closed ∧ (w.band.gate i).state ≠ .opened ∧ (w.band.gate i).state ≠ .pending := by
        unfold Band.follows at out
        cases h : (w.band.gate i).state <;> simp [h] at out ⊢
      rw [if_neg (by rw [out]; exact Bool.false_ne_true), Gate.asking, if_neg fun h => state.1 h.1] at same
      exact Gate.eq_of_view same state.2
    · have same := view i hi
      rw [if_pos follows, Gate.asking, if_pos ⟨rfl, by simpa [Band.heard] using heard⟩] at same
      obtain ⟨latest, hold, state⟩ := Gate.view_eq_iff.1 same
      exact ⟨by simpa using state, latest, hold⟩
    · have same := view i hi
      rw [if_pos follows, Gate.asking, if_neg fun h => absurd h.2 (by simpa [Band.heard] using silent)] at same
      exact Gate.eq_of_view same ⟨by simp, by simp⟩

/-! ### The bands of the part -/

/-- A hold that starts at the moment of the RESTART is due as one that starts at the next frame close (log entry 13). -/
theorem dueInFrame_eq (now ms : Nat) : dueInFrame now ms = dueAtClose (now + 1) ms := by
  unfold dueInFrame dueAtClose
  omega

theorem State.restartGates_eq (s : State) :
    s.restartGates = s.each (List.range 4) fun v b => v.workBand b (BandWork.restart v.now) := by
  have works : ∀ v : State, BandWork.restart v.now = fun w : BandWork =>
      if w.band.feed then
        (List.range w.band.gates.length).foldl
          (fun x i => if (x.band.gate i).state == .closed then x.askIfHeard i (dueInFrame v.now x.band.cfg.hold) else x) w.closeAll
      else w := fun v => funext fun w => by
    simp only [BandWork.restart, BandWork.openings, w.closeAll_like.1.length, dueInFrame_eq]
  simp only [works]
  rfl

theorem State.restartGates_grows (s : State) : State.Grows State.sansGates s s.restartGates :=
  .each fun v b _ => v.workBand_grows b _

/-- RESTART on every band (R128). -/
theorem State.restartGates_band {s : State} {b : Nat} (length : s.bands.length = 4) (hb : b < 4) :
    (s.band b).Restarts (s.restartGates.band b) s.now := by
  obtain ⟨v, grows, same, -, last⟩ := State.each_at (s := s) (fun t => t.band b)
    (f := fun v b => v.workBand b (BandWork.restart v.now)) List.nodup_range (List.mem_range.2 hb)
    (fun v j _ => v.workBand_grows j _) fun v _ j _ hne => v.workBand_band_ne _ hne.symm
  have now : v.now = s.now := congrArg (·.now) grows.same
  have here := v.workBand_band (b := b) (BandWork.restart v.now)
    (by rw [State.bands_length_of_sansGates grows.same, length]; exact hb)
  have restarts := BandWork.restart_restarts ⟨v.band b, false⟩ v.now
  rw [← here, now] at restarts
  rw [State.restartGates_eq, last, ← same, now]
  exact restarts

end Sys2Proof.Machine
end

section
/-! RESTART at the Clip Store Controller and the Loop Controller (R27, R169 to R171): the upload given up with its replies already
sent, the replies of the running jobs forgotten, and the MISMATCH units read again. -/

namespace Sys2Proof.Machine

/-! ### The upload given up (R169) -/

/-- The state without the players' records, of the clip store the directory, the upload and the running work, and without the notice
marks. -/
def State.besidesClips (s : State) : State :=
  { s with
    apl := { s.apl with players := [] }
    csc := { Csc.initial with level := s.csc.level, copyValid := s.csc.copyValid, absent := s.csc.absent }
    clp := { s.clp with marks := Marks.clear } }

theorem State.besidesClips_of_besidesDirectory {s t : State} (h : t.besidesDirectory = s.besidesDirectory) :
    t.besidesClips = s.besidesClips := by
  have masked : ∀ v : State, v.besidesClips =
      { v.besidesDirectory with
        csc := { Csc.initial with
          level := v.besidesDirectory.csc.level, copyValid := v.besidesDirectory.csc.copyValid
          absent := v.besidesDirectory.csc.absent }
        clp := { v.besidesDirectory.clp with marks := Marks.clear } } := fun _ => rfl
  rw [masked t, masked s, h]

theorem Player.Told.buffer {x y : Player} {slot : Nat} (h : x.Told y slot) : y.buffer = x.buffer := by
  obtain rfl | ⟨-, rfl⟩ := h <;> rfl

section
variable {s : State} {tag : Octet} (only : s.onlyWaits tag) (other : ∀ up ∈ s.csc.upload, tag ∉ up.owes)
include only other

/-- An upload whose requests have been answered already ends without a reply. -/
theorem State.abortUpload_unanswered {up : Upload} (held : s.csc.upload = some up) :
    s.abortUpload = (s.damaged up.slot).endUpload := by
  have slots : (s.damaged up.slot).clp.slots = s.clp.slots :=
    (State.kept_of_besidesDirectory (s.damaged_besidesDirectory up.slot)).2.2.1
  have only' : (s.damaged up.slot).onlyWaits tag := by unfold State.onlyWaits; rwa [slots]
  have foreign := other up held
  rw [State.abortUpload_eq held]
  congr 1
  generalize up.owes = owes at foreign
  induction owes with
  | nil => rfl
  | cons t l ih =>
    rw [List.mem_cons, not_or] at foreign
    rw [List.foldl_cons, State.answer_of_onlyWaits only' (Ne.symm foreign.1), ih foreign.2]

theorem State.restartClips_besides : s.restartClips.besidesClips = s.besidesClips := by
  have forgotten : ∀ v : State, ∀ f : Csc → Csc, (f v.csc).level = v.csc.level → (f v.csc).copyValid = v.csc.copyValid →
      (f v.csc).absent = v.csc.absent → (v.modCsc f).besidesClips = v.besidesClips := fun v f hl hc ha => by
    simp only [State.besidesClips, State.modCsc, hl, hc, ha]
  have aborted : s.abortUpload.besidesClips = s.besidesClips := by
    cases held : s.csc.upload with
    | none => rw [State.abortUpload_of_none held]
    | some up =>
      have ended : ∀ v : State, v.endUpload.besidesClips = v.besidesClips := fun _ => rfl
      rw [State.abortUpload_unanswered only other held, ended]
      exact State.besidesClips_of_besidesDirectory (s.damaged_besidesDirectory up.slot)
  unfold State.restartClips
  exact (forgotten _ _ rfl rfl rfl).trans aborted

/-- What RESTART leaves of the clip store: no upload, its slot DAMAGED and every other entry kept, and no reply waiting. -/
theorem State.restartClips_store :
    s.restartClips.csc.upload = none ∧ (∀ up ∈ s.csc.upload, (s.restartClips.dirEntry up.slot).state = .damaged) ∧
      (∀ e ∈ s.restartClips.csc.erase, e.tag = none) ∧ (∀ x ∈ s.restartClips.csc.settings, x.tag = none) ∧
      ∀ k, (∀ up ∈ s.csc.upload, k ≠ up.slot) → s.restartClips.dirEntry k = s.dirEntry k := by
  have entries : s.restartClips.dirEntry = s.abortUpload.dirEntry := rfl
  have erase : s.restartClips.csc.erase = s.abortUpload.csc.erase.map fun e => { e with tag := none } := rfl
  have settings : s.restartClips.csc.settings = s.abortUpload.csc.settings.map fun x => { x with tag := none } := rfl
  rw [entries, erase, settings]
  refine ⟨s.abortUpload_upload, fun up held => (State.abortUpload_players held).2.2.2, fun e mem => ?_, fun x mem => ?_,
    fun k outside => ?_⟩
  · obtain ⟨_, -, rfl⟩ := Option.mem_map.1 mem
    rfl
  · obtain ⟨_, -, rfl⟩ := Option.mem_map.1 mem
    rfl
  · cases held : s.csc.upload with
    | none => rw [State.abortUpload_of_none held]
    | some up =>
      rw [State.abortUpload_unanswered only other held]
      exact s.damaged_dirEntry_ne (outside up held)

end

section
variable (s : State)

theorem State.restartClips_bim : s.restartClips.bim = s.bim := (s.abortUpload_keeps 0).2.2.2.2.1

/-- A player's record after RESTART at the clip store: its run goes on, and it is kept where its current clip slot is not the
upload's. -/
theorem State.restartClips_player (p : Nat) :
    (s.restartClips.player p).running = (s.player p).running ∧ (s.restartClips.player p).missing = (s.player p).missing ∧
      (s.restartClips.player p).ended = (s.player p).ended ∧ (s.restartClips.player p).buffer = (s.player p).buffer ∧
      ((∀ up ∈ s.csc.upload, (s.player p).clipSlot ≠ some up.slot) → s.restartClips.player p = s.player p) := by
  have players : s.restartClips.player = s.abortUpload.player := rfl
  obtain ⟨same, running, missing, ended, -⟩ := s.abortUpload_keeps p
  rw [players]
  refine ⟨running, missing, ended, ?_, same⟩
  cases held : s.csc.upload with
  | none => rw [State.abortUpload_of_none held]
  | some up => exact ((State.abortUpload_players held).1 p).buffer

theorem State.restartClips_marks : s.clp.marks.Grow s.restartClips.clp.marks := s.abortUpload_grows.marks

/-! ### The MISMATCH units (R27) -/

theorem State.rereadMismatch_grows : State.Grows State.sansUnits s s.rereadMismatch := .each fun v i _ => v.workRu_grows i _

theorem State.rereadMismatch_ru {i : Nat} (hi : i < s.n) :
    s.rereadMismatch.ru i = if (s.ru i).state = .mismatch then (s.ru i).join else s.ru i := by
  have apart : ∀ v : State, v.sansUnits = s.sansUnits → ∀ j ∈ (List.range s.n).filter fun i => (s.ru i).state == .mismatch, i ≠ j →
      (v.workRu j RuEntry.join).ru i = v.ru i := fun v same j mem ne => by
    have hj : j < v.n := by
      rw [State.n_of_sansUnits same]
      exact List.mem_range.1 (List.mem_filter.1 mem).1
    exact (v.workRu_puts hj _).ru_ne ne
  have mem_iff : (i ∈ (List.range s.n).filter fun i => (s.ru i).state == .mismatch) ↔ (s.ru i).state = .mismatch := by
    simp [hi]
  split
  · next mismatch =>
    obtain ⟨v, grows, same, -, last⟩ := State.each_at (s := s) (fun t => t.ru i) (List.nodup_range.filter _) (mem_iff.2 mismatch)
      (fun v j _ => v.workRu_grows j RuEntry.join) fun v hv j mem hne => apart v hv j mem hne.symm
    have hv : i < v.n := by rwa [State.n_of_sansUnits grows.same]
    exact last.trans (((v.workRu_puts hv _).ru hv).trans (congrArg RuEntry.join same))
  · next other =>
    refine (State.each_keeps (P := fun v => v.sansUnits = s.sansUnits ∧ v.ru i = s.ru i) (fun v j mem kept => ?_) ⟨rfl, rfl⟩).2
    obtain ⟨same, entry⟩ := kept
    exact ⟨(v.workRu_grows j _).same.trans same,
      (apart v same j mem (by rintro rfl; exact other (mem_iff.1 mem))).trans entry⟩

end

end Sys2Proof.Machine
end

section
/-! RESTART over all blocks (R181): what the turn of each block leaves through the turns of the blocks after it, and the reply. -/

namespace Sys2Proof.Machine

/-! ### What the turns keep (R181) -/

/-- What RESTART keeps: the zones, the alignment, the configuration of the power engine, the reach depths, the item pool, the
protection level, the flash and the ports. -/
def State.configuration (s : State) :=
  (s.zmg, s.sau, (s.pbe.cfgs, s.pbe.bank0, s.pbe.bank1), (s.lpc.rA, s.lpc.rB), s.apl.pool, s.csc.level, s.flash, s.out, s.pins)

/-- The same, with the control link but for its marks, whose requests have all been answered before the blocks have their turns. -/
def State.lasting (s : State) := (s.configuration, ({ s.clp with marks := Marks.clear } : Clp))

/-- Two links alike besides their marks. -/
theorem State.clp_of_lasting {s t : State} (h : t.lasting = s.lasting) : t.clp = { s.clp with marks := t.clp.marks } :=
  congrArg (fun x => { x.2 with marks := t.clp.marks }) h

section
variable {s t : State}

theorem State.lasting_of_besidesBreakIn (h : t.besidesBreakIn = s.besidesBreakIn) : t.lasting = s.lasting :=
  show t.besidesBreakIn.lasting = s.besidesBreakIn.lasting by rw [h]

theorem State.lasting_of_sansRelay (h : t.sansRelay = s.sansRelay) : t.lasting = s.lasting :=
  show t.sansRelay.lasting = s.sansRelay.lasting by rw [h]

theorem State.lasting_of_sansGates (h : t.sansGates = s.sansGates) : t.lasting = s.lasting :=
  show t.sansGates.lasting = s.sansGates.lasting by rw [h]

theorem State.lasting_of_besidesClips (h : t.besidesClips = s.besidesClips) : t.lasting = s.lasting :=
  show t.besidesClips.lasting = s.besidesClips.lasting by rw [h]

theorem State.lasting_of_sansUnits (h : t.sansUnits = s.sansUnits) : t.lasting = s.lasting :=
  show t.sansUnits.lasting = s.sansUnits.lasting by rw [h]

/-! What one block's turn leaves of the blocks that have had theirs and of those that wait for theirs. -/

theorem State.blocks_of_besidesBreakIn (h : t.besidesBreakIn = s.besidesBreakIn) :
    t.channels = s.channels ∧ t.bands = s.bands ∧ t.now = s.now ∧ t.lpc = s.lpc ∧ t.csc.directory = s.csc.directory ∧
      t.csc.upload = s.csc.upload ∧ t.clp.slots = s.clp.slots :=
  ⟨congrArg (·.channels) h, congrArg (·.bands) h, congrArg (·.now) h, congrArg (·.lpc) h, congrArg (·.csc.directory) h,
    congrArg (·.csc.upload) h, congrArg (·.clp.slots) h⟩

theorem State.blocks_of_sansRelay (h : t.sansRelay = s.sansRelay) :
    t.bands = s.bands ∧ t.now = s.now ∧ t.lpc = s.lpc ∧ t.csc = s.csc ∧ t.lvq = s.lvq ∧ t.bim = s.bim ∧ t.apl = s.apl ∧
      t.clp.slots = s.clp.slots :=
  ⟨congrArg (·.bands) h, congrArg (·.now) h, congrArg (·.lpc) h, congrArg (·.csc) h, congrArg (·.lvq) h, congrArg (·.bim) h,
    congrArg (·.apl) h, congrArg (·.clp.slots) h⟩

theorem State.blocks_of_sansGates (h : t.sansGates = s.sansGates) :
    t.channels = s.channels ∧ t.lpc = s.lpc ∧ t.csc = s.csc ∧ t.lvq = s.lvq ∧ t.bim = s.bim ∧ t.apl = s.apl ∧
      t.clp.slots = s.clp.slots :=
  ⟨congrArg (·.channels) h, congrArg (·.lpc) h, congrArg (·.csc) h, congrArg (·.lvq) h, congrArg (·.bim) h,
    congrArg (·.apl) h, congrArg (·.clp.slots) h⟩

theorem State.blocks_of_besidesClips (h : t.besidesClips = s.besidesClips) :
    t.channels = s.channels ∧ t.bands = s.bands ∧ t.lpc = s.lpc ∧ t.lvq = s.lvq :=
  ⟨congrArg (·.channels) h, congrArg (·.bands) h, congrArg (·.lpc) h, congrArg (·.lvq) h⟩

theorem State.blocks_of_sansUnits (h : t.sansUnits = s.sansUnits) :
    t.channels = s.channels ∧ t.bands = s.bands ∧ t.csc = s.csc ∧ t.lvq = s.lvq ∧ t.bim = s.bim ∧ t.apl = s.apl :=
  ⟨congrArg (·.channels) h, congrArg (·.bands) h, congrArg (·.csc) h, congrArg (·.lvq) h, congrArg (·.bim) h, congrArg (·.apl) h⟩

end

/-! ### The turns up to the supervisor's (R102, R128, R145, R157) -/

/-- The part as the mixer, the live session, the players, the relay and the supervisor leave it. -/
def State.regated (s : State) : State := s.quieted.restartChannels.restartGates

/-- The same and the rest: the clip store and the loop. -/
def State.reread (s : State) : State := s.restartClips.rereadMismatch

theorem State.restartBlocks_turns (s : State) : s.restartBlocks = s.regated.reread := s.restartBlocks_eq

section
variable (s : State)

/-- The relay and the supervisor leave the break-in sources. -/
theorem State.regated_sources : s.regated.lvq = s.quieted.lvq ∧ s.regated.bim = s.quieted.bim ∧ s.regated.player = s.quieted.player := by
  obtain ⟨-, -, -, -, lvq, bim, apl, -⟩ := State.blocks_of_sansRelay s.quieted.restartChannels_grows.same
  obtain ⟨-, -, -, lvq', bim', apl', -⟩ := State.blocks_of_sansGates s.quieted.restartChannels.restartGates_grows.same
  exact ⟨lvq'.trans lvq, bim'.trans bim, State.player_congr (apl'.trans apl)⟩

end

section
variable {s : State} {tag : Octet} (only : s.onlyWaits tag) (live : ∀ t ∈ s.lvq.waitingEnd, t ≠ tag)
include only live

/-- What the turns up to the supervisor's keep, and what they leave to the clip store and the loop. -/
theorem State.regated_kept :
    s.regated.lasting = s.lasting ∧ s.regated.lpc = s.lpc ∧ s.regated.dirEntry = s.dirEntry ∧
      s.regated.csc.upload = s.csc.upload ∧ s.regated.onlyWaits tag := by
  rw [State.regated]
  have quiet := State.quieted_besides only live
  have relay := s.quieted.restartChannels_grows.same
  have gates := s.quieted.restartChannels.restartGates_grows.same
  obtain ⟨-, -, -, lpc, directory, upload, slots⟩ := State.blocks_of_besidesBreakIn quiet
  obtain ⟨-, -, lpc', csc', -, -, -, slots'⟩ := State.blocks_of_sansRelay relay
  obtain ⟨-, lpc'', csc'', -, -, -, slots''⟩ := State.blocks_of_sansGates gates
  have csc := csc''.trans csc'
  have same := slots''.trans (slots'.trans slots)
  refine ⟨?_, lpc''.trans (lpc'.trans lpc), State.dirEntry_congr ((congrArg Csc.directory csc).trans directory),
    (congrArg Csc.upload csc).trans upload, ?_⟩
  · exact (State.lasting_of_sansGates gates).trans
      ((State.lasting_of_sansRelay relay).trans (State.lasting_of_besidesBreakIn quiet))
  · unfold State.onlyWaits
    rwa [same]

/-- A channel's turn as it stands after the supervisor's (R102). -/
theorem State.regated_channel (length : s.channels.length = 8) {c : Nat} (hc : c < 8) :
    s.regated.channel c = (s.channel c).restarted ∧
      ((s.channel c).stirred → s.regated.clp.marks.channel.getLsbD c = true) := by
  rw [State.regated]
  obtain ⟨before, -⟩ := State.blocks_of_besidesBreakIn (State.quieted_besides only live)
  have gates := s.quieted.restartChannels.restartGates_grows
  obtain ⟨after, -⟩ := State.blocks_of_sansGates gates.same
  obtain ⟨record, marked⟩ := State.restartChannels_channel (s := s.quieted) (by rw [before, length]) hc
  rw [State.channel_congr before] at record marked
  exact ⟨(State.channel_congr after c).trans record, fun stirred => gates.marks.channel c (marked stirred)⟩

/-- A band's turn (R128). -/
theorem State.regated_band (length : s.bands.length = 4) {b : Nat} (hb : b < 4) : (s.band b).Restarts (s.regated.band b) s.now := by
  obtain ⟨-, bands, now, -⟩ := State.blocks_of_besidesBreakIn (State.quieted_besides only live)
  obtain ⟨bands', now', -⟩ := State.blocks_of_sansRelay s.quieted.restartChannels_grows.same
  have restarts := State.restartGates_band (s := s.quieted.restartChannels) (by rw [bands', bands, length]) hb
  rwa [State.band_congr (bands'.trans bands), now', now] at restarts

end

/-! ### The turns of the clip store and the loop (R27, R169) -/

section
variable {s : State} {tag : Octet} (only : s.onlyWaits tag) (clips : ∀ up ∈ s.csc.upload, tag ∉ up.owes)
include only clips

/-- What the clip store and the loop leave of the blocks before them. -/
theorem State.reread_kept :
    s.reread.lasting = s.lasting ∧ s.reread.channel = s.channel ∧ s.reread.band = s.band ∧ s.reread.lvq = s.lvq ∧
      s.reread.bim = s.bim ∧ s.reread.n = s.n ∧ s.clp.marks.Grow s.reread.clp.marks := by
  have store := State.restartClips_besides only clips
  have units := s.restartClips.rereadMismatch_grows
  obtain ⟨channels, bands, lpc, lvq⟩ := State.blocks_of_besidesClips store
  obtain ⟨channels', bands', -, lvq', bim', -⟩ := State.blocks_of_sansUnits units.same
  exact ⟨(State.lasting_of_sansUnits units.same).trans (State.lasting_of_besidesClips store),
    funext (State.channel_congr (channels'.trans channels)), funext (State.band_congr (bands'.trans bands)), lvq'.trans lvq,
    bim'.trans s.restartClips_bim, (State.n_of_sansUnits units.same).trans (congrArg (·.rus.length) lpc),
    s.restartClips_marks.trans units.marks⟩

theorem State.reread_store :
    s.reread.csc.upload = none ∧ (∀ up ∈ s.csc.upload, (s.reread.dirEntry up.slot).state = .damaged) ∧
      (∀ e ∈ s.reread.csc.erase, e.tag = none) ∧ (∀ x ∈ s.reread.csc.settings, x.tag = none) ∧
      ∀ k, (∀ up ∈ s.csc.upload, k ≠ up.slot) → s.reread.dirEntry k = s.dirEntry k := by
  obtain ⟨-, -, csc, -⟩ := State.blocks_of_sansUnits s.restartClips.rereadMismatch_grows.same
  have entries : s.reread.dirEntry = s.restartClips.dirEntry := State.dirEntry_congr (congrArg Csc.directory csc)
  have same : s.reread.csc = s.restartClips.csc := csc
  rw [entries, same]
  exact State.restartClips_store only clips

/-- A MISMATCH unit is read again, and every other unit is kept (R27). -/
theorem State.reread_ru {i : Nat} (hi : i < s.n) :
    s.reread.ru i = if (s.ru i).state = .mismatch then (s.ru i).join else s.ru i := by
  obtain ⟨-, -, lpc, -⟩ := State.blocks_of_besidesClips (State.restartClips_besides only clips)
  have n : s.restartClips.n = s.n := congrArg (·.rus.length) lpc
  rw [State.reread, State.rereadMismatch_ru _ (by rwa [n]), State.ru_congr lpc]

end

theorem State.reread_player (s : State) (p : Nat) :
    (s.reread.player p).running = (s.player p).running ∧ (s.reread.player p).missing = (s.player p).missing ∧
      (s.reread.player p).ended = (s.player p).ended ∧ (s.reread.player p).buffer = (s.player p).buffer ∧
      ((∀ up ∈ s.csc.upload, (s.player p).clipSlot ≠ some up.slot) → s.reread.player p = s.player p) := by
  obtain ⟨-, -, -, -, -, apl⟩ := State.blocks_of_sansUnits s.restartClips.rereadMismatch_grows.same
  have players : s.reread.player = s.restartClips.player := State.player_congr apl
  rw [players]
  exact s.restartClips_player p

/-! ### The blocks after RESTART (R181 step 2) -/

/-- What the turns of all blocks at a RESTART leave of them. -/
structure State.Restarted (s t : State) : Prop where
  configuration : t.configuration = s.configuration
  n : t.n = s.n
  session : t.lvq.state = .none ∧ (s.lvq.state ≠ .none → t.lvq.ended = some .restarted)
  winners : ∀ w ∈ t.bim.winners, w = none
  rested : ∀ p < 4, s.anyEmergency = false ∨ 2 ≤ p →
    (t.player p).running = false ∧ (t.player p).missing = false ∧ (t.player p).buffer = [] ∧
      ((s.player p).running = true → (t.player p).ended = some .restarted)
  calmed : s.anyEmergency = false → t.bim.activation = []
  headless : s.anyEmergency = true → ∀ p ∈ [0, 1], s.zmg.plan.head p = none →
    (t.player p).running = false ∧ (t.player p).missing = true ∧ (t.player p).ended = some .restarted
  evacuates : s.anyEmergency = true → ∀ p ∈ [0, 1], ∀ i ∈ s.zmg.plan.head p, ∀ x ∈ s.evacuating p i,
    (∀ up ∈ s.csc.upload, x.clipSlot ≠ some up.slot) → t.player p = x ∧ .player p ∈ t.bim.activation
  channels : s.channels.length = 8 → ∀ c < 8,
    t.channel c = (s.channel c).restarted ∧ ((s.channel c).stirred → t.clp.marks.channel.getLsbD c = true)
  bands : s.bands.length = 4 → ∀ b < 4, (s.band b).Restarts (t.band b) s.now
  upload : t.csc.upload = none
  damaged : ∀ up ∈ s.csc.upload, (t.dirEntry up.slot).state = .damaged
  erase : ∀ e ∈ t.csc.erase, e.tag = none
  settings : ∀ x ∈ t.csc.settings, x.tag = none
  directory : ∀ k, (∀ up ∈ s.csc.upload, k ≠ up.slot) → t.dirEntry k = s.dirEntry k
  units : ∀ i < s.n, t.ru i = if (s.ru i).state = .mismatch then (s.ru i).join else s.ru i

section
variable {s : State} {tag : Octet} (only : s.onlyWaits tag) (live : ∀ t ∈ s.lvq.waitingEnd, t ≠ tag)
    (clips : ∀ up ∈ s.csc.upload, tag ∉ up.owes)
include only live clips

/-- Each block's turn as it stands after the turns of the others. -/
theorem State.restartBlocks_restarted (law : s.breakInLaw) (rest : s.restLaw) :
    s.Restarted s.restartBlocks ∧ s.restartBlocks.clp = { s.clp with marks := s.restartBlocks.clp.marks } := by
  obtain ⟨lvq, bim, players⟩ := s.regated_sources
  obtain ⟨lasting, lpc, entries, upload, only'⟩ := State.regated_kept only live
  have n : s.regated.n = s.n := congrArg (·.rus.length) lpc
  have unit := State.ru_congr lpc
  have channel := fun length c hc => State.regated_channel only live length (c := c) hc
  have band := fun length b hb => State.regated_band only live length (b := b) hb
  obtain ⟨silent, ended, winners⟩ := s.quieted_silent
  have rested := fun p => State.quieted_rested (p := p) only live law rest
  have calmed := State.quieted_activation only live law
  have evacuates := fun emergency p => State.quieted_evacuates (p := p) only live law emergency
  rw [State.restartBlocks_turns]
  rw [← lvq] at silent ended
  rw [← bim] at winners
  simp only [← bim, ← players] at rested calmed evacuates
  generalize s.regated = r at *
  have clips' : ∀ up ∈ r.csc.upload, tag ∉ up.owes := by rwa [upload]
  obtain ⟨lasting', channels, bands, lvq', bim', n', grow⟩ := State.reread_kept only' clips'
  obtain ⟨gone, damaged, erase, settings, directory⟩ := State.reread_store only' clips'
  have units := fun i hi => State.reread_ru only' clips' (i := i) hi
  have player := r.reread_player
  rw [upload] at damaged directory player
  generalize r.reread = t at *
  have same := lasting'.trans lasting
  refine ⟨?_, State.clp_of_lasting same⟩
  exact
    { configuration := congrArg Prod.fst same
      n := n'.trans n
      session := by rw [lvq']; exact ⟨silent, ended⟩
      winners := by rw [bim']; exact winners
      rested := fun p hp out => by
        obtain ⟨running, missing, reason, buffer, -⟩ := player p
        rw [running, missing, reason, buffer]
        exact rested p hp out
      calmed := by rw [bim']; exact calmed
      headless := fun emergency p hp head => by
        obtain ⟨running, missing, reason, -⟩ := player p
        rw [running, missing, reason]
        exact (evacuates emergency p hp).1 head
      evacuates := fun emergency p hp i head x plays elsewhere => by
        obtain ⟨-, -, -, -, kept⟩ := player p
        obtain ⟨record, listed⟩ := (evacuates emergency p hp).2 i head x plays
        rw [bim', kept (by rw [record]; exact elsewhere)]
        exact ⟨record, listed⟩
      channels := fun length c hc => by
        obtain ⟨record, marked⟩ := channel length c hc
        rw [channels]
        exact ⟨record, fun stirred => grow.channel c (marked stirred)⟩
      bands := by rw [bands]; exact band
      upload := gone
      damaged := damaged
      erase := erase
      settings := settings
      directory := by rw [← entries]; exact directory
      units := fun i hi => by rw [units i (by rwa [n]), unit i] }

end

/-- The blocks do not read the control link at a RESTART. -/
theorem State.Restarted.of_port {s t : State} {port : Clp} (h : ({ s with clp := port } : State).Restarted t) : s.Restarted t :=
  { h with }

end Sys2Proof.Machine
end

section
/-! RESTART (R181): the request, its reply, and the obligation. -/

namespace Sys2Proof.Machine

/-! ### The request and its reply (R175, R181) -/

section
variable {s e : State} {tag : Octet}

/-- The control link that has taken a RESTART and has aborted the other requests. -/
def Clp.quelled (c : Clp) (tag : Octet) : Clp :=
  { c with
    receiver := .hunting, slots := queuedSlots c.slots ++ [⟨0x03#8, tag, .waiting⟩]
    replies := c.replies ++ abortedReplies c.slots }

/-- Nothing but the control link has changed by then. -/
theorem State.quelled_eq (free : ∀ x ∈ s.clp.slots, x.tag ≠ tag) (nodup : (s.clp.slots.map (·.tag)).Nodup) :
    s.quelled tag = { s with clp := s.clp.quelled tag } := by
  have unmasked : ∀ v : State, v =
      { v.besidesReplies with clp := { v.besidesReplies.clp with slots := v.clp.slots, replies := v.clp.replies } } := fun _ => rfl
  rw [unmasked (s.quelled tag), State.quelled_besides, State.quelled_slots free, State.quelled_replies free nodup]
  rfl

/-- The handling of a RESTART whose blocks leave `e`: the count, the mark and the reply. -/
def State.restartAnswered (e : State) (tag : Octet) : State :=
  ((e.modClp fun c => { c with restarts := satInc c.restarts }).markPart).answer tag .ok []

theorem exec_restart (h : s.accepts tag) :
    exec (.restart tag []) s = .next ((s.quelled tag).restartBlocks.restartAnswered tag).settle := by
  obtain ⟨slot, running⟩ := h
  have passes : s.hunt.refusal true 0x03#8 tag = none := State.refusal_none (s := s.hunt) slot (.inl running)
  have taken : s.hunt.request 0x03#8 tag true (handleRestart tag) = handleRestart tag (s.seat 0x03#8 tag) := by
    rw [State.request, passes]
    rfl
  show s.whenOn (fun s => s.hunt.request 0x03#8 tag true (handleRestart tag)) = _
  rw [State.whenOn, if_pos slot.1, taken]
  rfl

/-- The control link once the RESTART has been answered: the OK reply stands behind those of the requests aborted. -/
def Clp.restarted (c : Clp) (tag : Octet) (marks : Marks) : Clp :=
  { c with
    receiver := .hunting, slots := queuedSlots c.slots ++ [⟨0x03#8, tag, .queued⟩]
    replies := c.replies ++ abortedReplies c.slots ++ [⟨0x83#8, tag, [0x00#8], false⟩]
    restarts := min (c.restarts + 1) 65535, marks := { marks with part := true } }

theorem State.restartAnswered_eq (free : ∀ x ∈ s.clp.slots, x.tag ≠ tag)
    (port : e.clp = { (s.clp.quelled tag) with marks := e.clp.marks }) :
    e.restartAnswered tag = { e with clp := s.clp.restarted tag e.clp.marks } := by
  have others : ∀ x ∈ queuedSlots s.clp.slots, x.tag ≠ tag := fun x hx => by
    obtain ⟨y, hy, rfl⟩ := List.mem_map.1 hx
    have other := free y hy
    split <;> exact other
  have answered := Clp.answer_withSlot (kind := 0x03#8)
    (c := { s.clp with
      slots := queuedSlots s.clp.slots, replies := s.clp.replies ++ abortedReplies s.clp.slots
      restarts := min (s.clp.restarts + 1) 65535, marks := { e.clp.marks with part := true } }) .ok [] others
  have taken : (e.restartAnswered tag).clp =
      ({ e.clp with restarts := satInc e.clp.restarts, marks := { e.clp.marks with part := true } } : Clp).answer tag .ok [] := rfl
  have rest : e.restartAnswered tag = { e with clp := (e.restartAnswered tag).clp } := rfl
  rw [rest, taken]
  refine congrArg (fun c => { e with clp := c }) (Eq.trans ?_ answered)
  rw [port]
  rfl

/-- A RESTART that is accepted leaves the blocks by their turns and the control link with the replies of R181. -/
theorem exec_restart_blocks (h : s.accepts tag) (owed : s.owedLaw) (law : s.breakInLaw) (rest : s.restLaw) :
    ∃ e : State, s.Restarted e ∧
      exec (.restart tag []) s = .next ({ e with clp := s.clp.restarted tag e.clp.marks } : State).settle := by
  have free : ∀ x ∈ s.clp.slots, x.tag ≠ tag := h.1.2.2.1
  have live : ∀ t ∈ s.lvq.waitingEnd, t ≠ tag := fun t ht => State.owed_ne_of_accepts h owed t (by
    rw [State.owedTags]
    simp [Option.mem_def.1 ht])
  have clips := State.not_owed_of_accepts h owed
  have only := State.quelled_onlyWaits free
  have quelled := State.quelled_eq free owed.1
  rw [quelled] at only
  obtain ⟨blocks, port⟩ := State.restartBlocks_restarted only live clips law rest
  refine ⟨_, blocks.of_port, ?_⟩
  rw [exec_restart h, quelled, State.restartAnswered_eq free port]

end

/-! ### The statements of the blocks -/

theorem Band.asks_iff (b : Band) (i : Nat) :
    (b.follows i && b.heard i) =
      decide ((b.gate i).state ≠ .forced ∧ (b.gate i).state ≠ .disabled ∧ b.inUse ≤ (b.gate i).latest) := by
  rw [Bool.eq_iff_iff, Bool.and_eq_true, Band.follows_iff, decide_eq_true_iff, and_assoc, Band.heard, decide_eq_true_iff]

/-- Each gate of a band with its feed UP by its state before and its latest A (R128). -/
theorem Band.Restarts.gate {b b' : Band} {now i : Nat} (h : b.Restarts b' now) (up : b.feed = true) (hi : i < b.gates.length) :
    if (b.gate i).state = .forced ∨ (b.gate i).state = .disabled then b'.gate i = b.gate i
    else if (b.gate i).state ≠ .forced ∧ (b.gate i).state ≠ .disabled ∧ b.inUse ≤ (b.gate i).latest then
      ((b'.gate i).state = .opened ∨ (b'.gate i).state = .pending) ∧ (b'.gate i).latest = (b.gate i).latest ∧
        (b'.gate i).hold = some (now + 4 * b.cfg.hold + 1)
    else b'.gate i = ⟨.closed, (b.gate i).latest, none⟩ := by
  split
  · next fixed =>
    refine h.stays up i hi (Bool.eq_false_iff.2 fun follows => ?_)
    obtain ⟨unforced, enabled⟩ := (b.follows_iff i).1 follows
    exact fixed.elim unforced enabled
  · next free =>
    have follows := (b.follows_iff i).2 (not_or.1 free)
    split
    · next asks => exact h.asks up i hi follows (by simpa [Band.heard] using asks.2.2)
    · next silent =>
      obtain ⟨unforced, enabled⟩ := not_or.1 free
      exact h.closes up i hi follows (by simpa [Band.heard, unforced, enabled] using silent)

/-- Settles O11: the control link by its own two steps, every other block by its turn, as it stands after the turns of the others. -/
theorem restartAbortsAndClears : Obligations.RestartAbortsAndClears := by
  intro s tag accepts owed law rest eight four
  obtain ⟨e, blocks, run⟩ := exec_restart_blocks accepts owed law rest
  have configuration := blocks.configuration
  simp only [State.configuration, Prod.mk.injEq] at configuration
  obtain ⟨zmg, sau, ⟨cfgs, bank0, bank1⟩, ⟨rA, rB⟩, pool, level, flash, out, pins⟩ := configuration
  obtain ⟨silent, ended⟩ := blocks.session
  refine ⟨_, run, rfl, rfl, rfl, rfl, rfl, silent, ended, fun p hp => blocks.rested p (List.mem_range.1 hp), blocks.calmed,
    fun emergency p hp => ⟨blocks.headless emergency p hp, blocks.evacuates emergency p hp⟩, blocks.winners, fun c hc => ?_,
    fun b hb => ?_, blocks.upload, blocks.damaged, blocks.erase, blocks.settings, blocks.n, rA, rB,
    fun i hi => blocks.units i (List.mem_range.1 hi), cfgs, bank0, bank1, fun k _ => blocks.directory k, zmg, sau, flash, level, pool,
    out, pins⟩
  · obtain ⟨record, marked⟩ := blocks.channels eight c (List.mem_range.1 hc)
    exact ⟨record, fun stirred => marked (stirred.imp_left fun moved same => moved ((congrArg Channel.state record).trans same))⟩
  · have restarts := blocks.bands four b (List.mem_range.1 hb)
    obtain ⟨cfg, inUse, feed⟩ := restarts.kept
    refine ⟨cfg, inUse, feed, restarts.down, fun up => ⟨?_, fun i hi => restarts.gate up (List.mem_range.1 hi)⟩⟩
    exact (restarts.opened up).trans (by simp only [Band.asks_iff])

end Sys2Proof.Machine
end
